-- ==== Sys2Proof/Word.lean ====
section
/-! DEFINITION. The word types of the GW440 and the plainest operations on them: 16-bit bus words, 32-bit counters,
indexed tables of fixed length, saturating and clamped arithmetic (00_scope.md, "Conventions"). -/

namespace Sys2Proof

/-- A word of the host bus and of work memory: 16 bits (00_scope.md, Words and addresses). -/
abbrev Word := BitVec 16

/-- A 32-bit counter value (00_scope.md, 32-bit counters). -/
abbrev DWord := BitVec 32

/-- One count per cassette position 0 to 3. -/
abbrev Counts := Vector Nat 4

/-- The table `v` with entry `i` replaced by `x`. -/
def tabSet {α : Type} {n : Nat} (v : Vector α n) (i : Fin n) (x : α) : Vector α n :=
  v.set i.val x i.isLt

/-- The table `v` with entry `i` replaced by `f` of it. -/
def tabMod {α : Type} {n : Nat} (v : Vector α n) (i : Fin n) (f : α → α) : Vector α n :=
  tabSet v i (f (v.get i))

/-- The table whose entry `i` is `f i (v i)`. -/
def tabMap {α β : Type} {n : Nat} (v : Vector α n) (f : Fin n → α → β) : Vector β n :=
  Vector.ofFn fun i => f i (v.get i)

/-- The sum of four counts. -/
def Counts.total (v : Counts) : Nat :=
  v.get 0 + v.get 1 + v.get 2 + v.get 3

/-- Four zero counts. -/
def Counts.zero : Counts := Vector.replicate 4 0

/-- A saturating sum: it stops at `top` (00_scope.md, Counts). -/
def satAdd (top a b : Nat) : Nat := min top (a + b)

/-- A value clamped into `lo` to `hi` (00_scope.md, Arithmetic). -/
def clampNat (lo hi x : Nat) : Nat := if x < lo then lo else if hi < x then hi else x

end Sys2Proof
end

