-- ==== Sys2Proof/Config.lean ====
section
/-! DEFINITION. What is fixed for the part (identity, the built-in default profile, the sizes the manual gives) and the FREE
VALUES the manual leaves open: constants without a body, of which nothing can be proved but what holds of every value. -/

namespace Sys2Proof.Config

/-- The Identity register: part code 0x44, revision 1 (11.4). -/
def identity : Word := 0x4401#16

/-- FREE VALUE (log 4): the result of the gate's half-up rounding of `a` over 0. The manual gives round(a/b) by a division
(00_scope.md, Arithmetic; R72, R73) and no result for a divisor of 0; a commit never stores a profile that makes one. -/
opaque roundOverZero : Nat → Nat

/-- FREE VALUE (log 5): what a 32-bit count holds after a rise by `b` from `a` that its 32 bits cannot hold, for the two counts whose
rule names neither saturation nor wrapping (the presented-note total of R86, the deposit bin's lifetime total of R116). -/
opaque overflow32 : Nat → Nat → DWord

/-- FREE VALUE (log 6): word `i` of the stored profile after the `k`-th programming that was cut short (R174, R178). -/
opaque partlyProgrammed : Nat → Nat → Word

/-- FREE VALUE (log 6): by how much less one the last word of a partly programmed profile differs from its check word. -/
opaque partlyProgrammedCheck : Nat → Nat

/-- FREE VALUE (log 13): the estimate, within 1 to 8, that an exit watch entry adds to unaccounted at a wall reset when its piece has not settled,
by the piece's sequence number. R106 adds the entry's estimate, and R90 gives an unsettled entry none. -/
opaque unsettledEstimate : Nat → Nat

/-- The built-in default profile of R173 as its 63 words before the check word (layout 11.6; the defaults of R46, R71, R116, R139, R145, the
wall-wide defaults, and all four lane lockout bits set). Cassettes 0 to 3, then the wall-wide words, the bins, the lane lockout
mask, the zones, the points, words 57 to 61, and the freeze flag. -/
def defaultWords : List Nat :=
  [0, 100, 624, 0x0614, 120, 80] ++ [0, 100, 624, 0x0614, 120, 80] ++ [0, 100, 624, 0x0614, 120, 80] ++ [0, 100, 624, 0x0614, 120, 80] ++
  [100, 40, 8, 30, 45, 600] ++
  [300, 20, 200, 20, 400, 20] ++
  [0x000F] ++
  [0x1E2C, 180, 0x002C, 180, 0x0011, 0, 0x0002, 0] ++
  [0x1402, 0x1400, 0x1402, 0x0A04, 0x0A04, 0x3204, 0x0508, 0x0508, 0xC80C, 0x140C, 0x0A0C, 0x0A0C] ++
  [0, 0, 0, 0, 0, 0]

end Sys2Proof.Config
end

