-- ==== Sys2Proof/Syntax.lean ====
section
/-! DEFINITION. The COMMANDS of the GW440, one constructor per row of spec/opcode_table.json, and the kinds of their operands. The part fetches no
instruction: a command is a host bus access, an order placed in a slot, a report of a sensor, or an internal step of a block. -/

namespace Sys2Proof

/-- Lanes 0 to 3. -/
abbrev LaneId := Fin 4
/-- Cassette positions 0 to 3. -/
abbrev CassId := Fin 4
/-- Slots 0 to 3 of a page. -/
abbrev SlotId := Fin 4
/-- Pages: 0 to 3 for the lanes, 4 the service page. -/
abbrev PageId := Fin 5
/-- Zones 0 to 3. -/
abbrev ZoneId := Fin 4
/-- Alarm points 0 to 15, of which 0 to 11 are external. -/
abbrev PointId := Fin 16
/-- A word address on the host bus, fifteen lines (R159). -/
abbrev Addr := BitVec 15

/-- The five 32-bit counters that the counter read latch serves (R163). -/
inductive Counter where
  | wallSeconds | slipTotal | passageTotal | presentedTotal | depositTotal
  deriving DecidableEq, Repr

/-- What the wall's sensors show when supply is applied: the drawers' stowed and item sensors, the pockets' envelope sensors, the
cassettes' presence sensors, the twelve raw alarm inputs. (R21, R65, R138, R158 read them at power-on.) -/
structure WallInputs where
  stowed   : Vector Bool 4
  item     : Vector Bool 4
  envelope : Vector Bool 4
  cassette : Vector Bool 4
  raw      : Vector Bool 12
  deriving DecidableEq, Repr

/-- The commands. Each constructor's docstring gives its row's mnemonic where its name does not spell it. An ORDER row (DISPENSE to
CLOCK SET) is the host placing that order: its words written into the slot's body and POSTED written into its state word (log 2). -/
inductive Instr where
  | powerOn (inputs : WallInputs)
  | hostWrite (addr : Addr) (value : Word)
  | postingEvent (page : PageId) (slot : SlotId)
  | giveBack (page : PageId) (slot : SlotId)
  | orderBodyWrite (page : PageId) (slot : SlotId) (word : Fin 14) (value : Word)
  | flagSetAlias (k : Fin 16) (mask : Word)
  | flagClearAlias (k : Fin 16) (mask : Word)
  | entrySeen (entry : Fin 48)
  | entryFree (entry : Fin 48)
  | counterHighRead (counter : Counter)
  | counterLowRead (counter : Counter)
  | run
  | halt
  | wallReset (runBit : Bool)
  | attentionMaskWrite (value : Word)
  | dispense (lane : LaneId) (slot : SlotId) (tag mode amount count0 count1 count2 count3 : Word)
  | retract (lane : LaneId) (slot : SlotId) (tag : Word)
  | deposit (lane : LaneId) (slot : SlotId) (tag : Word)
  | capture (lane : LaneId) (slot : SlotId) (tag : Word)
  /-- RETURN -/
  | returnOrder (lane : LaneId) (slot : SlotId) (tag : Word)
  | laneOpen (lane : LaneId) (slot : SlotId) (tag : Word)
  | laneClose (lane : LaneId) (slot : SlotId) (tag : Word)
  | countSet (slot : SlotId) (tag cassette loaded : Word)
  | cassetteClear (slot : SlotId) (tag cassette : Word)
  | binReset (slot : SlotId) (tag bin : Word)
  | pathReset (slot : SlotId) (tag mechanism : Word)
  | zoneArm (slot : SlotId) (tag zone : Word)
  | zoneDisarm (slot : SlotId) (tag zone : Word)
  | zoneReset (slot : SlotId) (tag zone : Word)
  | lockdownClear (slot : SlotId) (tag : Word)
  | holdWall (slot : SlotId) (tag : Word)
  | releaseWall (slot : SlotId) (tag : Word)
  | profileCommit (slot : SlotId) (tag : Word)
  | profileLoad (slot : SlotId) (tag : Word)
  | clockSet (slot : SlotId) (tag high low : Word)
  | programmingEnd
  | callButtonPress (lane : LaneId)
  | sendButtonPress (lane : LaneId)
  | extendedSensorReached (lane : LaneId)
  | stowedSensorReached (lane : LaneId)
  | drawerObstruction (lane : LaneId)
  | obstructionCleared (lane : LaneId)
  /-- ITEM_SENSOR_CHANGE: the item sensor now shows `present`. -/
  | itemSensorChange (lane : LaneId) (present : Bool)
  | clearWindowExpiry (lane : LaneId)
  | takeTimerExpiry (lane : LaneId)
  | depositTimerExpiry (lane : LaneId)
  | travelBudgetOverrun (lane : LaneId)
  | liftComplete (lane : LaneId)
  /-- LIFT_OVERRUN: `envelope` and `item` are what the pocket's envelope sensor and the drawer's item sensor show at that moment (R125). -/
  | liftOverrun (lane : LaneId) (envelope item : Bool)
  | drawerForced (lane : LaneId)
  | forcedMarkCleared (lane : LaneId)
  | cassetteRemoval (cassette : CassId)
  | cassetteInsertion (cassette : CassId)
  | pickRelease
  | leadingEdge
  | trailingEdge
  | miss
  | diverterLeadingEdge
  | diverterTrailingEdge
  | encoderLoss
  | encoderRestored
  | exitLeadingEdge
  | transportJam
  | remix
  | deliveryStart
  | deliveryEnd
  /-- DELIVERY_OVERRUN: `item` is what the drawer's item sensor shows at that moment (R95). -/
  | deliveryOverrun (item : Bool)
  | purgeStart
  | purgeEnd
  | clearanceBeltEnd
  | sweepEnd
  | sweepStall
  | retractEnd
  | holdLimitExpiry (lane : LaneId)
  | servingEvaluation
  | conveyorExit
  | carryOverrun
  | conveyorClearanceEnd
  /-- RAW_INPUT_CHANGE: the raw input of external point `point` changes to its other value. -/
  | rawInputChange (point : Fin 12)
  | liveChange (point : Fin 12)
  | entryDelayExpiry (zone : ZoneId)
  | sirenTimerExpiry (zone : ZoneId)
  | holdLineOn
  | holdLineOff
  | wallSecond
  /-- ENCODER_RISING_EDGE: `sample` is what the thickness head digitises at that edge (0 to 1023 tu). -/
  | encoderRisingEdge (sample : BitVec 10)
  | hostRead (addr : Addr)
  | supplyFailure
  deriving DecidableEq, Repr

end Sys2Proof
end

