-- ==== Sys2Proof/Decode.lean ====
section
/-! DEFINITION. The command that a word of spec/opcode_table.json spells. No row of the table gives a word any bits: the GW440 has no instruction encoding,
and its commands come on its bus lines, its sensor lines and its own steps. So no word spells a command. -/

namespace Sys2Proof

/-- The command a table word spells: none, as no row has bits. -/
def decodeTableWord (_nbits _w : Nat) : Option Instr := none

end Sys2Proof
end

