-- ==== Sys2Proof/Machine/State.lean ====
section
/-! DEFINITION. The state of the GW440: every record, list, counter, timer, mark and sensor the manual gives the part, and the value of each
after power-on. Fields marked MODEL hold what the manual's rules need remembered but give no field of a record to. -/

namespace Sys2Proof.Machine

/-- Why the machine stops with a fault. The GW440 has no such event: every command has an effect in every state (log 1). -/
inductive Fault : Type
  deriving DecidableEq, Repr

/-- Why a command has no meaning. No meaning of this model answers with it: exec alone could, for a row not yet modelled. -/
inductive Refusal where
  /-- Raised by exec for a row of the table that has no meaning yet. Safe: a run stops. -/
  | notModelled (mnemonic : String)
  deriving DecidableEq, Repr

/-! ### Lanes (chapter 1), escrow (chapter 7) and the current bundle record (R114) -/

/-- Lane states (R1): CLOSED, OPEN, CLOSING, LOCKED OUT. -/
inductive LaneState where
  | closed | opened | closing | lockedOut
  deriving DecidableEq, Repr

/-- Drawer states (R1, R6). -/
inductive DrawerState where
  | stowed | opening | offered | closing | holding | lifting | jammed
  deriving DecidableEq, Repr

/-- The cycle in progress (R6). -/
inductive Cycle where
  | none | take | deposit
  deriving DecidableEq, Repr

/-- The travel in progress (R6). -/
inductive Travel where
  | none | outward | inward | liftToPocket | liftToDrawer
  deriving DecidableEq, Repr

/-- The close cause (R6). -/
inductive CloseCause where
  | customer | expiry | send | order | lockdown
  deriving DecidableEq, Repr

/-- The cycle result (R6). -/
inductive CycleResult where
  | none | taken | takenLate | left | itemIn | noItem
  deriving DecidableEq, Repr

/-- Pocket states (R122). -/
inductive PocketState where
  | empty | held | captureWait | capturing | returning
  deriving DecidableEq, Repr

/-- The escrow record of a lane (R122). Its lane tag is the lane's own number. -/
structure Pocket where
  state         : PocketState
  owner         : Option SlotId
  /-- hold-limit remaining, in ms (shown in seconds, rounded up) -/
  holdMs        : Nat
  timerRunning  : Bool
  unknownOrigin : Bool
  unattended    : Bool
  abandoned     : Bool
  stranded      : Bool
  lost          : Bool
  deriving DecidableEq, Repr

/-- Retract phases (R114). -/
inductive RetractPhase where
  | none | queued | heldBack | sweeping | draining
  deriving DecidableEq, Repr

/-- What the pulses of a sweep have found: nothing yet, the tray clear with 800 quiet pulses (R110), or an item with 2000 (R111). -/
inductive SweepFinding where
  | none | clear | lodged
  deriving DecidableEq, Repr

/-- Where a retract's pieces go (R109, R114). -/
inductive Destination where
  | none | retractBin | reject
  deriving DecidableEq, Repr

/-- The moment an outcome is decided, where that is not the order's finish (R111): wall seconds (R25) and whether the duress zone is in
ALARM (R105). -/
structure Decision where
  seconds : DWord
  duress  : Bool
  deriving DecidableEq, Repr

/-- The lane's current bundle record (R114). -/
structure BundleRecord where
  slot      : Option SlotId
  notes     : Nat
  phase     : RetractPhase
  dest      : Destination
  pieces    : Nat
  retracted : Nat
  foreign   : Nat
  /-- MODEL: pieces credited to the retract bin and to the reject bin in this retract (a RETRACT order's result fields, R115); each saturates at 65535, on
  which R115 says nothing (log 73) -/
  toRetract : Nat
  toReject  : Nat
  /-- MODEL: the moment the sweep stalled, at which the order's outcome is decided as DRAWER JAMMED (R111); none while it has not -/
  stalled   : Option Decision
  deriving DecidableEq, Repr

/-- One lane: its lane record (R1), drawer record (R6), escrow record (R122), current bundle record (R114) and sensors. The lane light is
GREEN exactly while the lane state is OPEN (R1, R5) and is computed from it. -/
structure Lane where
  state       : LaneState
  drawer      : DrawerState
  owner       : Option SlotId
  waiting     : List SlotId
  bounce      : Nat
  /-- the unexpired part of the take or deposit timer, in ms (shown in units of 100 ms, rounded up) -/
  timerMs     : Nat
  duress      : Bool
  cycle       : Cycle
  travel      : Travel
  budgetMs    : Nat
  /-- the clear window: what remains of it in ms while it runs, none while it does not -/
  window      : Option Nat
  late        : Bool
  closeCause  : CloseCause
  result      : CycleResult
  forced      : Bool
  /-- MODEL: the next arrival at the extended sensor loads 10 s (R7) -/
  shortTimer  : Bool
  /-- MODEL: the owning order has closed the drawer with this cause, so an arrival at OFFERED closes it again (R16; log 43) -/
  ownerClose  : Option CloseCause
  /-- MODEL: an ownerless close stands still for an obstruction (R8) -/
  obstructed  : Bool
  /-- MODEL: a travel out has begun at the stowed sensor, and no report has shown the drawer off that sensor since (R10; log 16) -/
  leaving     : Bool
  /-- sensors (R6): stowed, extended, item present, obstruction, and the escrow pocket's envelope sensor -/
  stowedSensor      : Bool
  extendedSensor    : Bool
  itemSensor        : Bool
  obstructionSensor : Bool
  envelopeSensor    : Bool
  pocket      : Pocket
  bundle      : BundleRecord
  deriving DecidableEq, Repr

/-! ### Orders (chapter 2) -/

/-- Slot states (R22), in the order of their codes (11.2). -/
inductive SlotState where
  | empty | posted | accepted | running | held | finished | refused
  deriving DecidableEq, Repr

/-- Phases of a dispense context (R91). -/
inductive Phase where
  | drawerWait | bundleWait | building | delivering | inDrawer | retracting | purging
  deriving DecidableEq, Repr

/-- End causes of a dispense context (R91). -/
inductive EndCause where
  | none | cancel | lockdown | rejectLimit
  deriving DecidableEq, Repr

/-- A dispense context (R91). -/
structure DispenseContext where
  phase       : Phase
  acceptance  : Nat
  outstanding : Counts
  routed      : Counts
  rejects     : Nat
  bundles     : Nat
  target      : Nat
  inDrawer    : Nat
  final       : Bool
  takenLate   : Bool
  endCause    : EndCause
  remixes     : Nat
  deriving DecidableEq, Repr

/-- A slot (2.1, 11.2). `body` is its kind, tag and twelve parameter words; `context` its progress area, which only a DISPENSE fills;
`result` the words of its result area from word 31 on, the words after the last being 0. -/
structure Slot where
  state         : SlotState
  body          : Vector Word 14
  context       : Option DispenseContext
  result        : List Word
  /-- MODEL: a cancel request for the order was answered TOO LATE (R41); it becomes word 32 of the result at the order's end -/
  tooLate       : Bool
  /-- MODEL: a cancel of an owning DEPOSIT waits for its decision at the stowed sensor (R126) -/
  cancelPending : Bool
  /-- MODEL: the lockdown mark of a DEPOSIT (R127) -/
  lockdownMark  : Bool
  deriving DecidableEq, Repr

/-- A page: four slots and the posting list of R26. -/
structure Page where
  slots   : Vector Slot 4
  posting : List SlotId
  deriving DecidableEq, Repr

/-! ### Cassettes (chapter 3) -/

/-- Cassette states (R46). -/
inductive CassetteState where
  | absent | uncounted | inService | low | empty | suspect
  deriving DecidableEq, Repr

/-- A cassette record (R46). `remaining` and `availability` are computed from loaded, drawn and reserved (R47, R54). -/
structure Cassette where
  state    : CassetteState
  loaded   : Nat
  drawn    : Nat
  reserved : Nat
  doubt    : Bool
  tr       : Nat
  misses   : Nat
  rejects  : Nat
  passages : Nat
  /-- the presence sensor as last confirmed -/
  present  : Bool
  deriving DecidableEq, Repr

/-! ### The note gate (chapter 4) -/

/-- The source of a passage (R69). -/
inductive Source where
  | cassette (c : CassId) | retract (n : LaneId) | clearance
  deriving DecidableEq, Repr

/-- The classes of a passage (11.5), in the order of their codes. -/
inductive PieceClass where
  | single | close | long | short | double | thin | unmeasured | retractPiece
  deriving DecidableEq, Repr

/-- The routes of a piece (11.3), in the order of their codes. -/
inductive Route where
  | reject | stacker | retractBin
  deriving DecidableEq, Repr

/-- What the gate has decided of a passage at its trailing edge. -/
structure Measure where
  length    : Nat
  thickness : Nat
  cls       : PieceClass
  estimate  : Nat
  route     : Route
  deriving DecidableEq, Repr

/-- A passage from its leading edge at the gate to its settlement (R67, R75, R76). Those with `reached` false, in order, are the in-flight list. -/
structure Passage where
  seq      : Nat
  source   : Source
  /-- MODEL: its leading edge matched an open pick (R69), so that a pick is pending until it settles (R93) -/
  fromPick : Bool
  gap      : Nat
  /-- its leading edge has reached the diverter -/
  reached  : Bool
  /-- what its trailing edge has decided; none while it is in the gate -/
  measure  : Option Measure
  deriving DecidableEq, Repr

/-- An open pick: its cassette and the pulses since its release (R66). -/
structure OpenPick where
  cassette : CassId
  travel   : Nat
  deriving DecidableEq, Repr

/-- A gate trace entry (R82). -/
structure TraceEntry where
  seq       : Nat
  source    : Source
  cls       : PieceClass
  length    : Nat
  thickness : Nat
  gap       : Nat
  estimate  : Nat
  route     : Route
  cut       : Bool
  deriving DecidableEq, Repr

/-- The gate record and the gate trace (R66, R82). The double thresholds are computed from Tr and m (R71). -/
structure Gate where
  inPassage    : Bool
  /-- MODEL: presence (R67), as its last change left it (log 44) -/
  presence     : Bool
  source       : Source
  runLength    : Nat
  runPeak      : Nat
  gap          : Nat
  /-- none is FIRST -/
  gapCounter   : Option Nat
  cut          : Bool
  /-- MODEL: loss was in force at some point of the passage in the gate (R72) -/
  lossSeen     : Bool
  nextSeq      : Nat
  openPicks    : List OpenPick
  lastPick     : Option CassId
  /-- the passages that have not settled, oldest first; those not `reached` are the in-flight list -/
  passages     : List Passage
  latch        : Option (Route × Nat)
  /-- the flap stands at STACKER -/
  flapStacker  : Bool
  acceptEnable : Bool
  loss         : Bool
  passageTotal : Nat
  traceNext    : Fin 64
  traceFill    : Nat
  trace        : Vector (Option TraceEntry) 64
  deriving DecidableEq, Repr

/-! ### Transport (chapters 5 and 6) -/

/-- Transport states (R86). -/
inductive TransportState where
  | idle | granted | purging | clearing | faulted | unknown
  deriving DecidableEq, Repr

/-- The join (R86). The destination of a retract join is in the lane's bundle record (R109). -/
inductive Join where
  | none | dispense (n : LaneId) | retract (n : LaneId) | clearance
  deriving DecidableEq, Repr

/-- Kinds of transport request (R88). -/
inductive RequestKind where
  | bundle | retract
  deriving DecidableEq, Repr

/-- A request of the request queue. -/
structure Request where
  lane : LaneId
  kind : RequestKind
  deriving DecidableEq, Repr

/-- An exit watch entry (R90): the estimate and the route are known once the piece has settled. -/
structure WatchEntry where
  seq     : Nat
  source  : Source
  settled : Option (Nat × Route)
  travel  : Nat
  deriving DecidableEq, Repr

/-- For what the stacker is dumping (R97, R98, R99). -/
inductive DumpFor where
  | tenure | fault (holder : Option LaneId) | clearance
  deriving DecidableEq, Repr

/-- A dump of the stacker in progress. -/
structure Dump where
  purpose : DumpFor
  leftMs  : Nat
  deriving DecidableEq, Repr

/-- The transport record (R86) and its working state. The stacker count is the sum of the composition. -/
structure Transport where
  state          : TransportState
  join           : Join
  queue          : List Request
  composition    : Counts
  watch          : List WatchEntry
  unaccounted    : Nat
  seen           : Nat
  presentedTotal : DWord
  /-- MODEL: sequence numbers of pieces that reached an exit before they settled (R90) -/
  exitedEarly    : List Nat
  /-- the dump in progress and what is left of its 1.5 s (R97) -/
  dump           : Option Dump
  /-- pulses a clearance has still to run (R99) -/
  clearPulses    : Nat
  /-- the quiet distance of a retract (R110) -/
  quiet          : Nat
  /-- MODEL: what the pulses of the sweep in progress, or of the last, have found (R110, R111; log 72) -/
  sweepFound     : SweepFinding
  /-- ms the motor has been driven with no encoder edge (R79) -/
  silentMs       : Nat
  deriving DecidableEq, Repr

/-! ### The dispense engine (chapter 5) -/

/-- The tally store of an unfinished DISPENSE (R91, R105), and what its end depends on. -/
structure Tally where
  chosen     : Counts
  accepted   : Nat
  purged     : Nat
  presented  : Counts
  rejected   : Nat
  taken      : Nat
  retracted  : Nat
  foreign    : Nat
  unresolved : Nat
  duress     : Bool
  /-- MODEL: a re-mix trigger waits for its re-mix (R58) -/
  remixWait  : Bool
  /-- MODEL: a transport fault has reached the order (R98) -/
  faulted    : Bool
  /-- MODEL: a bundle was left and retracted (R96) -/
  bundleLeft : Bool
  deriving DecidableEq, Repr

/-- The context the engine has loaded for a tenure (R91). -/
structure Loaded where
  lane    : LaneId
  slot    : SlotId
  context : DispenseContext
  deriving DecidableEq, Repr

/-- The Dispense Engine (R91 to R95). -/
structure Engine where
  acceptances : Nat
  loaded      : Option Loaded
  tallies     : Vector (Option Tally) 4
  /-- routed-in-bundle of the tenure (R92) -/
  routedInBundle : Nat
  /-- the cassette of the previous release of the tenure, and the belt travel since (R93) -/
  lastRelease : Option CassId
  sinceRelease : Nat
  /-- what is left of the delivery's 2 s (R95) -/
  deliveryMs  : Nat
  deriving DecidableEq, Repr

/-! ### Conveyor (chapter 7) and bins (chapter 6) -/

/-- Conveyor states (R128). -/
inductive ConveyorState where
  | unknown | clearing | idle | carrying | faulted
  deriving DecidableEq, Repr

/-- The conveyor record (R128). -/
structure Conveyor where
  state   : ConveyorState
  queue   : List LaneId
  carried : Option LaneId
  carryMs : Nat
  clearMs : Nat
  seen    : Nat
  /-- MODEL: the running clearance began from FAULTED (R132, R136) -/
  clearFromFault : Bool
  deriving DecidableEq, Repr

/-- Bins 0 reject, 1 retract, 2 deposit (R116). -/
abbrev BinId := Fin 3

/-- A bin record (R116). The deposit bin's lifetime total is `Wall.depositTotal`. -/
structure Bin where
  capacity  : Nat
  margin    : Nat
  count     : Nat
  nearFull  : Bool
  full      : Bool
  door      : Bool
  restarted : Bool
  deriving DecidableEq, Repr

/-! ### Alarm (chapter 8) -/

/-- A point record (R139). `live` and `known` are true for ACTIVE. `debounce` is in units of 10 ms; `stableMs` is the stable time of R140. -/
structure Point where
  raw      : Bool
  live     : Bool
  known    : Bool
  alert    : Bool
  restored : Bool
  changes  : Nat
  polarity : Bool
  zone     : ZoneId
  debounce : Nat
  entryDelay : Bool
  stableMs : Nat
  deriving DecidableEq, Repr

/-- Zone modes (R145). -/
inductive ZoneMode where
  | armable | always | supervisory
  deriving DecidableEq, Repr

/-- Zone states (R145). -/
inductive ZoneState where
  | disarmed | armed | entryDelay | alarm
  deriving DecidableEq, Repr

/-- A zone record (R145); its members are the points whose zone field names it. -/
structure Zone where
  mode         : ZoneMode
  state        : ZoneState
  entryDelay   : Nat
  sirenTime    : Nat
  siren        : Bool
  strobe       : Bool
  silent       : Bool
  lockdownFlag : Bool
  /-- the unexpired entry delay, in ms (shown in seconds, rounded up) -/
  entryMs      : Nat
  /-- the unexpired siren time in ms while the siren timer runs -/
  sirenMs      : Option Nat
  trigger      : Option PointId
  alarms       : Nat
  deriving DecidableEq, Repr

/-- The alarm status record (R153); the alert count is computed from the points. -/
structure AlarmStatus where
  lockdown      : Bool
  lockdownZone  : Option ZoneId
  lockdownStart : DWord
  siren         : Bool
  strobe        : Bool
  silent        : Bool
  deriving DecidableEq, Repr

/-! ### The board, the port and the profile (chapters 9 and 10) -/

/-- Entry states (9.4). -/
inductive EntryState where
  | free | new | seen
  deriving DecidableEq, Repr

/-- A board entry (9.4, 11.3): `key` is the kind's key base plus the subject. -/
structure Entry where
  state  : EntryState
  key    : Nat
  count  : Nat
  first  : Word
  last   : Word
  detail : Word
  deriving DecidableEq, Repr

/-- The port record (R170) and the Attention Mask (R169). -/
structure Port where
  slips         : Nat
  slipTotal     : DWord
  seconds       : DWord
  /-- ms of the second timer (R179) -/
  secondMs      : Nat
  running       : Bool
  startUpMark   : Bool
  /-- MODEL: the start-up transport and conveyor clearances have ended (R29) -/
  transportReady : Bool
  conveyorReady : Bool
  lineCause     : Bool
  orderCause    : Bool
  holdStart     : DWord
  mask          : Word
  deriving DecidableEq, Repr

/-- A commit being programmed (R174). -/
structure Programming where
  words   : Vector Word 64
  clamped : Nat
  frozen  : Nat
  leftMs  : Nat
  deriving DecidableEq, Repr

/-- The Profile Store (R171). -/
structure ProfileStore where
  stored      : Vector Word 64
  active      : Vector Word 64
  image       : Vector Word 64
  programming : Option Programming
  /-- MODEL: how many programmings have been cut short; it numbers the free values of log 6 -/
  cutShort    : Nat
  deriving DecidableEq, Repr

/-- The wall: every block but the System Bus Port's read side and the general area. -/
structure Wall where
  pages     : Vector Page 5
  flags     : Vector Word 16
  lanes     : Vector Lane 4
  cassettes : Vector Cassette 4
  gate      : Gate
  transport : Transport
  engine    : Engine
  conveyor  : Conveyor
  bins      : Vector Bin 3
  depositTotal : DWord
  points    : Vector Point 16
  zones     : Vector Zone 4
  alarm     : AlarmStatus
  board     : Vector Entry 48
  lost      : Nat
  port      : Port
  profile   : ProfileStore
  deriving DecidableEq, Repr

/-- The counter read latch (R163): the counter it holds and the latched low word. -/
structure Latch where
  counter : Counter
  value   : Word
  deriving DecidableEq, Repr

/-- The machine. `pending` is the queue of the commands that wait, first in first out. -/
structure State where
  /-- MODEL: the commands that wait -/
  pending : List Instr
  /-- MODEL: supply is applied (R174, R177) -/
  supply  : Bool
  /-- the general area 0x1100 to 0x1FFF, by address: only words other than 0 are listed, addresses rising -/
  memory  : List (Nat × Word)
  /-- the counter read latch; none is disarmed -/
  latch   : Option Latch
  /-- the word the last host read drove on D0 to D15 -/
  busData : Word
  wall    : Wall
  deriving DecidableEq, Repr

/-! ### The values after power-on -/

/-- A word of 0. -/
def zeroBody : Vector Word 14 := Vector.replicate 14 0#16

/-- An EMPTY slot with every word 0 (R44). -/
def Slot.reset : Slot :=
  { state := .empty, body := zeroBody, context := none, result := [], tooLate := false, cancelPending := false, lockdownMark := false }

/-- A page after power-on (R44). -/
def Page.reset : Page := { slots := Vector.replicate 4 Slot.reset, posting := [] }

/-- A pocket found EMPTY (R138). -/
def Pocket.reset : Pocket :=
  { state := .empty, owner := none, holdMs := 0, timerRunning := false, unknownOrigin := false, unattended := false, abandoned := false,
    stranded := false, lost := false }

/-- The current bundle record after power-on (R114). -/
def BundleRecord.reset : BundleRecord :=
  { slot := none, notes := 0, phase := .none, dest := .none, pieces := 0, retracted := 0, foreign := 0, toRetract := 0, toReject := 0,
    stalled := none }

/-- A lane after power-on with its drawer found stowed and its tray and pocket clear, under the default profile, which locks every lane out
(R21, R4, R173). The sensors' values are log 7's. -/
def Lane.reset : Lane :=
  { state := .lockedOut, drawer := .stowed, owner := none, waiting := [], bounce := 0, timerMs := 0, duress := false,
    cycle := .none, travel := .none, budgetMs := 0, window := none, late := false, closeCause := .customer, result := .none, forced := false,
    shortTimer := false, ownerClose := none, obstructed := false, leaving := false,
    stowedSensor := true, extendedSensor := false, itemSensor := false, obstructionSensor := false, envelopeSensor := false,
    pocket := Pocket.reset, bundle := BundleRecord.reset }

/-- A cassette record after power-on with a cassette found in the position (R65); Tn is 120 in the default profile. -/
def Cassette.reset : Cassette :=
  { state := .uncounted, loaded := 0, drawn := 0, reserved := 0, doubt := false, tr := 120, misses := 0, rejects := 0, passages := 0,
    present := true }

/-- The gate record after power-on (R83). -/
def Gate.reset : Gate :=
  { inPassage := false, presence := false, source := .clearance, runLength := 0, runPeak := 0, gap := 0, gapCounter := none, cut := false, lossSeen := false,
    nextSeq := 0, openPicks := [], lastPick := none, passages := [], latch := none, flapStacker := false, acceptEnable := false, loss := false,
    passageTotal := 0, traceNext := 0, traceFill := 0, trace := Vector.replicate 64 none }

/-- The transport record after power-on (R106). -/
def Transport.reset : Transport :=
  { state := .unknown, join := .none, queue := [], composition := Counts.zero, watch := [], unaccounted := 0, seen := 0, presentedTotal := 0#32,
    exitedEarly := [], dump := none, clearPulses := 0, quiet := 0, sweepFound := .none, silentMs := 0 }

/-- The engine after power-on (R106). -/
def Engine.reset : Engine :=
  { acceptances := 0, loaded := none, tallies := Vector.replicate 4 none, routedInBundle := 0, lastRelease := none, sinceRelease := 0,
    deliveryMs := 0 }

/-- The conveyor record after power-on (R138). -/
def Conveyor.reset : Conveyor :=
  { state := .unknown, queue := [], carried := none, carryMs := 0, clearMs := 0, seen := 0, clearFromFault := false }

/-- A bin record after power-on with its door closed (R121). -/
def Bin.reset (capacity : Nat) : Bin :=
  { capacity := capacity, margin := 20, count := 0, nearFull := false, full := false, door := false, restarted := true }

/-- A point record after power-on with its input at 0 (R158), from the default settings (R139). -/
def Point.reset (zone : ZoneId) (debounce : Nat) (entryDelay : Bool) : Point :=
  { raw := false, live := false, known := false, alert := false, restored := false, changes := 0, polarity := false, zone := zone,
    debounce := debounce, entryDelay := entryDelay, stableMs := 0 }

/-- A zone record after power-on (R158), from the default settings (R145). -/
def Zone.reset (mode : ZoneMode) (state : ZoneState) (entryDelay sirenTime : Nat) (siren strobe silent lockdownFlag : Bool) : Zone :=
  { mode := mode, state := state, entryDelay := entryDelay, sirenTime := sirenTime, siren := siren, strobe := strobe, silent := silent,
    lockdownFlag := lockdownFlag, entryMs := 0, sirenMs := none, trigger := none, alarms := 0 }

/-- A FREE entry: all four words 0 (R166). -/
def Entry.blank : Entry := { state := .free, key := 0, count := 0, first := 0#16, last := 0#16, detail := 0#16 }

/-- The port record after power-on (R170, R177). -/
def Port.reset : Port :=
  { slips := 0, slipTotal := 0#32, seconds := 0#32, secondMs := 0, running := false, startUpMark := true, transportReady := false,
    conveyorReady := false, lineCause := false, orderCause := false, holdStart := 0#32, mask := 0#16 }

/-- The check word of a profile: the 16-bit sum of its first 63 words with every bit inverted (R171). -/
def profileCheck (words : Vector Word 64) : Word := ~~~ ((words.toList.take 63).foldl (· + ·) 0#16)

/-- The built-in default profile with its check word (R173, R171). -/
def defaultProfile : Vector Word 64 :=
  let body : Vector Word 64 := Vector.ofFn fun i => BitVec.ofNat 16 (Config.defaultWords.getD i.val 0)
  tabSet body 63 (profileCheck body)

/-- The Profile Store after power-on with the store of log 8: the image is the store as read (R171). -/
def ProfileStore.reset : ProfileStore :=
  { stored := Vector.replicate 64 0#16, active := defaultProfile, image := Vector.replicate 64 0#16, programming := none, cutShort := 0 }

/-- The wall after power-on with the store of log 8, which fails its check: the defaults are active and PROFILE DEFAULTED stands on the board
with detail 1 (R172). -/
def Wall.reset : Wall :=
  { pages := Vector.replicate 5 Page.reset, flags := Vector.replicate 16 0#16, lanes := Vector.replicate 4 Lane.reset,
    cassettes := Vector.replicate 4 Cassette.reset, gate := Gate.reset, transport := Transport.reset, engine := Engine.reset,
    conveyor := Conveyor.reset, bins := #v[Bin.reset 300, Bin.reset 200, Bin.reset 400], depositTotal := 0#32,
    points := #v[Point.reset 0 20 true, Point.reset 0 20 false, Point.reset 0 20 true, Point.reset 1 10 false, Point.reset 1 10 false,
      Point.reset 1 50 false, Point.reset 2 5 false, Point.reset 2 5 false, Point.reset 3 200 false, Point.reset 3 20 false,
      Point.reset 3 10 false, Point.reset 3 10 false, Point.reset 3 0 false, Point.reset 3 0 false, Point.reset 3 0 false,
      Point.reset 3 0 false],
    zones := #v[Zone.reset .armable .disarmed 30 180 true true false true, Zone.reset .armable .disarmed 0 180 true true false true,
      Zone.reset .always .armed 0 0 false false true false, Zone.reset .supervisory .disarmed 0 0 false false false false],
    alarm := { lockdown := false, lockdownZone := none, lockdownStart := 0#32, siren := false, strobe := false, silent := false },
    board := tabSet (Vector.replicate 48 Entry.blank) 0
      { state := .new, key := 58, count := 1, first := 0#16, last := 0#16, detail := 1#16 },
    lost := 0, port := Port.reset,
    profile := ProfileStore.reset }

/-- The machine right after power-on. -/
def State.reset : State :=
  { pending := [], supply := true, memory := [], latch := none, busData := 0#16, wall := Wall.reset }

end Sys2Proof.Machine
end

