-- ==== Sys2Proof/Machine/Operands.lean ====
section
/-! DEFINITION. Operand forms: the codes of 11.5, the places of words on the bus (9.1, 11.1), the fields of the active profile (11.6),
bit fields, and the rounding of the gate. -/

namespace Sys2Proof.Machine

/-- Bits `lo` to `lo + n - 1` of `x`. -/
def bits (x lo n : Nat) : Nat := x / 2 ^ lo % 2 ^ n

/-- `x` with bits `lo` to `lo + n - 1` replaced by `v`. -/
def setBits (x lo n v : Nat) : Nat := x - bits x lo n * 2 ^ lo + v % 2 ^ n * 2 ^ lo

/-- A number shown in one word. -/
def word (n : Nat) : Word := BitVec.ofNat 16 n

/-- The high word of a 32-bit value, which stands first (00_scope.md, 32-bit counters). -/
def highWord (x : DWord) : Word := x.extractLsb' 16 16

/-- The low word of a 32-bit value. -/
def lowWord (x : DWord) : Word := x.extractLsb' 0 16

/-- The 32-bit value of two words, high word first. -/
def dword (high low : Word) : DWord := high ++ low

/-- A mark in a word: bit `i` if it is set. -/
def markBit (i : Nat) (b : Bool) : Nat := if b then 2 ^ i else 0

/-- Time in units of `unit` ms, rounded up (R1, R122, R145). -/
def roundUp (ms unit : Nat) : Nat := (ms + (unit - 1)) / unit

/-- The half-up rounding of a/b: floor((2a + b) / (2b)) (00_scope.md, Arithmetic). Over 0 it is a free value (log 4). -/
def roundHalfUp (a b : Nat) : Nat := if b = 0 then Config.roundOverZero a else (2 * a + b) / (2 * b)

/-! ### Order kinds and outcomes (11.5) -/

/-- The order kinds. -/
inductive Kind where
  | dispense | retract | deposit | capture | returnEnvelope | laneOpen | laneClose
  | countSet | cassetteClear | binReset | pathReset | zoneArm | zoneDisarm | zoneReset | lockdownClear | holdWall | releaseWall
  | profileCommit | profileLoad | clockSet
  deriving DecidableEq, Repr

/-- The kind codes of 11.5. -/
def Kind.code : Kind → Nat
  | .dispense => 0x01 | .retract => 0x02 | .deposit => 0x03 | .capture => 0x04 | .returnEnvelope => 0x05 | .laneOpen => 0x06
  | .laneClose => 0x07 | .countSet => 0x11 | .cassetteClear => 0x12 | .binReset => 0x13 | .pathReset => 0x14 | .zoneArm => 0x15
  | .zoneDisarm => 0x16 | .zoneReset => 0x17 | .lockdownClear => 0x18 | .holdWall => 0x19 | .releaseWall => 0x1A
  | .profileCommit => 0x1B | .profileLoad => 0x1C | .clockSet => 0x1D

/-- The kind a code names, if it names one. -/
def Kind.ofCode (code : Nat) : Option Kind :=
  [Kind.dispense, .retract, .deposit, .capture, .returnEnvelope, .laneOpen, .laneClose, .countSet, .cassetteClear, .binReset, .pathReset,
    .zoneArm, .zoneDisarm, .zoneReset, .lockdownClear, .holdWall, .releaseWall, .profileCommit, .profileLoad, .clockSet].find?
    fun k => k.code == code

/-- The tracks of R27. -/
inductive Track where
  | note | envelope | lane | service
  deriving DecidableEq, Repr

/-- The track of a kind (R27). -/
def Kind.track : Kind → Track
  | .dispense | .retract => .note
  | .deposit | .capture | .returnEnvelope => .envelope
  | .laneOpen | .laneClose => .lane
  | _ => .service

/-- Page 4 is the service page. -/
def servicePage : PageId := 4

/-- The page of a lane. -/
def lanePage (n : LaneId) : PageId := n.castSucc

/-- The lane of a page, if it is a lane page. -/
def laneOf (p : PageId) : Option LaneId := if h : p.val < 4 then some ⟨p.val, h⟩ else none

/-- The kind a slot's body names among the kinds of its page's tracks (R27). -/
def kindOn (p : PageId) (code : Word) : Option Kind :=
  match Kind.ofCode code.toNat with
  | some k => if (k.track = .service) = (p = servicePage) then some k else none
  | none => none

/-- Outcomes and refusals (11.5). -/
inductive OrderEnd where
  | done | taken | takenLate | retracted | partialEnd | cancelled | inEscrow | noItem | captured | capturedAbandoned | returned
  | rejectLimit | transportFault | drawerJammed | conveyorJammed | lockdown
  | unknownKind | badParameter | laneClosed | laneLockedOut | noMix | overLimit | escrowFull | nothingHeld | binFull | pathFault | notQuiet
  | notServiced | notPresent | pointsActive | unacknowledged | zoneInAlarm | drawerOccupied
  deriving DecidableEq, Repr

/-- The outcome codes of 11.5. -/
def OrderEnd.code : OrderEnd → Nat
  | .done => 1 | .taken => 2 | .takenLate => 3 | .retracted => 4 | .partialEnd => 5 | .cancelled => 6 | .inEscrow => 7 | .noItem => 8
  | .captured => 9 | .capturedAbandoned => 10 | .returned => 11 | .rejectLimit => 32 | .transportFault => 33 | .drawerJammed => 34
  | .conveyorJammed => 35 | .lockdown => 36 | .unknownKind => 64 | .badParameter => 65 | .laneClosed => 66 | .laneLockedOut => 67
  | .noMix => 68 | .overLimit => 69 | .escrowFull => 70 | .nothingHeld => 71 | .binFull => 72 | .pathFault => 73 | .notQuiet => 74
  | .notServiced => 75 | .notPresent => 76 | .pointsActive => 77 | .unacknowledged => 78 | .zoneInAlarm => 79 | .drawerOccupied => 80

/-! ### Codes of named values: the position in the defining list, from 0 (R180, 11.2, 11.3) -/

/-- Slot state codes (11.2). -/
def SlotState.code : SlotState → Nat
  | .empty => 0 | .posted => 1 | .accepted => 2 | .running => 3 | .held => 4 | .finished => 5 | .refused => 6

/-- Lane state codes. -/
def LaneState.code : LaneState → Nat
  | .closed => 0 | .opened => 1 | .closing => 2 | .lockedOut => 3

/-- Drawer state codes. -/
def DrawerState.code : DrawerState → Nat
  | .stowed => 0 | .opening => 1 | .offered => 2 | .closing => 3 | .holding => 4 | .lifting => 5 | .jammed => 6

/-- Cycle codes. -/
def Cycle.code : Cycle → Nat
  | .none => 0 | .take => 1 | .deposit => 2

/-- Travel codes, which are also the DRAWER JAMMED details OUT 1, IN 2, LIFT TO POCKET 3, LIFT TO DRAWER 4 (11.5). -/
def Travel.code : Travel → Nat
  | .none => 0 | .outward => 1 | .inward => 2 | .liftToPocket => 3 | .liftToDrawer => 4

/-- Close cause codes. -/
def CloseCause.code : CloseCause → Nat
  | .customer => 0 | .expiry => 1 | .send => 2 | .order => 3 | .lockdown => 4

/-- Cycle result codes. -/
def CycleResult.code : CycleResult → Nat
  | .none => 0 | .taken => 1 | .takenLate => 2 | .left => 3 | .itemIn => 4 | .noItem => 5

/-- Pocket state codes. -/
def PocketState.code : PocketState → Nat
  | .empty => 0 | .held => 1 | .captureWait => 2 | .capturing => 3 | .returning => 4

/-- Retract phase codes. -/
def RetractPhase.code : RetractPhase → Nat
  | .none => 0 | .queued => 1 | .heldBack => 2 | .sweeping => 3 | .draining => 4

/-- Destination codes. -/
def Destination.code : Destination → Nat
  | .none => 0 | .retractBin => 1 | .reject => 2

/-- The route a destination gives a retract's pieces (R74). -/
def Destination.route : Destination → Route
  | .retractBin => .retractBin
  | _ => .reject

/-- Phase codes of a dispense context. -/
def Phase.code : Phase → Nat
  | .drawerWait => 0 | .bundleWait => 1 | .building => 2 | .delivering => 3 | .inDrawer => 4 | .retracting => 5 | .purging => 6

/-- End cause codes (11.2, word 29). -/
def EndCause.code : EndCause → Nat
  | .none => 0 | .cancel => 1 | .lockdown => 2 | .rejectLimit => 3

/-- Cassette state codes. -/
def CassetteState.code : CassetteState → Nat
  | .absent => 0 | .uncounted => 1 | .inService => 2 | .low => 3 | .empty => 4 | .suspect => 5

/-- Source codes: cassette 0 to 3, retract lane 4 to 7, clearance 8 (11.3). -/
def Source.code : Source → Nat
  | .cassette c => c.val | .retract n => 4 + n.val | .clearance => 8

/-- Class codes (11.5). -/
def PieceClass.code : PieceClass → Nat
  | .single => 0 | .close => 1 | .long => 2 | .short => 3 | .double => 4 | .thin => 5 | .unmeasured => 6 | .retractPiece => 7

/-- Route codes (11.3). -/
def Route.code : Route → Nat
  | .reject => 0 | .stacker => 1 | .retractBin => 2

/-- Transport state codes. -/
def TransportState.code : TransportState → Nat
  | .idle => 0 | .granted => 1 | .purging => 2 | .clearing => 3 | .faulted => 4 | .unknown => 5

/-- The join as the TRANSPORT FAULT detail gives it: 0 for none or clearance, 1 + n dispense, 5 + n retract (R98). -/
def Join.faultCode : Join → Nat
  | .none | .clearance => 0
  | .dispense n => 1 + n.val
  | .retract n => 5 + n.val

/-- Conveyor state codes. -/
def ConveyorState.code : ConveyorState → Nat
  | .unknown => 0 | .clearing => 1 | .idle => 2 | .carrying => 3 | .faulted => 4

/-- Zone mode codes (11.6). -/
def ZoneMode.code : ZoneMode → Nat
  | .armable => 0 | .always => 1 | .supervisory => 2

/-- Zone state codes. -/
def ZoneState.code : ZoneState → Nat
  | .disarmed => 0 | .armed => 1 | .entryDelay => 2 | .alarm => 3

/-- Board entry state codes (11.3). -/
def EntryState.code : EntryState → Nat
  | .free => 0 | .new => 1 | .seen => 2

/-! ### Board kinds (R167) and their keys (11.5) -/

/-- The board kinds, each with its subject. -/
inductive News where
  | cassetteLow (c : CassId) | cassetteEmpty (c : CassId) | cassetteSuspect (c : CassId) | cassetteRemoved (c : CassId)
  | binNearFull (k : BinId) | binFull (k : BinId) | clearancePieces (k : BinId)
  | retractDiverted (n : LaneId) | escrowStranded (n : LaneId) | unattendedCapture (n : LaneId) | foreignPieces (n : LaneId)
  | drawerJammed (n : LaneId) | zoneAlarm (z : ZoneId) | zoneCleared (z : ZoneId)
  | lockdownOn | lockdownOff | transportFault | conveyorFault | encoderLoss | profileDefaulted | profileClamped | ordersDiscarded
  | protocolSlip | holdOn | holdOff
  deriving DecidableEq, Repr

/-- The key of a board kind and subject: key base plus subject number (11.5). -/
def News.key : News → Nat
  | .cassetteLow c => c.val | .cassetteEmpty c => 4 + c.val | .cassetteSuspect c => 8 + c.val | .cassetteRemoved c => 12 + c.val
  | .binNearFull k => 16 + k.val | .binFull k => 19 + k.val | .clearancePieces k => 22 + k.val
  | .retractDiverted n => 25 + n.val | .escrowStranded n => 29 + n.val | .unattendedCapture n => 33 + n.val
  | .foreignPieces n => 37 + n.val | .drawerJammed n => 41 + n.val | .zoneAlarm z => 45 + z.val | .zoneCleared z => 49 + z.val
  | .lockdownOn => 53 | .lockdownOff => 54 | .transportFault => 55 | .conveyorFault => 56 | .encoderLoss => 57
  | .profileDefaulted => 58 | .profileClamped => 59 | .ordersDiscarded => 60 | .protocolSlip => 61 | .holdOn => 62 | .holdOff => 63

/-! ### The fields of a profile (11.6) -/

/-- Word `i` of a profile. -/
def profileWord (p : Vector Word 64) (i : Nat) : Nat := (p.toList.getD i 0#16).toNat

/-- Word `i` of the active profile. -/
def Wall.setting (w : Wall) (i : Nat) : Nat := profileWord w.profile.active i

/-- The denomination of a position (R46). -/
def Wall.denomination (w : Wall) (c : CassId) : Nat := w.setting (6 * c.val)
/-- The low threshold of a position (R46). -/
def Wall.lowThreshold (w : Wall) (c : CassId) : Nat := w.setting (6 * c.val + 1)
/-- Ln of a position (R71). -/
def Wall.noteLength (w : Wall) (c : CassId) : Nat := w.setting (6 * c.val + 2)
/-- Lt of a position (R71). -/
def Wall.lengthTolerance (w : Wall) (c : CassId) : Nat := bits (w.setting (6 * c.val + 3)) 0 8
/-- m of a position (R71). -/
def Wall.doubleMargin (w : Wall) (c : CassId) : Nat := bits (w.setting (6 * c.val + 3)) 8 4
/-- Tn of a position (R71). -/
def Wall.noteThickness (w : Wall) (c : CassId) : Nat := w.setting (6 * c.val + 4)
/-- S of a position (R71). -/
def Wall.gapSettle (w : Wall) (c : CassId) : Nat := w.setting (6 * c.val + 5)
/-- The order note limit N (R46). -/
def Wall.noteLimit (w : Wall) : Nat := w.setting 24
/-- The bundle limit B (R92). -/
def Wall.bundleLimit (w : Wall) : Nat := w.setting 25
/-- The reject limit (R94). -/
def Wall.rejectLimit (w : Wall) : Nat := w.setting 26
/-- The take time in ms (R14). -/
def Wall.takeTimeMs (w : Wall) : Nat := w.setting 27 * 1000
/-- The deposit time in ms (R17). -/
def Wall.depositTimeMs (w : Wall) : Nat := w.setting 28 * 1000
/-- The hold limit in ms (R123). -/
def Wall.holdLimitMs (w : Wall) : Nat := w.setting 29 * 1000
/-- The capacity of a bin (R116). -/
def Wall.binCapacity (w : Wall) (k : BinId) : Nat := w.setting (30 + 2 * k.val)
/-- The near-full margin of a bin (R116). -/
def Wall.binMargin (w : Wall) (k : BinId) : Nat := w.setting (31 + 2 * k.val)
/-- Whether the lane lockout mask holds the lane's bit (R4). -/
def Wall.lockedOut (w : Wall) (n : LaneId) : Bool := bits (w.setting 36) n.val 1 == 1
/-- The first word of a zone's settings. -/
def Wall.zoneWord (w : Wall) (z : ZoneId) : Nat := w.setting (37 + 2 * z.val)
/-- The word of an external point's settings. -/
def Wall.pointWord (w : Wall) (p : Nat) : Nat := w.setting (45 + p)

/-- The default mode of a zone (R145). -/
def defaultMode (z : ZoneId) : ZoneMode :=
  if z = 2 then .always else if z = 3 then .supervisory else .armable

/-- The mode a zone's two mode bits name. The value 3 names nothing and is read as the zone's default (R174 step 1; log 9). -/
def modeOf (z : ZoneId) (code : Nat) : ZoneMode :=
  if code = 0 then .armable else if code = 1 then .always else if code = 2 then .supervisory else defaultMode z

/-! ### Places on the bus (9.1, 11.1) -/

/-- The address of word `i` of a slot (11.1). -/
def slotAddress (p : PageId) (s : SlotId) (i : Nat) : Nat := 0x200 * p.val + 0x20 + 0x60 * s.val + i

/-- The address of a board entry's state word (9.4). -/
def entryAddress (e : Fin 48) : Nat := 0x0D00 + 4 * e.val

/-- The address of a counter's high word: port record, gate record, transport record, deposit bin record (R163, R180; log 10). -/
def counterAddress : Counter → Nat
  | .wallSeconds => 0x0F83
  | .slipTotal => 0x0F81
  | .passageTotal => 0x0A90
  | .presentedTotal => 0x0AB0
  | .depositTotal => 0x0B23

/-- The five counters. -/
def counters : List Counter := [.wallSeconds, .slipTotal, .passageTotal, .presentedTotal, .depositTotal]

/-- What the System Bus Port finds at an address when the host writes it (R159, R168). -/
inductive Place where
  | slotState (p : PageId) (s : SlotId)
  | orderBody (p : PageId) (s : SlotId) (i : Fin 14)
  | entryState (e : Fin 48)
  | image (i : Fin 64)
  | general (a : Nat)
  | setAlias (k : Fin 16)
  | clearAlias (k : Fin 16)
  | runControl
  | attentionMask
  | nowhere
  | slip
  deriving DecidableEq, Repr

/-- The place of an address inside a page: a slot's state word, a word of its body, or a word the host may not write (11.1, 11.2). -/
def pagePlace (p : PageId) (offset : Nat) : Place :=
  if offset < 0x20 then .slip
  else
    let s := (offset - 0x20) / 0x60
    let i := (offset - 0x20) % 0x60
    if hs : s < 4 then
      if i = 0 then .slotState p ⟨s, hs⟩
      else if hi : i - 1 < 14 then .orderBody p ⟨s, hs⟩ ⟨i - 1, hi⟩ else .slip
    else .slip

/-- The place of an address, as the table of R159 gives it. -/
def place (a : Nat) : Place :=
  if a < 0x0A00 then pagePlace (Fin.ofNat 5 (a / 0x200)) (a % 0x200)
  else if 0x0D00 ≤ a ∧ a < 0x0DC0 then
    if (a - 0x0D00) % 4 = 0 then .entryState (Fin.ofNat 48 ((a - 0x0D00) / 4)) else .slip
  else if 0x0F00 ≤ a ∧ a < 0x0F40 then .image (Fin.ofNat 64 (a - 0x0F00))
  else if 0x1100 ≤ a ∧ a < 0x2000 then .general a
  else if a < 0x2000 then .slip
  else if a < 0x2010 then .setAlias (Fin.ofNat 16 (a - 0x2000))
  else if a < 0x2020 then .clearAlias (Fin.ofNat 16 (a - 0x2010))
  else if a = 0x3FFD then .runControl
  else if a = 0x3FFF then .attentionMask
  else if a = 0x3FFC ∨ a = 0x3FFE then .slip
  else .nowhere

end Sys2Proof.Machine
end

