-- ==== Sys2Proof/Machine/Flags.lean ====
section
/-! DEFINITION. Flags and counts that the manual defines from other state: hold in force, taking enabled, the Attention Summary and line, the alert
count, the alarm outputs, a bin's flags, a cassette's remaining count and availability, a zone's members, the motor being driven. -/

namespace Sys2Proof.Machine

/-! ### Slots -/

/-- A slot of a page. -/
def Wall.slot (w : Wall) (p : PageId) (s : SlotId) : Slot := (w.pages.get p).slots.get s

/-- The order is ACCEPTED, RUNNING or HELD (R27). -/
def SlotState.inProgress : SlotState → Bool
  | .accepted | .running | .held => true
  | _ => false

/-- The slot holds an order that has been posted and has not ended (R26). -/
def SlotState.listed : SlotState → Bool
  | .posted | .accepted | .running | .held => true
  | _ => false

/-- The order has ended and waits for its give-back (R43). -/
def SlotState.ended : SlotState → Bool
  | .finished | .refused => true
  | _ => false

/-- A parameter word of a slot: 0 to 11 (2.1). -/
def Slot.param (x : Slot) (i : Nat) : Nat := (x.body.toList.getD (2 + i) 0#16).toNat

/-- The kind a slot's order names on its page (R27). -/
def Wall.kindAt (w : Wall) (p : PageId) (s : SlotId) : Option Kind := kindOn p ((w.slot p s).body.get 0)

/-- The first slot of a page for which `f` holds. -/
def findSlot (f : SlotId → Bool) : Option SlotId := [(0 : SlotId), 1, 2, 3].find? f

/-- The slot of a lane's order in progress on a track, if it has one (R27). -/
def Wall.trackOrder (w : Wall) (n : LaneId) (t : Track) : Option SlotId :=
  findSlot fun s => (w.slot (lanePage n) s).state.inProgress && ((w.kindAt (lanePage n) s).map Kind.track == some t)

/-- The slot of a lane's order in progress of a kind, if it has one. -/
def Wall.orderOf (w : Wall) (n : LaneId) (k : Kind) : Option SlotId :=
  findSlot fun s => (w.slot (lanePage n) s).state.inProgress && (w.kindAt (lanePage n) s == some k)

/-- The slot of a service order in progress of a kind, if there is one. -/
def Wall.serviceOrder (w : Wall) (k : Kind) : Option SlotId :=
  findSlot fun s => (w.slot servicePage s).state.inProgress && (w.kindAt servicePage s == some k)

/-- The PATH RESET in progress for a mechanism: 0 transport, 1 conveyor, 2 + n the drawer of lane n (R34). -/
def Wall.pathReset (w : Wall) (mechanism : Nat) : Option SlotId :=
  findSlot fun s => (w.slot servicePage s).state.inProgress && (w.kindAt servicePage s == some .pathReset)
    && ((w.slot servicePage s).param 0 == mechanism)

/-- Some slot of the page is FINISHED or REFUSED (R43). -/
def Wall.pageBit (w : Wall) (p : PageId) : Bool := (findSlot fun s => (w.slot p s).state.ended).isSome

/-! ### Hold, taking, lockdown -/

/-- Hold is in force while either cause is 1 (R175). -/
def Wall.held (w : Wall) : Bool := w.port.lineCause || w.port.orderCause

/-- Taking is enabled while RUNNING with both start-up clearances ended (R29, R177). -/
def Wall.takingEnabled (w : Wall) : Bool := w.port.running && w.port.transportReady && w.port.conveyorReady

/-- A PROFILE COMMIT runs, so no slot of a lane page is taken (R39). -/
def Wall.commitRuns (w : Wall) : Bool := (w.serviceOrder .profileCommit).isSome

/-- Lockdown is in force (R154). -/
def Wall.lockdown (w : Wall) : Bool := w.alarm.lockdown

/-! ### Points, zones and the alarm outputs -/

/-- The points in ascending order. -/
def pointIds : List PointId := [0, 1, 2, 3, 4, 5, 6, 7, 8, 9, 10, 11, 12, 13, 14, 15]

/-- The zones in ascending order. -/
def zoneIds : List ZoneId := [0, 1, 2, 3]

/-- The lanes in ascending order. -/
def laneIds : List LaneId := [0, 1, 2, 3]

/-- The cassette positions in ascending order. -/
def cassIds : List CassId := [0, 1, 2, 3]

/-- The pages in ascending order. -/
def pageIds : List PageId := [0, 1, 2, 3, 4]

/-- The member points of a zone: those whose zone field names it (R145). -/
def Wall.members (w : Wall) (z : ZoneId) : List PointId := pointIds.filter fun p => (w.points.get p).zone == z

/-- A member point of the zone is live ACTIVE (R38, R148). -/
def Wall.activeMember (w : Wall) (z : ZoneId) : Option PointId := (w.members z).find? fun p => (w.points.get p).live

/-- The number of points whose alert is 1 (R153). -/
def Wall.alertCount (w : Wall) : Nat := (pointIds.filter fun p => (w.points.get p).alert).length

/-- A zone in ALARM that is not SUPERVISORY (R150). -/
def Zone.calls (z : Zone) : Bool := z.state == .alarm && !(z.mode == .supervisory)

/-- A zone in ALARM whose lockdown flag counts (R154, R155). -/
def Zone.lockdownAlarm (z : Zone) : Bool := z.calls && z.lockdownFlag

/-- The strobe is on while some zone in ALARM maps it (R150). -/
def Wall.strobeCalled (w : Wall) : Bool := zoneIds.any fun z => (w.zones.get z).calls && (w.zones.get z).strobe

/-- The silent line is on while some zone in ALARM maps it (R150). -/
def Wall.silentCalled (w : Wall) : Bool := zoneIds.any fun z => (w.zones.get z).calls && (w.zones.get z).silent

/-- The siren is on while some zone in ALARM maps it and its siren time runs (R150). -/
def Wall.sirenCalled (w : Wall) : Bool :=
  zoneIds.any fun z => (w.zones.get z).calls && (w.zones.get z).siren && decide (0 < (w.zones.get z).sirenMs.getD 0)

/-- The candidate value of an external point: the raw value with the polarity applied (R140). -/
def Point.candidate (p : Point) : Bool := p.raw != p.polarity

/-! ### The Attention Summary and the attention line (R43, R166, R169) -/

/-- Some board entry is NEW (R166). -/
def Wall.boardBit (w : Wall) : Bool := w.board.toList.any fun e => e.state == .new

/-- The Attention Summary (R169, 11.4). -/
def Wall.summary (w : Wall) : Word :=
  word (markBit 0 (w.pageBit 0) + markBit 1 (w.pageBit 1) + markBit 2 (w.pageBit 2) + markBit 3 (w.pageBit 3) + markBit 4 (w.pageBit 4)
    + markBit 5 w.boardBit + markBit 6 (decide (0 < w.alertCount)) + markBit 7 w.alarm.lockdown + markBit 8 w.held)

/-- The attention line is asserted (R169). -/
def Wall.attention (w : Wall) : Bool := (w.summary &&& w.port.mask) != 0#16

/-! ### Bins and cassettes -/

/-- A count that makes a bin near full (R116). -/
def Bin.isNearFull (b : Bin) : Bool := decide (max 1 (b.capacity - b.margin) ≤ b.count)

/-- A count that makes a bin full (R116). -/
def Bin.isFull (b : Bin) : Bool := decide (b.capacity ≤ b.count)

/-- The remaining count (R47). -/
def Cassette.remaining (c : Cassette) : Nat := c.loaded - c.drawn

/-- The availability (R54). -/
def Cassette.availability (c : Cassette) : Nat := c.remaining - c.reserved

/-- Usable: IN SERVICE or LOW with a nonzero denomination (R54). -/
def Wall.usable (w : Wall) (c : CassId) : Bool :=
  ((w.cassettes.get c).state == .inService || (w.cassettes.get c).state == .low) && decide (0 < w.denomination c)

/-- The state the remaining test gives (R48). -/
def testedState (remaining low : Nat) : CassetteState :=
  if remaining = 0 then .empty else if remaining ≤ low then .low else .inService

/-! ### The gate, the stacker and the motor -/

/-- Th of a position: min(1023, floor(Tr (16 + m) / 16)) (R71). -/
def Wall.doubleThreshold (w : Wall) (c : CassId) : Nat := min 1023 ((w.cassettes.get c).tr * (16 + w.doubleMargin c) / 16)

/-- Lmin: the smallest Ln among the positions with a nonzero denomination, 624 if there is none (R71). -/
def Wall.shortestNote (w : Wall) : Nat :=
  match (cassIds.filter fun c => decide (0 < w.denomination c)).map w.noteLength with
  | [] => 624
  | x :: xs => xs.foldl min x

/-- The in-flight list: the passages not yet at the diverter (R66, R75). -/
def Gate.inFlight (g : Gate) : List Passage := g.passages.filter fun x => !x.reached

/-- The stacker count (R86). -/
def Transport.stackerCount (t : Transport) : Nat := Counts.total t.composition

/-- The picks of cassette `c` that are pending: open, or matched by a passage that has not settled (R93). -/
def Gate.pendingFrom (g : Gate) (c : CassId) : Nat :=
  (g.openPicks.filter fun x => x.cassette == c).length + (g.passages.filter fun x => x.fromPick && (x.source == .cassette c)).length

/-- All pending picks (R93). -/
def Gate.pendingPicks (g : Gate) : Nat := g.openPicks.length + (g.passages.filter fun x => x.fromPick).length

/-- No pick is pending and the exit watch is empty (R94, R95). -/
def Wall.pathSettled (w : Wall) : Bool := w.gate.pendingPicks == 0 && w.transport.watch.isEmpty

/-- The lane whose drawer's forced mark stops the sweep and the belt of a retract (R112). -/
def Wall.retractStands (w : Wall) : Bool :=
  match w.transport.join with
  | .retract n => (w.lanes.get n).forced
  | _ => false

/-- The belt stands still by hold (R103), or with the retract of a forced drawer (R112): no pulses come (log 21). -/
def Wall.beltStands (w : Wall) : Bool := w.held || w.retractStands

/-- Some lane's forced mark is set (R10). -/
def Wall.anyForced (w : Wall) : Bool := laneIds.any fun n => (w.lanes.get n).forced

/-- The wall is quiet (R39). -/
def Wall.quiet (w : Wall) : Bool :=
  (laneIds.all fun n => (findSlot fun s => (w.slot (lanePage n) s).state.inProgress).isNone)
  && w.transport.join == .none && w.transport.queue.isEmpty
  && w.conveyor.carried.isNone && w.conveyor.queue.isEmpty
  && !(w.transport.state == .clearing) && !(w.conveyor.state == .clearing)
  && (laneIds.all fun n => !((w.lanes.get n).drawer == .closing && (w.lanes.get n).owner.isNone))

end Sys2Proof.Machine
end

