-- ==== Sys2Proof/Machine/Ops.lean ====
section
/-! DEFINITION. The named operations over the state that every block uses: changing one record, the general area, posting to the board, a slip, the
clock, ending and refusing an order, starting its work, the drawer's waiting list. -/

namespace Sys2Proof.Machine

/-! ### Changing one record -/

/-- Change one lane. -/
def Wall.modLane (n : LaneId) (f : Lane → Lane) (w : Wall) : Wall := { w with lanes := tabMod w.lanes n f }
/-- Change one lane's pocket. -/
def Wall.modPocket (n : LaneId) (f : Pocket → Pocket) (w : Wall) : Wall := w.modLane n fun l => { l with pocket := f l.pocket }
/-- Change one lane's current bundle record. -/
def Wall.modBundle (n : LaneId) (f : BundleRecord → BundleRecord) (w : Wall) : Wall := w.modLane n fun l => { l with bundle := f l.bundle }
/-- Change one cassette record. -/
def Wall.modCassette (c : CassId) (f : Cassette → Cassette) (w : Wall) : Wall := { w with cassettes := tabMod w.cassettes c f }
/-- Change the gate. -/
def Wall.modGate (f : Gate → Gate) (w : Wall) : Wall := { w with gate := f w.gate }
/-- Change the transport. -/
def Wall.modTransport (f : Transport → Transport) (w : Wall) : Wall := { w with transport := f w.transport }
/-- Change the engine. -/
def Wall.modEngine (f : Engine → Engine) (w : Wall) : Wall := { w with engine := f w.engine }
/-- Change the conveyor. -/
def Wall.modConveyor (f : Conveyor → Conveyor) (w : Wall) : Wall := { w with conveyor := f w.conveyor }
/-- Change one bin record. -/
def Wall.modBin (k : BinId) (f : Bin → Bin) (w : Wall) : Wall := { w with bins := tabMod w.bins k f }
/-- Change one point. -/
def Wall.modPoint (p : PointId) (f : Point → Point) (w : Wall) : Wall := { w with points := tabMod w.points p f }
/-- Change one zone. -/
def Wall.modZone (z : ZoneId) (f : Zone → Zone) (w : Wall) : Wall := { w with zones := tabMod w.zones z f }
/-- Change the alarm status. -/
def Wall.modAlarm (f : AlarmStatus → AlarmStatus) (w : Wall) : Wall := { w with alarm := f w.alarm }
/-- Change the port record. -/
def Wall.modPort (f : Port → Port) (w : Wall) : Wall := { w with port := f w.port }
/-- Change the Profile Store. -/
def Wall.modProfile (f : ProfileStore → ProfileStore) (w : Wall) : Wall := { w with profile := f w.profile }
/-- Change one page. -/
def Wall.modPage (p : PageId) (f : Page → Page) (w : Wall) : Wall := { w with pages := tabMod w.pages p f }
/-- Change one slot. -/
def Wall.modSlot (p : PageId) (s : SlotId) (f : Slot → Slot) (w : Wall) : Wall :=
  w.modPage p fun g => { g with slots := tabMod g.slots s f }
/-- Change a lane's tally store, where it has one. -/
def Wall.modTally (n : LaneId) (f : Tally → Tally) (w : Wall) : Wall :=
  w.modEngine fun e => { e with tallies := tabMod e.tallies n (Option.map f) }

/-- Do `f` for each lane, from lane 0 up (log 11). -/
def Wall.eachLane (f : LaneId → Wall → Wall) (w : Wall) : Wall := laneIds.foldl (fun w n => f n w) w

/-! ### The general area (R159) -/

/-- The word the general area holds at an address: what is listed, and 0 where nothing is (log 12). -/
def Memory.read : List (Nat × Word) → Nat → Word
  | [], _ => 0#16
  | (b, x) :: rest, a => if b = a then x else Memory.read rest a

/-- The general area with nothing listed at an address. -/
def Memory.drop (m : List (Nat × Word)) (a : Nat) : List (Nat × Word) := m.filter fun e => e.1 ≠ a

/-- The general area with a word listed at an address, addresses rising. -/
def Memory.insert : List (Nat × Word) → Nat → Word → List (Nat × Word)
  | [], a, x => [(a, x)]
  | (b, y) :: rest, a, x => if a < b then (a, x) :: (b, y) :: rest else (b, y) :: Memory.insert rest a x

/-- A host write of a word to the general area. A word of 0 is not listed. -/
def Memory.write (m : List (Nat × Word)) (a : Nat) (x : Word) : List (Nat × Word) :=
  if x = 0#16 then Memory.drop m a else Memory.insert (Memory.drop m a) a x

/-- The canonical form: addresses strictly rising, and no word of 0 listed. -/
def Memory.wf (m : List (Nat × Word)) : Bool :=
  decide (m.Pairwise fun x y => x.1 < y.1) && m.all fun e => e.2 != 0#16

/-! ### The board (9.4) -/

/-- The board entries in ascending order. -/
def entryIds : List (Fin 48) := List.finRange 48

/-- The entry that holds a key (R164). -/
def Wall.entryOf (w : Wall) (key : Nat) : Option (Fin 48) :=
  entryIds.find? fun e => !((w.board.get e).state == .free) && ((w.board.get e).key == key)

/-- The lowest-numbered FREE entry (R164). -/
def Wall.freeEntry (w : Wall) : Option (Fin 48) := entryIds.find? fun e => (w.board.get e).state == .free

/-- A block posts an occurrence (R164): it is coalesced into the entry of its key, fills the lowest FREE entry, or is lost. -/
def Wall.post (news : News) (detail : Nat) (w : Wall) : Wall :=
  let now := lowWord w.port.seconds
  match w.entryOf news.key with
  | some e =>
    { w with board := tabMod w.board e fun x => { x with state := .new, count := satAdd 255 x.count 1, last := now, detail := word detail } }
  | none =>
    match w.freeEntry with
    | some e =>
      let filled : Entry := { state := .new, key := news.key, count := 1, first := now, last := now, detail := word detail }
      { w with board := tabSet w.board e filled }
    | none => { w with lost := satAdd 65535 w.lost 1 }

/-- A slip: a host write discarded at the address `a` (R160). The slip that takes the count from 0 to 1 posts PROTOCOL SLIP; if that post is lost the
count returns to 0. -/
def Wall.slip (a : Nat) (w : Wall) : Wall :=
  let w1 := w.modPort fun p => { p with slips := satAdd 65535 p.slips 1, slipTotal := p.slipTotal + 1#32 }
  if w.port.slips = 0 then
    let lostNow := (w1.entryOf News.protocolSlip.key).isNone && w1.freeEntry.isNone
    let w2 := w1.post .protocolSlip a
    if lostNow then w2.modPort fun p => { p with slips := 0 } else w2
  else w1

/-! ### Counters -/

/-- A 32-bit count raised by `b`. Where 32 bits cannot hold the sum the value is free (log 5). -/
def raise32 (a : DWord) (b : Nat) : DWord :=
  if a.toNat + b < 2 ^ 32 then BitVec.ofNat 32 (a.toNat + b) else Config.overflow32 a.toNat b

/-- Wall seconds since a start, modulo 2^32 and saturating at 65535 (R155, R175, R179). -/
def Wall.secondsSince (w : Wall) (start : DWord) : Nat := min 65535 (w.port.seconds - start).toNat

/-! ### Flag words (9.2) -/

/-- The bits of flag word `k` that are stored: four of F1 and F3, sixteen of the others (R161). -/
def flagMask (k : Fin 16) : Word := if k = 1 ∨ k = 3 then 0x000F#16 else 0xFFFF#16

/-- Change one flag word. -/
def Wall.modFlag (k : Fin 16) (f : Word → Word) (w : Wall) : Wall := { w with flags := tabMod w.flags k f }

/-- Clear bit `i` of flag word `k`. -/
def Wall.clearFlagBit (k : Fin 16) (i : Nat) (w : Wall) : Wall := w.modFlag k fun v => v &&& ~~~(1#16 <<< i)

/-- The flag word and the bit of a slot's cancel request (2.5). -/
def cancelPlace (p : PageId) (s : SlotId) : Fin 16 × Nat :=
  match laneOf p with
  | some n => (0, 4 * n.val + s.val)
  | none => (1, s.val)

/-- The part answers a cancel: it clears the slot's cancel bit (R41). -/
def Wall.answerCancel (p : PageId) (s : SlotId) (w : Wall) : Wall := w.clearFlagBit (cancelPlace p s).1 (cancelPlace p s).2

/-! ### The end of an order (R25, R26, R32) -/

/-- The words of a result: outcome, cancel-refused mark, finish seconds, the kind's fields (R25, 11.2). -/
def resultWords (e : OrderEnd) (tooLate : Bool) (seconds : DWord) (fields : List Word) : List Word :=
  [word e.code, word (markBit 0 tooLate), highWord seconds, lowWord seconds] ++ fields

/-- An order's slot takes its result and its final state and leaves the posting list; a cancel still pending is answered (R25, R26, R126). `t` is wall
seconds at the moment the outcome was decided. -/
def Wall.closeSlotAt (t : DWord) (p : PageId) (s : SlotId) (st : SlotState) (e : OrderEnd) (fields : List Word) (w : Wall) : Wall :=
  let w1 := w.modSlot p s fun x =>
    { x with state := st, result := resultWords e x.tooLate t fields,
             tooLate := false, cancelPending := false, lockdownMark := false }
  let w2 := w1.modPage p fun g => { g with posting := g.posting.filter fun t => t ≠ s }
  if (w.slot p s).cancelPending then w2.answerCancel p s else w2

/-- An order's slot is closed with its outcome decided now. -/
def Wall.closeSlot (p : PageId) (s : SlotId) (st : SlotState) (e : OrderEnd) (fields : List Word) (w : Wall) : Wall :=
  w.closeSlotAt w.port.seconds p s st e fields

/-- An order of a lane leaves the drawer: it releases it if it owns it, and leaves the waiting list (R12, R13). -/
def Wall.leaveDrawer (n : LaneId) (s : SlotId) (w : Wall) : Wall :=
  w.modLane n fun l =>
    { l with owner := if l.owner = some s then none else l.owner,
             ownerClose := if l.owner = some s then none else l.ownerClose,
             waiting := l.waiting.filter fun t => t ≠ s }

/-- The order in a slot ends with an outcome decided at wall seconds `t` (R32). -/
def Wall.finishAt (t : DWord) (p : PageId) (s : SlotId) (e : OrderEnd) (fields : List Word) (w : Wall) : Wall :=
  let w1 := w.closeSlotAt t p s .finished e fields
  match laneOf p with
  | some n => w1.leaveDrawer n s
  | none => w1

/-- The order in a slot ends with an outcome decided now (R32). -/
def Wall.finish (p : PageId) (s : SlotId) (e : OrderEnd) (fields : List Word) (w : Wall) : Wall := w.finishAt w.port.seconds p s e fields

/-- The order in a slot is refused at its taking (R30). -/
def Wall.refuse (p : PageId) (s : SlotId) (e : OrderEnd) (w : Wall) : Wall := w.closeSlot p s .refused e []

/-- The state of an order whose work starts: RUNNING, or HELD while hold is in force (R31, R33). -/
def Wall.workState (w : Wall) : SlotState := if w.held then .held else .running

/-- An order's work starts (R31). Only a slot that holds an order posted and not ended has work to start (R26). -/
def Wall.startWork (p : PageId) (s : SlotId) (w : Wall) : Wall :=
  w.modSlot p s fun x => { x with state := if x.state.listed then w.workState else x.state }

/-- A cancel is answered TOO LATE (R41). -/
def Wall.refuseCancel (p : PageId) (s : SlotId) (w : Wall) : Wall :=
  (w.modSlot p s fun x => { x with tooLate := true }).answerCancel p s

/-! ### Bins (6.5) -/

/-- The flags of a bin are recomputed; a flag that changes from 0 to 1 posts (R117), BIN NEAR FULL before BIN FULL where both do (log 55). -/
def Wall.refreshBin (k : BinId) (w : Wall) : Wall :=
  let b := w.bins.get k
  let w1 := w.modBin k fun b => { b with nearFull := b.isNearFull, full := b.isFull }
  let w2 := if !b.nearFull && b.isNearFull then w1.post (.binNearFull k) b.count else w1
  if !b.full && b.isFull then w2.post (.binFull k) b.count else w2

/-- Pieces or envelopes are counted into a bin (R116). -/
def Wall.creditBin (k : BinId) (n : Nat) (w : Wall) : Wall :=
  (w.modBin k fun b => { b with count := satAdd 65535 b.count n }).refreshBin k

/-- The reject bin. -/
def rejectBin : BinId := 0
/-- The retract bin. -/
def retractBin : BinId := 1
/-- The deposit bin. -/
def depositBin : BinId := 2

/-- An envelope is counted into the deposit bin and its lifetime total (R130, R132). -/
def Wall.creditEnvelope (w : Wall) : Wall :=
  ({ w with depositTotal := raise32 w.depositTotal 1 }).creditBin depositBin 1

end Sys2Proof.Machine
end

