-- ==== Sys2Proof/Machine/Cassettes.lean ====
section
/-! DEFINITION. The dispense contexts and the reservations (R55, R91), the choice of the mix (R56, R57), and what a passage, a miss, a removal and a
profile load do to a cassette record (chapter 3). -/

namespace Sys2Proof.Machine

/-! ### The dispense context of a lane (R91) -/

/-- The context of a lane's unfinished DISPENSE: the engine's loaded copy during its tenure, the progress area's otherwise. -/
def Wall.contextOf (w : Wall) (n : LaneId) : Option DispenseContext :=
  match w.engine.loaded with
  | some l => if l.lane = n then some l.context else (w.orderOf n .dispense).bind fun s => (w.slot (lanePage n) s).context
  | none => (w.orderOf n .dispense).bind fun s => (w.slot (lanePage n) s).context

/-- Change the context of a lane's DISPENSE. During a tenure the loaded copy changes, and the progress area follows it in the outstanding
counts alone (R91). -/
def Wall.modContext (n : LaneId) (f : DispenseContext → DispenseContext) (w : Wall) : Wall :=
  match w.orderOf n .dispense with
  | none => w
  | some s =>
    match w.engine.loaded with
    | some l =>
      if l.lane = n then
        (w.modEngine fun e => { e with loaded := some { l with context := f l.context } }).modSlot (lanePage n) s fun x =>
          { x with context := x.context.map fun c => { c with outstanding := (f l.context).outstanding } }
      else w.modSlot (lanePage n) s fun x => { x with context := x.context.map f }
    | none => w.modSlot (lanePage n) s fun x => { x with context := x.context.map f }

/-- The engine writes the loaded context back into the progress area (R91). -/
def Wall.writeBack (w : Wall) : Wall :=
  match w.engine.loaded with
  | some l =>
    (w.modSlot (lanePage l.lane) l.slot fun x => { x with context := some l.context }).modEngine fun e => { e with loaded := none }
  | none => w

/-- The tally store of a lane's DISPENSE. -/
def Wall.tallyOf (w : Wall) (n : LaneId) : Option Tally := w.engine.tallies.get n

/-- The end of the lane's DISPENSE has begun: under a cancel, lockdown, the reject limit or a fault (R58). -/
def Wall.endBegun (w : Wall) (n : LaneId) : Bool :=
  ((w.contextOf n).map fun c => !(c.endCause == .none)).getD false || ((w.tallyOf n).map Tally.faulted).getD false

/-! ### Reservations (R55) -/

/-- Add counts to the reserved counts of the cassettes. -/
def Wall.reserve (v : Counts) (w : Wall) : Wall :=
  { w with cassettes := tabMap w.cassettes fun c x => { x with reserved := x.reserved + v.get c } }

/-- Subtract counts from the reserved counts of the cassettes. -/
def Wall.unreserve (v : Counts) (w : Wall) : Wall :=
  { w with cassettes := tabMap w.cassettes fun c x => { x with reserved := x.reserved - v.get c } }

/-- The outstanding counts of a lane's DISPENSE are subtracted from reserved and set to 0 (R55). -/
def Wall.releaseOutstanding (n : LaneId) (w : Wall) : Wall :=
  match w.contextOf n with
  | some c => (w.unreserve c.outstanding).modContext n fun c => { c with outstanding := Counts.zero }
  | none => w

/-! ### Choosing the mix (R56) -/

/-- Put a position into the listing behind every position of no lower denomination. -/
def insertListing (denomination : CassId → Nat) (c : CassId) : List CassId → List CassId
  | [] => [c]
  | d :: rest => if denomination d < denomination c then c :: d :: rest else d :: insertListing denomination c rest

/-- Positions in descending order of denomination, those of equal denomination in ascending order of position (R56). -/
def listingOf (denomination : CassId → Nat) (cs : List CassId) : List CassId :=
  cs.foldl (fun l c => insertListing denomination c l) []

/-- The mix listing: the usable cassettes in listing order (R56). -/
def Wall.mixListing (w : Wall) : List CassId := listingOf w.denomination (cassIds.filter w.usable)

/-- Try the counts `n`, `n - 1`, … 0 of denomination `d`, and for each the rest of the listing. -/
def tryCounts (rest : Nat → Nat → Option (List Nat)) (d amount limit : Nat) : Nat → Option (List Nat)
  | 0 => (rest amount limit).map fun v => 0 :: v
  | n + 1 =>
    match rest (amount - (n + 1) * d) (limit - (n + 1)) with
    | some v => some ((n + 1) :: v)
    | none => tryCounts rest d amount limit n

/-- The lexicographically greatest admissible vector of counts for a listing of (denomination, availability), an amount and a limit on the
number of notes (R56). -/
def bestMix : List (Nat × Nat) → Nat → Nat → Option (List Nat)
  | [], amount, _ => if amount = 0 then some [] else none
  | (d, a) :: rest, amount, limit => tryCounts (bestMix rest) d amount limit (min (amount / d) (min a limit))

/-- Counts per position from counts in listing order. -/
def spread : List CassId → List Nat → Counts
  | c :: cs, n :: ns => tabSet (spread cs ns) c n
  | _, _ => Counts.zero

/-- The mix chosen for an amount under a limit of notes, from the cassettes as they stand (R56). -/
def Wall.chooseMix (w : Wall) (amount limit : Nat) : Option Counts :=
  let l := w.mixListing
  (bestMix (l.map fun c => (w.denomination c, (w.cassettes.get c).availability)) amount limit).map (spread l)

/-- The four counts of a DISPENSE in MIX mode (R34). -/
def Slot.mixCounts (x : Slot) : Counts := #v[x.param 2, x.param 3, x.param 4, x.param 5]

/-- The value of counts at the active denominations (R57). -/
def Wall.valueOf (w : Wall) (v : Counts) : Nat :=
  v.get 0 * w.denomination 0 + v.get 1 * w.denomination 1 + v.get 2 * w.denomination 2 + v.get 3 * w.denomination 3

/-- The picking order of an order (R56, R57): the mix listing in AMOUNT mode, the positions with a nonzero count of the body in MIX mode. -/
def Wall.pickListing (w : Wall) (x : Slot) : List CassId :=
  if x.param 0 = 0 then w.mixListing
  else listingOf w.denomination (cassIds.filter fun c => decide (0 < x.mixCounts.get c))

/-! ### Cassette states (3.2) -/

/-- A re-mix trigger for each unfinished DISPENSE with notes outstanding on a failed cassette, unless its end has begun (R58). -/
def Wall.triggerRemix (c : CassId) (w : Wall) : Wall :=
  w.eachLane fun n w =>
    match w.contextOf n with
    | some x => if decide (0 < x.outstanding.get c) && !w.endBegun n then w.modTally n fun t => { t with remixWait := true } else w
    | none => w

/-- A cassette enters a state: its board entry is posted (R53), and a failure triggers re-mixes (R58). `how` is the CASSETTE EMPTY detail. -/
def Wall.enterCassetteState (c : CassId) (new : CassetteState) (how : Nat) (w : Wall) : Wall :=
  let old := w.cassettes.get c
  if old.state = new then w
  else
    let w1 := w.modCassette c fun x => { x with state := new }
    match new with
    | .low => w1.post (.cassetteLow c) old.remaining
    | .empty => (w1.post (.cassetteEmpty c) how).triggerRemix c
    | .suspect => (w1.post (.cassetteSuspect c) old.remaining).triggerRemix c
    | .absent => (w1.post (.cassetteRemoved c) old.remaining).triggerRemix c
    | _ => w1

/-- The remaining test for a cassette in IN SERVICE or LOW (R48). -/
def Wall.remainingTest (c : CassId) (w : Wall) : Wall :=
  let x := w.cassettes.get c
  if x.state = .inService ∨ x.state = .low then w.enterCassetteState c (testedState x.remaining (w.lowThreshold c)) 1 else w

/-- The count-doubt mark is set where drawn exceeds loaded (R47). -/
def Cassette.doubtTest (x : Cassette) : Cassette := { x with doubt := x.doubt || decide (x.loaded < x.drawn) }

/-- A pick passage is reported to its cassette's record (R51). -/
def Wall.recordPassage (c : CassId) (cls : PieceClass) (estimate : Nat) (w : Wall) : Wall :=
  let w1 := (w.modCassette c fun x => Cassette.doubtTest { x with drawn := satAdd 65535 x.drawn estimate }).remainingTest c
  let w2 := w1.modCassette c fun x =>
    { x with passages := satAdd 65535 x.passages 1, misses := 0, rejects := if cls = .single then 0 else satAdd 255 x.rejects 1 }
  let x := w2.cassettes.get c
  if 4 ≤ x.rejects ∧ (x.state = .inService ∨ x.state = .low ∨ x.state = .empty) then w2.enterCassetteState c .suspect 0 else w2

/-- A miss is reported to its cassette's record (R52). A miss that finds the consecutive misses at 3 already, on a cassette that CASSETTE CLEAR has returned to
IN SERVICE or LOW, makes it EMPTY (log 59). -/
def Wall.recordMiss (c : CassId) (w : Wall) : Wall :=
  let w1 := w.modCassette c fun x => { x with misses := satAdd 3 x.misses 1 }
  let x := w1.cassettes.get c
  if x.misses = 3 ∧ (x.state = .inService ∨ x.state = .low) then
    (w1.modCassette c fun x => { x with doubt := x.doubt || decide (0 < x.remaining) }).enterCassetteState c .empty 2
  else w1

/-- The range of Tr about a nominal thickness (R77, R78). -/
def clampTr (tn tr : Nat) : Nat := clampNat (3 * tn / 4) (5 * tn / 4) tr

/-- The learning step of R77: the new Tr from a thickness T accepted as a single. -/
def learnedTr (tn tr t : Nat) : Nat :=
  let d : Int := (t : Int) - tr
  if -7 ≤ d ∧ d ≤ 7 then tr else (clampNat (3 * tn / 4) (5 * tn / 4) ((tr : Int) + d.tdiv 8).toNat)

/-- Reference learning at the settlement of an accepted single (R77). -/
def Wall.learn (c : CassId) (t : Nat) (w : Wall) : Wall :=
  w.modCassette c fun x => { x with tr := learnedTr (w.noteThickness c) x.tr t }

/-- What a COUNT SET, an insertion and power-on make of a record's counts (R50, R62, R65, R78). -/
def Cassette.restart (tn loaded : Nat) (x : Cassette) : Cassette :=
  { x with loaded := loaded, drawn := 0, misses := 0, rejects := 0, passages := 0, doubt := false, tr := tn }

end Sys2Proof.Machine
end

