-- ==== Sys2Proof/Machine/Transport.lean ====
section
/-! DEFINITION. The Dispense Engine and Transport Control between commands: the end of a DISPENSE and its tally (R105), the grant evaluation (R89, R109),
requests (R88), the end of a tenure (R94, R97, R60), and the end of a retract (R96, R114, R115). -/

namespace Sys2Proof.Machine

/-! ### The end of a DISPENSE (R105) -/

/-- The outcome of a DISPENSE: the first that applies in the table of R105. -/
def dispenseOutcome (jammed : Bool) (c : DispenseContext) (t : Tally) : OrderEnd :=
  if t.faulted then .transportFault
  else if jammed then .drawerJammed
  else if c.endCause = .rejectLimit then .rejectLimit
  else if c.endCause = .lockdown then .lockdown
  else if c.endCause = .cancel then .cancelled
  else if c.final then .partialEnd
  else if t.bundleLeft then .retracted
  else if c.takenLate then .takenLate
  else .taken

/-- The duress zone is in ALARM (R105, R145). -/
def Wall.duressAlarm (w : Wall) : Bool := (w.zones.get 2).state == .alarm

/-- The four counts in four words. -/
def countWords (v : Counts) : List Word := [word (v.get 0), word (v.get 1), word (v.get 2), word (v.get 3)]

/-- The dispense tally as words 35 to 53 of the slot (R105, 11.2). -/
def tallyWords (c : DispenseContext) (t : Tally) (amount : Nat) (duress : Bool) : List Word :=
  countWords t.chosen ++ [word c.bundles] ++ countWords t.presented
    ++ [highWord (BitVec.ofNat 32 amount), lowWord (BitVec.ofNat 32 amount), word t.accepted, word t.purged, word t.rejected, word t.taken,
        word t.retracted, word t.foreign, word t.unresolved, word (markBit 0 duress)]

/-- An outcome decided now (R25, R105). -/
def Wall.decision (w : Wall) : Decision := { seconds := w.port.seconds, duress := w.duressAlarm }

/-- A lane's DISPENSE finishes (R105): its outstanding counts are released, its tally written, its drawer released, its stores dropped. `d` is the moment its
outcome was decided. The chosen mix is reported as it stands, after a cancel in DRAWER WAIT too (log 52). -/
def Wall.finishDispenseAt (d : Decision) (n : LaneId) (jammed : Bool) (w : Wall) : Wall :=
  match w.orderOf n .dispense, w.contextOf n, w.tallyOf n with
  | some s, some c, some t =>
    let w1 := w.releaseOutstanding n
    let w2 := if (w1.engine.loaded.map Loaded.lane) = some n then w1.writeBack else w1
    let w3 := w2.finishAt d.seconds (lanePage n) s (dispenseOutcome jammed c t) (tallyWords c t (w.valueOf t.presented) d.duress)
    let w4 := w3.modLane n fun l =>
      { l with duress := l.duress || d.duress, bundle := { l.bundle with slot := none, phase := .none } }
    w4.modEngine fun e => { e with tallies := tabSet e.tallies n none }
  | _, _, _ => w

/-- A lane's DISPENSE finishes with its outcome decided now (R105): also one whose end began before, by a cancel, the reject limit, lockdown or a fault whose
dump has run on (log 61). R111 alone decides one earlier, at the stall (log 29). -/
def Wall.finishDispense (n : LaneId) (jammed : Bool) (w : Wall) : Wall := w.finishDispenseAt w.decision n jammed

/-! ### Grants (5.2, 6.2) -/

/-- The gate prepares for a new join (R85, R68). -/
def Wall.gatePrepare (w : Wall) : Wall :=
  w.modGate fun g => { g with gapCounter := none, openPicks := [], lastPick := none }

/-- The request queue without a lane's entry of a kind. -/
def Wall.dropRequest (n : LaneId) (k : RequestKind) (w : Wall) : Wall :=
  w.modTransport fun t => { t with queue := t.queue.filter fun r => !(r.lane == n && r.kind == k) }

/-- A RETRACT entry is granted with a destination: the sweep begins (R109, R110, R114). The retract starts here, and its retracted notes and foreign pieces read 0
until its end (log 54). -/
def Wall.grantRetract (n : LaneId) (d : Destination) (w : Wall) : Wall :=
  let w1 := (w.dropRequest n .retract).modTransport fun t =>
    { t with state := .granted, join := .retract n, quiet := 0, sweepFound := .none, silentMs := 0 }
  w1.gatePrepare.modBundle n fun b =>
    { b with phase := .sweeping, dest := d, pieces := 0, retracted := 0, foreign := 0, toRetract := 0, toReject := 0, stalled := none }

/-- A BUNDLE entry is granted: the engine loads the context and sets the bundle target (R89, R91, R92). -/
def Wall.grantBundle (n : LaneId) (w : Wall) : Wall :=
  let w1 := (w.dropRequest n .bundle).modTransport fun t => { t with state := .granted, join := .dispense n, silentMs := 0 }
  let w2 := w1.gatePrepare.modGate fun g => { g with acceptEnable := true }
  match w2.orderOf n .dispense with
  | none => w2
  | some s =>
    match (w2.slot (lanePage n) s).context with
    | none => w2
    | some c =>
      let c1 := { c with phase := Phase.building, target := min w.bundleLimit (Counts.total c.outstanding) }
      let w3 := w2.modEngine fun e =>
        { e with loaded := some { lane := n, slot := s, context := c1 }, routedInBundle := 0, lastRelease := none, sinceRelease := 0 }
      if (w3.slot (lanePage n) s).state = .accepted then w3.startWork (lanePage n) s else w3

/-- The destination of a retract by the full flags, or none where it is held back (R109). -/
def Wall.retractDestination (w : Wall) : Option Destination :=
  if !(w.bins.get retractBin).full then some .retractBin
  else if !(w.bins.get rejectBin).full then some .reject
  else none

/-- Go through the RETRACT entries, oldest first: grant the first that is not held back; a held-back entry posts BIN FULL (R109). The mark says
whether one was granted. -/
def Wall.tryRetracts : List Request → Wall → Wall × Bool
  | [], w => (w, false)
  | r :: rest, w =>
    match r.kind with
    | .bundle => Wall.tryRetracts rest w
    | .retract =>
      match w.retractDestination with
      | some .reject =>
        ((w.grantRetract r.lane .reject).post (.retractDiverted r.lane) (w.bins.get retractBin).count, true)
      | some d => (w.grantRetract r.lane d, true)
      | none =>
        Wall.tryRetracts rest
          ((w.modBundle r.lane fun b => { b with phase := .heldBack }).post (.binFull retractBin) (w.bins.get retractBin).count)

/-- A grant evaluation of Transport Control (R89). -/
def Wall.transportGrant (w : Wall) : Wall :=
  if w.transport.state = .idle ∧ w.held = false then
    let (w1, granted) := Wall.tryRetracts w.transport.queue w
    if granted || w.lockdown then w1
    else
      match w1.transport.queue.find? fun r => r.kind == .bundle with
      | some r => w1.grantBundle r.lane
      | none => w1
  else w

/-- The tenure ends: the context is written back, the join becomes none and the state IDLE (R95, R97). -/
def Wall.endTenure (w : Wall) : Wall :=
  (w.writeBack.modTransport fun t => { t with state := .idle, join := .none }).modGate fun g => { g with acceptEnable := false }

/-! ### Requests (R88) -/

/-- The BUNDLE request of a lane joins the queue (R88). -/
def Wall.queueBundle (n : LaneId) (w : Wall) : Wall :=
  (w.modContext n fun c => { c with phase := .bundleWait }).modTransport fun t => { t with queue := t.queue ++ [{ lane := n, kind := .bundle }] }

/-- The lane's DISPENSE makes a BUNDLE request; while the transport is FAULTED it ends TRANSPORT FAULT instead (R88, R98). -/
def Wall.requestBundle (n : LaneId) (w : Wall) : Wall :=
  if w.transport.state = .faulted then (w.modTally n fun t => { t with faulted := true }).finishDispense n false
  else (w.queueBundle n).transportGrant

/-- The result fields of a RETRACT order (R115): P, foreign pieces, destination, pieces to the retract bin and to the reject bin. -/
def retractFields (b : BundleRecord) : List Word :=
  [word b.pieces, word b.foreign, word b.dest.code, word b.toRetract, word b.toReject]

/-- FOREIGN PIECES is posted where a retract found any (R114). -/
def Wall.postForeign (n : LaneId) (pieces : Nat) (w : Wall) : Wall := if 0 < pieces then w.post (.foreignPieces n) pieces else w

/-- A granted retract has ended, normally or by a fault: P is attributed and its order finishes (R96, R111, R113, R114, R115). -/
def Wall.reportRetract (n : LaneId) (fault : Bool) (w : Wall) : Wall :=
  let b := (w.lanes.get n).bundle
  match w.orderOf n .dispense with
  | some _ =>
    let notes := ((w.contextOf n).map DispenseContext.inDrawer).getD 0
    let back := min b.pieces notes
    let extra := b.pieces - back
    let gone := notes - back
    let w1 := w.modTally n fun t =>
      { t with retracted := t.retracted + back, foreign := t.foreign + extra,
               taken := if fault || b.stalled.isSome then t.taken else t.taken + gone,
               unresolved := if fault || b.stalled.isSome then t.unresolved + gone else t.unresolved,
               faulted := t.faulted || fault }
    let w2 := w1.modBundle n fun b => { b with retracted := back, foreign := extra }
    (w2.postForeign n extra).finishDispenseAt (if fault then w.decision else b.stalled.getD w.decision) n b.stalled.isSome
  | none =>
    match w.orderOf n .retract with
    | some s =>
      let w1 := w.modBundle n fun b => { b with retracted := 0, foreign := b.pieces, phase := .none }
      let outcome : OrderEnd := if b.stalled.isSome then .drawerJammed else if fault then .transportFault else .retracted
      (w1.postForeign n b.pieces).finishAt (b.stalled.getD w.decision).seconds (lanePage n) s outcome (retractFields (w1.lanes.get n).bundle)
    | none => w

/-- A RETRACT request that will not be granted ends its order: by a fault (R108, R113), or by a cancel of a RETRACT order (R115). R115 gives such an order P = 0;
that its destination reads NONE and both bin counts 0, whatever the bundle record holds, is the model's choice (log 68). -/
def Wall.dropRetract (n : LaneId) (e : OrderEnd) (w : Wall) : Wall :=
  let w1 := (w.dropRequest n .retract).modBundle n fun b => { b with phase := .none }
  match w1.orderOf n .dispense with
  | some _ =>
    let notes := ((w1.contextOf n).map DispenseContext.inDrawer).getD 0
    (w1.modTally n fun t => { t with unresolved := t.unresolved + notes, faulted := true }).finishDispense n false
  | none =>
    match w1.orderOf n .retract with
    | some s => w1.finish (lanePage n) s e (retractFields BundleRecord.reset)
    | none => w1

/-- The RETRACT request of a lane joins the queue (R88, R107). -/
def Wall.queueRetract (n : LaneId) (w : Wall) : Wall :=
  (w.modBundle n fun b => { b with phase := .queued }).modTransport fun t => { t with queue := t.queue ++ [{ lane := n, kind := .retract }] }

/-- The lane's note order makes a RETRACT request (R107, R108). -/
def Wall.requestRetract (n : LaneId) (w : Wall) : Wall :=
  if w.transport.state = .faulted then w.dropRetract n .transportFault else (w.queueRetract n).transportGrant

/-! ### The end of a building tenure -/

/-- A tenure ends without a purge, and with it its order (R94, R60, R105). -/
def Wall.endEmpty (n : LaneId) (w : Wall) : Wall := w.endTenure.finishDispense n false

/-- A building tenure whose order's end has begun, or which is final, ends without a purge once no pick is pending, the exit watch is empty and the
stacker is empty (R94 step 3, R60, R101, R102). With notes in the stacker it waits for PURGE_START or DELIVERY_START. -/
def Wall.checkEnding (w : Wall) : Wall :=
  match w.transport.join with
  | .dispense n =>
    match w.contextOf n with
    | some c =>
      if w.transport.state = .granted ∧ c.phase = .building ∧ w.pathSettled = true ∧ w.transport.stackerCount = 0
          ∧ (c.endCause ≠ .none ∨ c.final = true) then
        (w.endEmpty n).transportGrant
      else w
    | none => w
  | _ => w

/-- The end of a lane's DISPENSE begins with an end cause: a re-mix wait is cut, and a bundle being built takes no further note
(R94, R101, R102, R58). -/
def Wall.beginEnd (n : LaneId) (cause : EndCause) (w : Wall) : Wall :=
  let w1 := (w.modContext n fun c => { c with endCause := cause }).modTally n fun t => { t with remixWait := false }
  match w1.contextOf n with
  | some c => if c.phase = .building then (w1.modGate fun g => { g with acceptEnable := false }).checkEnding else w1
  | none => w1

/-! ### Credits at the exits (R90) -/

/-- A piece that has reached an exit is credited by its route (R90): to the stacker, or to a bin by its estimate (R116), and to the total P of the retract it
belongs to (R114), and to that retract's result count of the bin (R115). P saturates at 65535 by R114; that the two result counts do too, where R115 is silent,
is the model's choice (log 73). -/
def Wall.creditExit (src : Source) (estimate : Nat) (r : Route) (w : Wall) : Wall :=
  match r with
  | .stacker =>
    match src with
    | .cassette c =>
      let w1 := w.modTransport fun t => { t with composition := tabMod t.composition c (· + 1) }
      match w.transport.join with
      | .dispense n => w1.modTally n fun t => { t with accepted := t.accepted + 1 }
      | _ => w1
    | _ => w
  | .reject | .retractBin =>
    let w1 := w.creditBin (if r = .retractBin then retractBin else rejectBin) estimate
    match src with
    | .retract n =>
      if w.transport.join = .retract n then
        w1.modBundle n fun b =>
          { b with pieces := satAdd 65535 b.pieces estimate,
                   toRetract := if r = .retractBin then satAdd 65535 b.toRetract estimate else b.toRetract,
                   toReject := if r = .retractBin then b.toReject else satAdd 65535 b.toReject estimate }
      else w1
    | _ => w1

/-- The stacker has been dumped: its count goes to the reject bin and it is empty (R97). -/
def Wall.dumpStacker (w : Wall) : Wall :=
  (w.creditBin rejectBin w.transport.stackerCount).modTransport fun t => { t with composition := Counts.zero, dump := none }

/-- A clearance of the transport starts (R99). -/
def Wall.startClearance (w : Wall) : Wall :=
  (w.modTransport fun t => { t with state := .clearing, join := .clearance, seen := 0, clearPulses := 4000, silentMs := 0 }).gatePrepare

/-! ### The motor -/

/-- The bundle being built is ready (R95): complete, or the last of a final order (R60), with no pick pending and the exit watch empty. It holds
a note: the bundle of an order that a zero mix has left owing nothing, with the stacker empty, is never ready (log 48). -/
def Wall.bundleReady (w : Wall) (c : DispenseContext) : Bool :=
  w.pathSettled && (w.engine.routedInBundle == c.target || c.final) && decide (0 < w.transport.stackerCount)

/-- The belt motor is driven: in GRANTED or CLEARING, while the tenure's work needs belt travel, not in hold (R87, R92, R95, R99, R112). -/
def Wall.beltDriven (w : Wall) : Bool :=
  !w.held &&
  match w.transport.state with
  | .clearing => w.transport.dump.isNone || !((w.transport.dump.map Dump.purpose) == some .clearance)
  | .granted =>
    match w.transport.join with
    | .dispense n =>
      match w.contextOf n with
      | some c => c.phase == .building && !w.bundleReady c
      | none => false
    | .retract n => !(w.lanes.get n).forced
    | _ => false
  | _ => false

end Sys2Proof.Machine
end

