-- ==== Sys2Proof/Machine/Gate.lean ====
section
/-! DEFINITION. The Note Gate (chapter 4): edges, classification, the route latch, settlement and what it reports, misses, and the closing of the
gate's lists at a fault. -/

namespace Sys2Proof.Machine

/-! ### Classification (4.3) -/

/-- The class and estimate of a pick passage from cassette `c` (R72): the first test that applies. -/
def Wall.classifyPick (w : Wall) (c : CassId) (unmeasured : Bool) (l t : Nat) : PieceClass × Nat :=
  let ln := w.noteLength c
  let lt := w.lengthTolerance c
  let tr := (w.cassettes.get c).tr
  if unmeasured then (.unmeasured, 1)
  else if ln + lt < l then (.long, clampNat 1 4 (roundHalfUp l ln))
  else if l + lt < ln then (.short, 1)
  else if w.doubleThreshold c < t then (.double, clampNat 2 4 (roundHalfUp t tr))
  else if t < tr / 2 then (.thin, 1)
  else (.single, 1)

/-- The class and estimate of a passage without a cassette (R73). -/
def Wall.classifyOther (w : Wall) (unmeasured : Bool) (l : Nat) : PieceClass × Nat :=
  if unmeasured then (.unmeasured, 1) else (.retractPiece, clampNat 1 8 (roundHalfUp l w.shortestNote))

/-- The class, the estimate and the route of R72, R73 and R74 for a passage at its trailing edge. A passage that its closing sends to the reject bin whatever
its source (R81, R79, a front past the diverter) is `closePassage`'s. -/
def Wall.measurePassage (w : Wall) (src : Source) (unmeasured : Bool) (gap l t : Nat) : Measure :=
  match src with
  | .cassette c =>
    let (cls, est) := w.classifyPick c unmeasured l t
    if cls = .single then
      if gap < w.gapSettle c then { length := l, thickness := t, cls := .close, estimate := 1, route := .reject }
      else { length := l, thickness := t, cls := .single, estimate := 1, route := if w.gate.acceptEnable then .stacker else .reject }
    else { length := l, thickness := t, cls := cls, estimate := est, route := .reject }
  | .retract n =>
    let (cls, est) := w.classifyOther unmeasured l
    { length := l, thickness := t, cls := cls, estimate := est, route := (w.lanes.get n).bundle.dest.route }
  | .clearance =>
    let (cls, est) := w.classifyOther unmeasured l
    { length := l, thickness := t, cls := cls, estimate := est, route := .reject }

/-! ### Settlement (R76) -/

/-- A gate trace entry is written at the trace next index, and the passage total rises, saturating (R76, R82). -/
def Gate.trace1 (x : Passage) (m : Measure) (cut : Bool) (g : Gate) : Gate :=
  let entry : TraceEntry :=
    { seq := x.seq, source := x.source, cls := m.cls, length := m.length, thickness := m.thickness, gap := x.gap, estimate := m.estimate,
      route := m.route, cut := cut }
  { g with trace := tabSet g.trace g.traceNext (some entry), traceNext := g.traceNext + 1, traceFill := satAdd 64 g.traceFill 1,
           passageTotal := satAdd 4294967295 g.passageTotal 1 }

/-- The engine counts an accepted single of the order that holds the join: its outstanding count and the reservation fall (R55), its routed counts
rise, and a complete bundle clears accept enable (R92). -/
def Wall.acceptSingle (c : CassId) (w : Wall) : Wall :=
  match w.transport.join with
  | .dispense n =>
    match w.contextOf n with
    | none => w
    | some x =>
      let one : Nat := if 0 < x.outstanding.get c then 1 else 0
      let w1 := (w.modCassette c fun k => { k with reserved := k.reserved - one }).modContext n fun x =>
        { x with outstanding := tabMod x.outstanding c (· - one), routed := tabMod x.routed c (· + 1) }
      let w2 := w1.modEngine fun e => { e with routedInBundle := e.routedInBundle + 1 }
      if w2.engine.routedInBundle = x.target then w2.modGate fun g => { g with acceptEnable := false } else w2
  | _ => w

/-- The engine counts a settled pick passage against the order's rejects: the estimate where the route is REJECT, one more reject where the class is not
SINGLE, and the order's end beyond the reject limit (R94). The order is the one that holds the join at the settlement, for a piece that its own tenure left in
the gate too (R85; log 67). -/
def Wall.countReject (m : Measure) (w : Wall) : Wall :=
  match w.transport.join with
  | .dispense n =>
    let w1 := if m.route = .reject then w.modTally n fun t => { t with rejected := t.rejected + m.estimate } else w
    if m.cls = .single then w1
    else
      let w2 := w1.modContext n fun x => { x with rejects := satAdd 255 x.rejects 1 }
      match w2.contextOf n with
      | some x => if w.rejectLimit < x.rejects ∧ w2.endBegun n = false then w2.beginEnd n .rejectLimit else w2
      | none => w2
  | _ => w

/-- Transport Control learns a settled piece's estimate and route; a piece already at its exit is credited now (R76, R90). -/
def Wall.reportSettled (x : Passage) (m : Measure) (w : Wall) : Wall :=
  if w.transport.exitedEarly.contains x.seq then
    (w.modTransport fun t => { t with exitedEarly := t.exitedEarly.filter fun q => q ≠ x.seq }).creditExit x.source m.estimate m.route
  else
    w.modTransport fun t =>
      { t with watch := t.watch.map fun e => if e.seq = x.seq then { e with settled := some (m.estimate, m.route) } else e }

/-- A passage settles with its final class and route (R76): the trace, the report to Transport Control, the accepted single, the cassette record, the
learning, the engine's reject count. The accepted single comes before the record, so that a re-mix trigger finds the count it leaves (log 14). -/
def Wall.settle (x : Passage) (m : Measure) (cut : Bool) (w : Wall) : Wall :=
  let w1 := (w.modGate (Gate.trace1 x m cut)).reportSettled x m
  match x.source with
  | .cassette c =>
    let w2 := if m.route = .stacker then w1.acceptSingle c else w1
    let w3 := w2.recordPassage c m.cls m.estimate
    let w4 := if m.route = .stacker then w3.learn c m.thickness else w3
    w4.countReject m
  | _ => w1

/-! ### The gate's edges (R67, R68, R69, R75) -/

/-- Split a list at its first element for which `f` holds: the elements before it, it, those after it. -/
def splitAtFirst {α : Type} (f : α → Bool) : List α → Option (List α × α × List α)
  | [] => none
  | x :: rest =>
    if f x then some ([], x, rest)
    else (splitAtFirst f rest).map fun r => (x :: r.1, r.2.1, r.2.2)

/-- The window of an open pick has not closed: its count has not passed 400 (R70). -/
def OpenPick.inWindow (p : OpenPick) : Bool := decide (p.travel ≤ 400)

/-- The source of a passage at its leading edge, and the open picks that it leaves where it matches the oldest of those whose window has not closed (R69, R70).
A pick past its window is left to its miss. Without a join the piece is a clearance piece (log 15). -/
def Wall.sourceNow (w : Wall) : Source × Option (List OpenPick) :=
  match w.transport.join with
  | .dispense _ =>
    match splitAtFirst OpenPick.inWindow w.gate.openPicks with
    | some (late, p, later) => (.cassette p.cassette, some (late ++ later))
    | none =>
      match w.gate.lastPick with
      | some c => (.cassette c, none)
      | none => (.clearance, none)
  | .retract n => (.retract n, none)
  | .clearance | .none => (.clearance, none)

/-- The motor may be about to be driven from a stop: where it stands still now, the count of R79 restarts at 0. -/
def Wall.restartSilence (w : Wall) : Wall := if w.beltDriven then w else w.modTransport fun t => { t with silentMs := 0 }

/-- A leading edge at the gate (R67, R68, R69), the new exit watch entry (R90) and the quiet distance (R110). -/
def Wall.gateLeading (w : Wall) : Wall :=
  if w.gate.inPassage then w
  else
    let (src, matched) := w.sourceNow
    let g := w.gate
    let piece : Passage :=
      { seq := g.nextSeq, source := src, fromPick := matched.isSome, gap := g.gapCounter.getD 4095, reached := false, measure := none }
    let w1 := w.restartSilence.modGate fun g =>
      { g with inPassage := true, presence := true, source := src, runLength := 0, runPeak := 0, gap := g.gapCounter.getD 4095, cut := w.held, lossSeen := g.loss,
               nextSeq := (g.nextSeq + 1) % 65536, openPicks := matched.getD g.openPicks,
               passages := g.passages ++ [piece] }
    w1.modTransport fun t =>
      { t with watch := t.watch ++ [{ seq := g.nextSeq, source := src, settled := none, travel := 0 }], quiet := 0 }

/-- The passage in the gate: the one with no trailing edge yet (R67). -/
def Gate.current (g : Gate) : Option (List Passage × Passage × List Passage) :=
  if g.inPassage then splitAtFirst (fun x => x.measure.isNone) g.passages else none

/-- The passage in the gate is closed with a measure: it writes the route latch, or settles if the diverter has already taken it (R67, R74, R76). `latch` is
false where it is closed by encoder loss or a fault (R79, R80); a passage that a fault closes here once its front has passed the diverter is not in the
in-flight list, and settles without the cut-by-fault mark (log 49). A passage cut by hold goes to the reject bin (R81) whatever its source: a piece
of a retract too, which R74 and R109 would send to its retract's destination (log 66). -/
def Wall.closePassage (unmeasured latch : Bool) (w : Wall) : Wall :=
  match w.gate.current with
  | none => w
  | some (older, x, younger) =>
    let m := w.measurePassage x.source (unmeasured || w.gate.cut || w.gate.lossSeen) x.gap w.gate.runLength w.gate.runPeak
    let m1 := if x.reached || !latch || w.gate.cut then { m with route := .reject } else m
    let idle := w.modGate fun g => { g with inPassage := false }
    if x.reached then
      (idle.modGate fun g => { g with passages := older ++ younger }).settle x m1 false
    else
      idle.modGate fun g =>
        { g with passages := older ++ { x with measure := some m1 } :: younger,
                 latch := if latch then some (m1.route, x.seq) else g.latch }

/-- A piece's leading edge at the diverter (R75): the oldest in-flight number, the flap and the latch, and the settlement of a measured passage. -/
def Wall.diverterLeading (w : Wall) : Wall :=
  match splitAtFirst (fun x => !x.reached) w.gate.passages with
  | none => w
  | some (older, x, younger) =>
    let own := (w.gate.latch.map Prod.snd) = some x.seq
    let toStacker := decide (w.gate.latch = some (.stacker, x.seq)) && w.gate.acceptEnable
    let w1 := w.modGate fun g => { g with latch := if own then none else g.latch, flapStacker := toStacker }
    match x.measure with
    | none => w1.modGate fun g => { g with passages := older ++ { x with reached := true } :: younger }
    | some m =>
      let crowded := decide (w.gate.latch ≠ none) && !decide own && decide (m.route = .stacker)
      let route : Route := if toStacker then .stacker else if own ∧ m.route = .retractBin then .retractBin else .reject
      let m1 := { m with route := route, cls := if crowded then .close else m.cls }
      (w1.modGate fun g => { g with passages := older ++ younger }).settle x m1 false

/-! ### Misses (R70) -/

/-- The oldest open pick is declared a miss (R70, R52). -/
def Wall.declareMiss (w : Wall) : Wall :=
  match w.gate.openPicks with
  | [] => w
  | p :: rest => (w.modGate fun g => { g with openPicks := rest }).recordMiss p.cassette

/-! ### The fault (R80) -/

/-- Every passage in the in-flight list settles at once with route REJECT, cut by fault. -/
def settleCut : List Passage → Wall → Wall
  | [], w => w
  | x :: rest, w =>
    let m := x.measure.getD { length := 0, thickness := 0, cls := .unmeasured, estimate := 1, route := .reject }
    settleCut rest (w.settle x { m with route := .reject } true)

/-- The gate closes its lists at a fault (R80): the passage in the gate as UNMEASURED, the in-flight passages cut, the open picks dropped, the latch
empty, the flap at REJECT. -/
def Wall.closeGate (w : Wall) : Wall :=
  let w1 := w.closePassage true false
  let flying := w1.gate.inFlight
  let w2 := settleCut flying (w1.modGate fun g => { g with passages := [], openPicks := [] })
  w2.modGate fun g => { g with inPassage := false, latch := none, flapStacker := false }

end Sys2Proof.Machine
end

