-- ==== Sys2Proof/Machine/Drawers.lean ====
section
/-! DEFINITION. The Lane Controller (chapter 1) and the escrow pocket (chapter 7) between commands: travels, cycles, bounces, jams, the pocket's entries,
what an owning order does at the end of a cycle or a lift, the grant of the drawer, and settling. -/

namespace Sys2Proof.Machine

/-! ### Travels (R6, R7, R16) -/

/-- A travel out begins with a fresh 4 s. Once the motor drives it the drawer is taken to be off the stowed sensor, of which no report has come yet (log 16). -/
def Wall.startOpen (n : LaneId) (w : Wall) : Wall :=
  w.modLane n fun l =>
    { l with drawer := .opening, travel := .outward, budgetMs := 4000, stowedSensor := l.stowedSensor && w.held,
             leaving := l.leaving || l.stowedSensor }

/-- A travel in begins with a fresh 4 s: the timer and the clear window stop (R14, R16, R18). -/
def Wall.startClose (n : LaneId) (cause : CloseCause) (w : Wall) : Wall :=
  w.modLane n fun l =>
    { l with drawer := .closing, travel := .inward, budgetMs := 4000, timerMs := 0, window := none, closeCause := cause, obstructed := false,
             extendedSensor := l.extendedSensor && w.held }

/-- A lift begins with 3 s (R9). The envelope sensor keeps its value until the lift has completed or jammed, for no event reports it before (log 65). -/
def Wall.startLift (n : LaneId) (t : Travel) (w : Wall) : Wall :=
  w.modLane n fun l => { l with drawer := .lifting, travel := t, budgetMs := 3000 }

/-- An owning order closes the drawer with a cause (R16): at once where it is OFFERED or OPENING, and again at each later arrival at OFFERED of the cycle; in
LIFTING when the lift ends; a drawer that is STOWED or HOLDING is left as it is. -/
def Wall.closeByOwner (n : LaneId) (cause : CloseCause) (w : Wall) : Wall :=
  match (w.lanes.get n).drawer with
  | .offered | .opening => (w.startClose n cause).modLane n fun l => { l with ownerClose := some cause }
  | .closing | .lifting => w.modLane n fun l => { l with ownerClose := some cause }
  | _ => w

/-- The order that owns the drawer is of a kind that closes it under a lockdown rule of its own: a DISPENSE (R102) or a DEPOSIT (R127). -/
def Wall.ownerLocks (w : Wall) (n : LaneId) : Bool :=
  match (w.lanes.get n).owner with
  | some s => w.kindAt (lanePage n) s == some .dispense || w.kindAt (lanePage n) s == some .deposit
  | none => false

/-- Lockdown closes a drawer that is offered to an owner or opening (R18). For an owner with a lockdown rule that is the owner's close of R16, asked for in
CLOSING too; LIFTING goes on as before (log 43). -/
def Wall.closeByLockdown (n : LaneId) (w : Wall) : Wall :=
  let l := w.lanes.get n
  if w.ownerLocks n = true ∧ l.drawer ≠ .lifting then w.closeByOwner n .lockdown
  else if (l.drawer = .offered ∧ l.owner ≠ none) ∨ l.drawer = .opening then w.startClose n .lockdown
  else w

/-! ### The pocket (R122, R123) -/

/-- The pocket enters HELD: its timer is loaded and runs, and the stranded and lost marks clear (R122, R123). -/
def Wall.pocketHeld (n : LaneId) (w : Wall) : Wall :=
  w.modPocket n fun p =>
    { p with state := .held, owner := none, holdMs := w.holdLimitMs, timerRunning := true, unattended := false, abandoned := false,
             stranded := false, lost := false }

/-- The pocket enters EMPTY: owner none, and the unknown-origin, unattended, abandoned and stranded marks clear (R122). -/
def Wall.pocketEmpty (n : LaneId) (w : Wall) : Wall :=
  w.modPocket n fun p =>
    { p with state := .empty, owner := none, holdMs := 0, timerRunning := false, unknownOrigin := false, unattended := false,
             abandoned := false, stranded := false }

/-- The pocket is claimed or carried: its timer stops (R123, R133, R134). -/
def Wall.pocketMove (n : LaneId) (st : PocketState) (owner : Option SlotId) (w : Wall) : Wall :=
  w.modPocket n fun p => { p with state := st, owner := owner, holdMs := 0, timerRunning := false, stranded := false }

/-- The lane joins the capture queue (R129). -/
def Wall.joinQueue (n : LaneId) (w : Wall) : Wall := w.modConveyor fun c => { c with queue := c.queue ++ [n] }

/-- The lane leaves the capture queue (R129). -/
def Wall.leaveQueue (n : LaneId) (w : Wall) : Wall := w.modConveyor fun c => { c with queue := c.queue.filter fun m => m ≠ n }

/-- The pocket returns to HELD stranded, with its timer stopped at 0, and ESCROW STRANDED is posted (R123, R131). -/
def Wall.strandPocket (n : LaneId) (detail : Nat) (w : Wall) : Wall :=
  (w.modPocket n fun p =>
    { p with state := .held, owner := none, holdMs := 0, timerRunning := false, unattended := false, stranded := true,
             lost := if p.state = .held then p.lost else false }).post (.escrowStranded n) detail

/-- Room for captures: every stranded HELD pocket's timer is loaded again (R136). -/
def Wall.reloadStranded (w : Wall) : Wall :=
  w.eachLane fun n w =>
    let p := (w.lanes.get n).pocket
    if p.state = .held ∧ p.stranded = true then
      w.modPocket n fun p => { p with holdMs := w.holdLimitMs, timerRunning := true, stranded := false }
    else w

/-! ### The ends of the envelope orders -/

/-- The result fields of a DEPOSIT (R124): close cause, cycle result, pocket state. -/
def depositFields (cause : CloseCause) (r : CycleResult) (p : PocketState) : List Word := [word cause.code, word r.code, word p.code]

/-- The result fields of a RETURN (R134): cycle result, deposit bin count. -/
def Wall.returnFields (w : Wall) (r : CycleResult) : List Word := [word r.code, word (w.bins.get depositBin).count]

/-- The result fields of a CAPTURE (R133): deposit bin count, and the flags word with the unknown-origin mark (R180). -/
def Wall.captureFields (w : Wall) (unknown : Bool) : List Word := [word (w.bins.get depositBin).count, word (markBit 0 unknown)]

/-! ### The end of a cycle (R15, R17, R95, R124, R134, R135) -/

/-- A DISPENSE acts on its take cycle's result (R95, R96, R101, R102). -/
def Wall.dispenseCycleEnd (n : LaneId) (r : CycleResult) (w : Wall) : Wall :=
  match w.contextOf n with
  | none => w
  | some c =>
    if r = .left then
      let w1 := (w.releaseOutstanding n).modTally n fun t => { t with bundleLeft := true, remixWait := false }
      (w1.modContext n fun c => { c with phase := .retracting }).requestRetract n
    else
      let w1 := (w.modTally n fun t => { t with taken := t.taken + c.inDrawer }).modContext n fun c =>
        { c with takenLate := c.takenLate || r == .takenLate }
      if c.endCause ≠ .none ∨ c.final = true ∨ Counts.total c.outstanding = 0 then w1.finishDispense n false
      else if w.lockdown then (w1.beginEnd n .lockdown).finishDispense n false
      else w1.requestBundle n

/-- A RETURN acts on its take cycle's result (R134, R135). -/
def Wall.returnCycleEnd (n : LaneId) (s : SlotId) (r : CycleResult) (w : Wall) : Wall :=
  if r = .left then w.startLift n .liftToPocket
  else (w.pocketEmpty n).finish (lanePage n) s .returned (w.returnFields r)

/-- The outcome of a DEPOSIT whose cycle brought no item (R124). -/
def noItemOutcome (x : Slot) : OrderEnd := if x.lockdownMark then .lockdown else if x.cancelPending then .cancelled else .noItem

/-- A DEPOSIT acts on its deposit cycle's result (R124, R126). -/
def Wall.depositCycleEnd (n : LaneId) (s : SlotId) (r : CycleResult) (w : Wall) : Wall :=
  let x := w.slot (lanePage n) s
  if r = .itemIn then
    let w1 := if x.cancelPending then (w.refuseCancel (lanePage n) s).modSlot (lanePage n) s fun x => { x with cancelPending := false } else w
    w1.startLift n .liftToPocket
  else
    let l := w.lanes.get n
    w.finish (lanePage n) s (noItemOutcome x) (depositFields l.closeCause r l.pocket.state)

/-- The cycle ends with a result, and the owning order acts on it (R15, R17). -/
def Wall.cycleEnd (n : LaneId) (r : CycleResult) (w : Wall) : Wall :=
  let w1 := w.modLane n fun l => { l with cycle := .none, result := r, ownerClose := none, shortTimer := false }
  match (w.lanes.get n).owner with
  | none => w1
  | some s =>
    match w.kindAt (lanePage n) s with
    | some .dispense => w1.dispenseCycleEnd n r
    | some .returnEnvelope => w1.returnCycleEnd n s r
    | some .deposit => w1.depositCycleEnd n s r
    | _ => w1

/-- A take cycle starts (R14). Under lockdown it does not open the drawer: it ends at once with the drawer HOLDING and the result LEFT (R18). -/
def Wall.startTake (n : LaneId) (w : Wall) : Wall :=
  let w1 := w.modLane n fun l => { l with cycle := .take, result := .none, late := false, shortTimer := false, ownerClose := none }
  if w.lockdown then (w1.modLane n fun l => { l with drawer := .holding }).cycleEnd n .left else w1.startOpen n

/-- A deposit cycle starts (R17), with the late mark 0 (1.11, step 16). -/
def Wall.startDeposit (n : LaneId) (w : Wall) : Wall :=
  (w.modLane n fun l => { l with cycle := .deposit, result := .none, late := false, shortTimer := false, ownerClose := none }).startOpen n

/-- The state of a drawer at the stowed sensor, by its item sensor (R6, R10, R20). -/
def Lane.restState (l : Lane) : DrawerState := if l.itemSensor then .holding else .stowed

/-- The result of a cycle at the stowed sensor (R15, R17). -/
def Lane.restResult (l : Lane) : CycleResult :=
  match l.cycle with
  | .deposit => if l.itemSensor then .itemIn else .noItem
  | _ => if l.itemSensor then .left else if l.late then .takenLate else .taken

/-! ### Jams (R6, R104, R124, R125, R134) -/

/-- The pocket after a lift that jams, from its envelope sensor (R125). -/
def Wall.pocketFromSensor (n : LaneId) (w : Wall) : Wall :=
  if (w.lanes.get n).envelopeSensor then w.pocketHeld n else w.pocketEmpty n

/-- The cycle result of a RETURN whose drawer jams (R134): none yet where it jams in its lift to the drawer, before the take cycle (log 30). -/
def Lane.jamResult (l : Lane) : CycleResult := if l.travel = .liftToDrawer then .none else l.result

/-- The order that owns the drawer ends DRAWER JAMMED; `old` is the lane as it stood before the jam (R6, R104, R124, R125, R134). A DEPOSIT whose drawer jams
before any close of its cycle reports the close cause that the drawer record holds (log 56), a RETRACT whose request was not granted the fields of log 68. -/
def Wall.jamOwner (n : LaneId) (s : SlotId) (old : Lane) (w : Wall) : Wall :=
  let lifting := decide (old.travel = .liftToPocket) || decide (old.travel = .liftToDrawer)
  match w.kindAt (lanePage n) s with
  | some .dispense =>
    let notes := match w.contextOf n with
      | some c => if c.phase = .inDrawer ∨ c.phase = .retracting then c.inDrawer else 0
      | none => 0
    ((w.dropRequest n .retract).modTally n fun t => { t with unresolved := t.unresolved + notes }).finishDispense n true
  | some .deposit =>
    let w1 := if lifting then w.pocketFromSensor n else w
    w1.finish (lanePage n) s .drawerJammed (depositFields old.closeCause old.result (w1.lanes.get n).pocket.state)
  | some .returnEnvelope =>
    let w1 := if lifting then w.pocketFromSensor n else w.pocketEmpty n
    w1.finish (lanePage n) s .drawerJammed (w1.returnFields old.jamResult)
  | some .retract => w.finish (lanePage n) s .drawerJammed (retractFields BundleRecord.reset)
  | _ => w

/-- An order that waits for the drawer ends DRAWER JAMMED (R6, R104, R134), a RETRACT with the fields of log 68. -/
def Wall.jamWaiter (n : LaneId) (s : SlotId) (w : Wall) : Wall :=
  match w.kindAt (lanePage n) s with
  | some .dispense => w.finishDispense n true
  | some .deposit =>
    w.finish (lanePage n) s .drawerJammed (depositFields (w.lanes.get n).closeCause .none (w.lanes.get n).pocket.state)
  | some .returnEnvelope => (w.pocketHeld n).finish (lanePage n) s .drawerJammed (w.returnFields .none)
  | some .retract => w.finish (lanePage n) s .drawerJammed (retractFields BundleRecord.reset)
  | _ => w

/-- The drawer enters JAMMED (R6): the timer and the cycle end, DRAWER JAMMED is posted, the waiting orders and a PATH RESET for the drawer end. The owner is
left to the caller. -/
def Wall.enterJam (n : LaneId) (detail : Nat) (w : Wall) : Wall :=
  let l := w.lanes.get n
  let w1 := (w.modLane n fun l =>
    { l with drawer := .jammed, timerMs := 0, cycle := .none, travel := .none, budgetMs := 0, window := none, obstructed := false,
             shortTimer := false, ownerClose := none }).post (.drawerJammed n) detail
  let w2 := l.waiting.foldl (fun w s => w.jamWaiter n s) w1
  match w2.pathReset (2 + n.val) with
  | some s => w2.finish servicePage s .drawerJammed []
  | none => w2

/-- The drawer jams in a travel or a lift: it enters JAMMED and its owning order ends (R6). -/
def Wall.jamDrawer (n : LaneId) (w : Wall) : Wall :=
  let l := w.lanes.get n
  let w1 := w.enterJam n l.travel.code
  let w2 := match l.owner with
    | some s => w1.jamOwner n s l
    | none => w1
  w2.modLane n fun l => { l with owner := none }

/-! ### Obstructions (R7, R8) -/

/-- An obstruction during a close (R7, R8): an owned drawer reverses, an ownerless one stops, and the fourth jams it. -/
def Wall.obstruct (n : LaneId) (w : Wall) : Wall :=
  let w1 := w.modLane n fun l => { l with bounce := satAdd 4 l.bounce 1 }
  if 4 ≤ (w1.lanes.get n).bounce then w1.jamDrawer n
  else if (w1.lanes.get n).owner ≠ none then
    (w1.modLane n fun l => { l with shortTimer := true, obstructionSensor := false }).startOpen n
  else w1.modLane n fun l => { l with obstructed := true }

/-! ### Arrivals -/

/-- The timer an arrival at OFFERED loads (R7, R14, R17). -/
def Wall.arrivalTimer (w : Wall) (l : Lane) : Nat :=
  if l.shortTimer then 10000 else if l.cycle = .deposit then w.depositTimeMs else w.takeTimeMs

/-- The close that a drawer owned by an order meets at its arrival at OFFERED: lockdown's (R18), or the one its order has asked for (R16). -/
def Wall.closeAtArrival (w : Wall) (l : Lane) : Option CloseCause :=
  if w.lockdown ∧ l.owner ≠ none then some .lockdown else l.ownerClose

/-- A travel out ends at the extended sensor (R6, R14, R16, R17, R18). -/
def Wall.arriveExtended (n : LaneId) (w : Wall) : Wall :=
  let w1 := w.modLane n fun l => { l with drawer := .offered, travel := .none, budgetMs := 0 }
  let l := w1.lanes.get n
  match w.closeAtArrival l with
  | some cause => w1.startClose n cause
  | none =>
    w1.modLane n fun l =>
      { l with timerMs := w.arrivalTimer l, shortTimer := false,
               window := if l.cycle = .take ∧ l.itemSensor = false then some 2000 else none }

/-- A travel in ends at the stowed sensor (R6, R15, R17, R20). -/
def Wall.arriveStowed (n : LaneId) (w : Wall) : Wall :=
  let w1 := w.modLane n fun l =>
    { l with drawer := l.restState, travel := .none, budgetMs := 0, bounce := 0, obstructed := false, shortTimer := false }
  let l := w.lanes.get n
  if l.cycle ≠ .none then w1.cycleEnd n l.restResult
  else
    match w1.pathReset (2 + n.val) with
    | some s => w1.finish servicePage s .done []
    | none => w1

/-! ### The grant of the drawer (R11) -/

/-- The condition for the grant of the drawer to an order (R11). -/
def Wall.grantable (w : Wall) (n : LaneId) (s : SlotId) : Bool :=
  let l := w.lanes.get n
  !l.forced &&
  match w.kindAt (lanePage n) s with
  | some .retract => l.drawer == .stowed || l.drawer == .holding
  | _ => l.drawer == .stowed

/-- The entry of the waiting list that a grant evaluation would give the drawer to (R11). -/
def Wall.nextGrant (w : Wall) (n : LaneId) : Option SlotId :=
  if (w.lanes.get n).owner ≠ none then none else (w.lanes.get n).waiting.find? (w.grantable n)

/-- The drawer is granted to an order, and the order's work begins (R11, R31, R102). -/
def Wall.grantDrawer (n : LaneId) (s : SlotId) (w : Wall) : Wall :=
  let w1 := w.modLane n fun l => { l with owner := some s, ownerClose := none, waiting := l.waiting.filter fun t => t ≠ s }
  match w.kindAt (lanePage n) s with
  | some .dispense =>
    if w.lockdown then (w1.beginEnd n .lockdown).finishDispense n false else w1.requestBundle n
  | some .retract => (w1.startWork (lanePage n) s).requestRetract n
  | some .deposit => (w1.startWork (lanePage n) s).startDeposit n
  | some .returnEnvelope => (w1.startWork (lanePage n) s).startLift n .liftToDrawer
  | _ => w1

/-- An order requests the drawer: it joins the tail of the waiting list (R11). -/
def Wall.requestDrawer (n : LaneId) (s : SlotId) (w : Wall) : Wall := w.modLane n fun l => { l with waiting := l.waiting ++ [s] }

/-! ### Settling (R3) -/

/-- A lane in CLOSING with no order in progress but a LANE CLOSE (R3). -/
def Wall.settles (w : Wall) (n : LaneId) : Bool :=
  (w.lanes.get n).state == .closing
  && (findSlot fun s => (w.slot (lanePage n) s).state.inProgress && !(w.kindAt (lanePage n) s == some .laneClose)).isNone

/-- The lane settles, and its LANE CLOSE finishes DONE (R3). -/
def Wall.settleLane (n : LaneId) (w : Wall) : Wall :=
  let w1 := w.modLane n fun l => { l with state := if w.lockedOut n then .lockedOut else .closed }
  match w.orderOf n .laneClose with
  | some s => w1.finish (lanePage n) s .done []
  | none => w1

end Sys2Proof.Machine
end

