-- ==== Sys2Proof/Machine/Alarm.lean ====
section
/-! DEFINITION. The Alarm Unit (chapter 8): the outputs, the entry of lockdown and what it does to the lanes' orders, the zone machines, live changes,
internal points, and the acknowledge event. -/

namespace Sys2Proof.Machine

/-- The outputs are recomputed (R150). -/
def Wall.refreshOutputs (w : Wall) : Wall :=
  w.modAlarm fun a => { a with siren := w.sirenCalled, strobe := w.strobeCalled, silent := w.silentCalled }

/-! ### Lockdown (R154, R18, R102, R127) -/

/-- Lockdown reaches a lane's unfinished DISPENSE, by its phase (R102). An end already begun is kept. -/
def Wall.lockdownDispense (n : LaneId) (w : Wall) : Wall :=
  match w.contextOf n with
  | none => w
  | some c =>
    if w.endBegun n then w
    else
      match c.phase with
      | .drawerWait => (w.beginEnd n .lockdown).finishDispense n false
      | .bundleWait => ((w.beginEnd n .lockdown).dropRequest n .bundle).finishDispense n false
      | .building | .delivering | .inDrawer | .retracting => w.beginEnd n .lockdown
      | .purging => w

/-- Lockdown reaches a lane's unfinished DEPOSIT (R127): one that waits for the drawer finishes, one that owns it is marked. -/
def Wall.lockdownDeposit (n : LaneId) (w : Wall) : Wall :=
  match w.orderOf n .deposit with
  | none => w
  | some s =>
    let l := w.lanes.get n
    if l.owner = some s then w.modSlot (lanePage n) s fun x => { x with lockdownMark := true }
    else w.finish (lanePage n) s .lockdown (depositFields l.closeCause .none l.pocket.state)

/-- What the entry of lockdown does to one lane (R18, R102, R127). -/
def Wall.lockdownLane (n : LaneId) (w : Wall) : Wall :=
  let w1 := w.modLane n fun l => { l with state := if l.state = .opened then .closing else l.state }
  ((w1.lockdownDispense n).lockdownDeposit n).closeByLockdown n

/-- Lockdown is entered through a zone (R154), unless it is in force. -/
def Wall.enterLockdown (z : ZoneId) (w : Wall) : Wall :=
  if w.lockdown then w
  else
    let w1 := w.modAlarm fun a => { a with lockdown := true, lockdownZone := some z, lockdownStart := w.port.seconds }
    (w1.post .lockdownOn z.val).eachLane Wall.lockdownLane

/-! ### Zones (8.2) -/

/-- A zone enters ALARM with a trigger point (R149). -/
def Wall.zoneAlarm (z : ZoneId) (p : PointId) (w : Wall) : Wall :=
  let w1 := w.modZone z fun x =>
    { x with state := .alarm, trigger := some p, alarms := satAdd 255 x.alarms 1, entryMs := 0,
             sirenMs := if x.siren = true ∧ 0 < x.sirenTime then some (x.sirenTime * 1000) else none }
  let w2 := (w1.post (.zoneAlarm z) p.val).refreshOutputs
  if (w2.zones.get z).lockdownAlarm then w2.enterLockdown z else w2

/-- A zone leaves ALARM (R149): detail 1 for a disarm, 2 for a reset, 3 for a profile load. -/
def Wall.zoneExit (z : ZoneId) (st : ZoneState) (detail : Nat) (w : Wall) : Wall :=
  let w1 := w.modZone z fun x => { x with state := st, trigger := none, entryMs := 0, sirenMs := none }
  w1.refreshOutputs.post (.zoneCleared z) detail

/-- A zone's machine meets the live change to ACTIVE of a member point (R146, R147, R148). -/
def Wall.zoneReact (z : ZoneId) (p : PointId) (w : Wall) : Wall :=
  let x := w.zones.get z
  let delayed := (w.points.get p).entryDelay
  match x.mode, x.state with
  | .armable, .armed =>
    if delayed = true ∧ 0 < x.entryDelay then
      w.modZone z fun x => { x with state := .entryDelay, entryMs := x.entryDelay * 1000, trigger := some p }
    else w.zoneAlarm z p
  | .armable, .entryDelay => if delayed then w else w.zoneAlarm z p
  | .always, .armed => w.zoneAlarm z p
  | _, _ => w

/-! ### Points (8.1) -/

/-- What a live change does to the point's own record (R142). -/
def Point.change (new : Bool) (p : Point) : Point :=
  { p with live := new, changes := satAdd 255 p.changes 1,
           alert := p.alert || new != p.known, restored := p.restored || (p.alert && new == p.known) }

/-- The door-opened marks of the bins behind a point that has gone ACTIVE (R118). -/
def Wall.markDoors (p : PointId) (w : Wall) : Wall :=
  if p = 0 then
    (w.modBin rejectBin fun b => { b with door := true }).modBin retractBin fun b => { b with door := true }
  else if p = 2 then w.modBin depositBin fun b => { b with door := true }
  else w

/-- A live change of a point (R142, R144). -/
def Wall.changeLive (p : PointId) (new : Bool) (w : Wall) : Wall :=
  let w1 := w.modPoint p (Point.change new)
  if new then (w1.markDoors p).zoneReact (w.points.get p).zone p else w1

/-- A block sets an internal point; a cause that finds it so makes no live change (R141). -/
def Wall.setInternal (p : PointId) (active : Bool) (w : Wall) : Wall :=
  if (w.points.get p).live = active then w else w.changeLive p active

/-- Point 14 follows the forced marks of the four lanes (R10, R141). -/
def Wall.refreshForced (w : Wall) : Wall := w.setInternal 14 w.anyForced

/-- The acknowledge event of a point (R143). -/
def Wall.acknowledge (p : PointId) (w : Wall) : Wall :=
  (w.modPoint p fun x => { x with known := x.live, alert := false, restored := false }).clearFlagBit 2 p.val

end Sys2Proof.Machine
end

