-- ==== Sys2Proof/Machine/Path.lean ====
section
/-! DEFINITION. The note path at its events (chapters 5 and 6): the transport fault, the exits, the release of picks, the re-mix, the delivery, the purge,
the clearance, the sweep and the end of a retract, the encoder's edge. -/

namespace Sys2Proof.Machine

/-! ### The fault (R98, R80, R79, R113, R99) -/

/-- What a fault makes of the dump: none for an empty stacker; a dump in progress goes on for the fault; otherwise a new one of 1.5 s
(step 4 of R98, R97; log 17). -/
def dumpAtFault (holder : Option LaneId) (t : Transport) : Option Dump :=
  if t.stackerCount = 0 then none
  else
    match t.dump with
    | some d =>
      match d.purpose with
      | .fault _ => some d
      | _ => some { d with purpose := .fault holder }
    | none => some { purpose := .fault holder, leftMs := 1500 }

/-- The lane of a dispense join. -/
def Join.dispenseLane : Join → Option LaneId
  | .dispense n => some n
  | _ => Option.none

/-- The estimates of the exit watch, which a fault or a wall reset adds to unaccounted (step 2 of R98, R106). -/
def watchEstimates (unsettled : Nat → Nat) (watch : List WatchEntry) : Nat :=
  (watch.map fun e => (e.settled.map Prod.fst).getD (unsettled e.seq)).sum

/-- A fault that reaches a DISPENSE in DELIVERING credits the stacker's content as presented and unresolved, and the drawer is HOLDING if it shows
an item (R95). -/
def Wall.faultDelivery (n : LaneId) (w : Wall) : Wall :=
  match w.contextOf n with
  | none => w
  | some c =>
    if c.phase = .delivering then
      let comp := w.transport.composition
      let w1 := w.modTally n fun t =>
        { t with presented := tabMap t.presented fun i x => x + comp.get i, unresolved := t.unresolved + Counts.total comp }
      let w2 := (w1.modTransport fun t => { t with composition := Counts.zero }).modEngine fun e => { e with deliveryMs := 0 }
      w2.modLane n fun l => { l with drawer := if l.itemSensor then .holding else l.drawer }
    else w

/-- The result fields of a PATH RESET of the transport (R100): clearance seen, unaccounted, the stacker count dumped. -/
def Wall.clearanceFields (w : Wall) (dumped : Nat) : List Word :=
  [word w.transport.seen, word w.transport.unaccounted, word dumped]

/-- The holder of the join ends (step 5 of R98, R113, R99). A dispense holder whose dump runs finishes at its end. A PATH RESET whose clearance the fault ends
finishes now, before any dump of the fault, with a dumped count of 0 and the fault's estimates in unaccounted (log 51). -/
def Wall.faultHolder (j : Join) (w : Wall) : Wall :=
  match j with
  | .none => w
  | .dispense n =>
    let w1 := w.writeBack.modGate fun g => { g with acceptEnable := false }
    if (w1.transport.dump.map Dump.purpose) = some (.fault (some n)) then w1 else w1.finishDispense n false
  | .retract n =>
    (w.modLane n fun l => { l with drawer := if l.drawer = .jammed then .jammed else l.restState }).reportRetract n true
  | .clearance =>
    let w1 := w.modPort fun p => { p with transportReady := true }
    match w1.pathReset 0 with
    | some s => w1.finish servicePage s .transportFault (w1.clearanceFields 0)
    | none => w1

/-- A request in the queue at a fault leaves it, and its order ends (step 6 of R98, R113). -/
def Wall.faultRequest (r : Request) (w : Wall) : Wall :=
  match r.kind with
  | .bundle => ((w.dropRequest r.lane .bundle).modTally r.lane fun t => { t with faulted := true }).finishDispense r.lane false
  | .retract => w.dropRetract r.lane .transportFault

/-- The transport becomes FAULTED (R98): by a jam, or by encoder loss (R79). The internal point's zone acts as the point goes ACTIVE (R144, R148), an entry of
lockdown with it (R154), before the later steps here: a queued BUNDLE's order then ends by lockdown (R102), not by step 6 (log 74). -/
def Wall.transportFault (jam : Bool) (w : Wall) : Wall :=
  let j := w.transport.join
  let w1 := w.modTransport fun t => { t with state := .faulted, clearPulses := 0 }
  let w2 := match j with
    | .dispense n => w1.modTally n fun t => { t with faulted := true, remixWait := false }
    | _ => w1
  let w3 := if jam then w2 else (w2.modGate fun g => { g with loss := true }).setInternal 15 true
  let picks := w3.gate.openPicks.length
  let w4 := w3.closeGate
  let w5 := w4.modTransport fun t =>
    { t with unaccounted := satAdd 65535 t.unaccounted (watchEstimates (fun _ => 0) t.watch), watch := [], exitedEarly := [] }
  let w6 := if jam then (w5.setInternal 12 true).post .transportFault j.faultCode else w5.post .encoderLoss picks
  let w7 := match j with
    | .dispense n => w6.faultDelivery n
    | _ => w6
  let w8 := w7.modTransport fun t => { t with dump := dumpAtFault j.dispenseLane t, join := .none }
  let w9 := w8.faultHolder j
  w9.transport.queue.foldl (fun w r => w.faultRequest r) w9

/-! ### The exits (R90, R99) -/

/-- An exit sensor sees a leading edge (R90). With an empty watch outside a clearance it declares a jam, but none while the belt stands (R103, R112). -/
def Wall.exitEdge (w : Wall) : Wall :=
  match w.transport.watch with
  | e :: rest =>
    let w1 := w.modTransport fun t =>
      { t with watch := rest, seen := if t.state = .clearing then satAdd 65535 t.seen 1 else t.seen }
    let w2 := match e.settled with
      | some (estimate, route) => w1.creditExit e.source estimate route
      | none => w1.modTransport fun t => { t with exitedEarly := t.exitedEarly ++ [e.seq] }
    w2.checkEnding
  | [] =>
    if w.transport.state = .clearing then
      (w.modTransport fun t => { t with seen := satAdd 65535 t.seen 1 }).creditBin rejectBin 1
    else if w.beltStands then w
    else w.transportFault true

/-! ### Picks (R93, R69, R70) -/

/-- The cassette of the next pick of a lane's DISPENSE, if one may be picked from (third condition of R93). -/
def Wall.nextPick (w : Wall) (n : LaneId) (c : DispenseContext) : Option CassId :=
  match w.orderOf n .dispense with
  | none => none
  | some s =>
    (w.pickListing (w.slot (lanePage n) s)).find? fun k => w.usable k && decide (w.gate.pendingFrom k < c.outstanding.get k)

/-- The belt has travelled far enough since the previous release of the tenure (fourth condition of R93). -/
def Wall.paced (w : Wall) : Bool :=
  match w.engine.lastRelease with
  | none => true
  | some d => decide (w.noteLength d + w.gapSettle d + 100 ≤ w.engine.sinceRelease)

/-- The pick the engine releases now, if the conditions of R93 hold. -/
def Wall.readyPick (w : Wall) : Option CassId :=
  match w.transport.join with
  | .dispense n =>
    match w.contextOf n, w.tallyOf n with
    | some c, some t =>
      if w.transport.state = .granted ∧ w.held = false ∧ w.lockdown = false ∧ c.phase = .building ∧ w.endBegun n = false
          ∧ t.remixWait = false ∧ c.final = false ∧ w.engine.routedInBundle + w.gate.pendingPicks < c.target ∧ w.paced = true then
        w.nextPick n c
      else none
    | _, _ => none
  | _ => none

/-- A pick is released from a cassette and announced to the gate (R93, R69). -/
def Wall.releasePick (c : CassId) (w : Wall) : Wall :=
  let w1 := if 4 ≤ w.gate.openPicks.length then w.declareMiss else w
  (w1.modGate fun g => { g with openPicks := g.openPicks ++ [{ cassette := c, travel := 0 }], lastPick := some c }).modEngine fun e =>
    { e with lastRelease := some c, sinceRelease := 0 }

/-- The oldest open pick has reached the 401st edge (R70). -/
def Gate.missDue (g : Gate) : Bool :=
  match g.openPicks with
  | p :: _ => decide (400 < p.travel)
  | [] => false

/-! ### The re-mix (R58 to R61) -/

/-- A lane's DISPENSE waits for a re-mix that can be made now: its end has not begun, and if it holds the transport every released pick has
settled (R58). -/
def Wall.remixReady (w : Wall) (n : LaneId) : Bool :=
  match w.contextOf n, w.tallyOf n with
  | some c, some t => t.remixWait && !w.endBegun n && (!(c.phase == .building) || w.gate.pendingPicks == 0)
  | _, _ => false

/-- The acceptance number of a lane's DISPENSE. -/
def Wall.acceptanceOf (w : Wall) (n : LaneId) : Nat := ((w.contextOf n).map DispenseContext.acceptance).getD 0

/-- The lane whose re-mix is made next: the earliest accepted of those ready (R61). -/
def Wall.nextRemix (w : Wall) : Option LaneId :=
  (laneIds.filter w.remixReady).foldl (fun best n =>
    match best with
    | none => some n
    | some m => if w.acceptanceOf n < w.acceptanceOf m then some n else some m) none

/-- The sum of two tables of counts. -/
def addCounts (a b : Counts) : Counts := tabMap a fun i x => x + b.get i

/-- The order is marked final (R60). -/
def Wall.markFinal (n : LaneId) (w : Wall) : Wall :=
  let w1 := w.modContext n fun c => { c with final := true }
  match w1.contextOf n with
  | none => w1
  | some c =>
    let w2 := w1.modTally n fun t => { t with chosen := c.routed, remixWait := false }
    match c.phase with
    | .building => (w2.modGate fun g => { g with acceptEnable := false }).checkEnding
    | .bundleWait => (w2.dropRequest n .bundle).finishDispense n false
    | .drawerWait => w2.finishDispense n false
    | _ => w2

/-- A re-mix found a mix (step 4 of R59): it is reserved, and a bundle being built takes the new target, so that a belt that stood with a ready bundle may be
driven again. A mix found in phase DELIVERING leaves the target and accept enable of the bundle in delivery as they are (log 60); the zero mix, which an
outstanding amount of 0 finds, is taken like another (log 48). -/
def Wall.takeMix (n : LaneId) (v : Counts) (w : Wall) : Wall :=
  let w1 := (w.restartSilence.reserve v).modContext n fun c => { c with outstanding := v, remixes := c.remixes + 1 }
  match w1.contextOf n with
  | none => w1
  | some c =>
    let w2 := w1.modTally n fun t => { t with chosen := addCounts c.routed v, remixWait := false }
    if c.phase = .building then
      let target := min w.bundleLimit (w.engine.routedInBundle + Counts.total v)
      (w2.modContext n fun c => { c with target := target }).modGate fun g =>
        { g with acceptEnable := if w.engine.routedInBundle < target then true else g.acceptEnable }
    else w2

/-- The mix a re-mix of an order finds (steps 2 and 3 of R59). A COUNTS order has none, nor has an order whose routed notes are worth more than its value or are
more than the note limit: no vector has a negative sum (R56). An outstanding amount of 0 has the zero mix (log 48). -/
def Wall.remixMix (w : Wall) (x : Slot) (routed : Counts) : Option Counts :=
  if x.param 0 = 0 ∧ w.valueOf routed ≤ x.param 1 ∧ Counts.total routed ≤ w.noteLimit then
    w.chooseMix (x.param 1 - w.valueOf routed) (w.noteLimit - Counts.total routed)
  else none

/-- The re-mix of a lane's DISPENSE (R59, R60). -/
def Wall.remixLane (n : LaneId) (w : Wall) : Wall :=
  match w.orderOf n .dispense, w.contextOf n with
  | some s, some c =>
    let w1 := w.releaseOutstanding n
    match w1.remixMix (w.slot (lanePage n) s) c.routed with
    | some v => w1.takeMix n v
    | none => w1.markFinal n
  | _, _ => w

/-! ### The delivery (R95, R101, R102) -/

/-- The lane whose ready bundle may start its delivery now (R95). -/
def Wall.readyDelivery (w : Wall) : Option LaneId :=
  match w.transport.join with
  | .dispense n =>
    match w.contextOf n, w.tallyOf n with
    | some c, some t =>
      let l := w.lanes.get n
      if w.transport.state = .granted ∧ c.phase = .building ∧ w.bundleReady c = true ∧ w.endBegun n = false ∧ t.remixWait = false
          ∧ l.drawer = .stowed ∧ l.forced = false ∧ w.held = false then
        some n
      else none
    | _, _ => none
  | _ => none

/-- A delivery starts (R95). -/
def Wall.startDelivery (n : LaneId) (w : Wall) : Wall :=
  (w.modContext n fun c => { c with phase := .delivering }).modEngine fun e => { e with deliveryMs := 2000 }

/-- The lane whose delivery is in progress. -/
def Wall.deliveringLane (w : Wall) : Option LaneId :=
  match w.transport.join with
  | .dispense n =>
    match w.contextOf n with
    | some c => if c.phase = .delivering then some n else none
    | none => none
  | _ => none

/-- A take cycle that may not open the drawer ends at once with the drawer HOLDING and the result LEFT (R101, R18). -/
def Wall.takeHeld (n : LaneId) (w : Wall) : Wall :=
  (w.modLane n fun l =>
    { l with cycle := .take, result := .none, late := false, shortTimer := false, ownerClose := none, drawer := .holding }).cycleEnd n .left

/-- The stacker's notes are delivered (R95): they are presented, the lane's bundle record starts, the tenure ends. -/
def Wall.deliver (n : LaneId) (w : Wall) : Wall :=
  let comp := w.transport.composition
  let count := Counts.total comp
  let w1 := w.modTally n fun t => { t with presented := addCounts t.presented comp }
  let w2 := w1.modTransport fun t =>
    { t with composition := Counts.zero, presentedTotal := raise32 t.presentedTotal count }
  let w3 := (w2.modContext n fun c => { c with bundles := c.bundles + 1, inDrawer := count, phase := .inDrawer }).modEngine fun e =>
    { e with deliveryMs := 0 }
  let w4 := w3.modLane n fun l =>
    { l with itemSensor := true, bundle := { l.bundle with slot := w.orderOf n .dispense, notes := count } }
  w4.endTenure

/-- A delivery ends (R95): the notes are presented, the tenure ends, a grant evaluation is made, and the take cycle starts, unless a cancel or lockdown
arrived during the delivery. -/
def Wall.endDelivery (n : LaneId) (w : Wall) : Wall :=
  let cause := ((w.contextOf n).map DispenseContext.endCause).getD .none
  let w1 := (w.deliver n).transportGrant
  if cause = .none then w1.startTake n else w1.takeHeld n

/-! ### The purge and the clearance (R97, R99, R100) -/

/-- The lane of a dispense whose purge may start now (R94, R101, R102). -/
def Wall.readyPurge (w : Wall) : Option LaneId :=
  match w.transport.join with
  | .dispense n =>
    match w.contextOf n with
    | some c =>
      if w.transport.state = .granted ∧ c.phase = .building ∧ c.endCause ≠ .none ∧ w.pathSettled = true ∧ 0 < w.transport.stackerCount
          ∧ w.held = false then
        some n
      else none
    | none => none
  | _ => none

/-- A purge starts for a dispense whose end has begun (R97). -/
def Wall.startPurge (n : LaneId) (w : Wall) : Wall :=
  (w.modContext n fun c => { c with phase := .purging }).modTransport fun t =>
    { t with state := .purging, dump := some { purpose := .tenure, leftMs := 1500 } }

/-- A clearance ends in IDLE (steps 4 and 5 of R99): its news, unaccounted, point 12, the join, the PATH RESET. A grant evaluation follows. -/
def Wall.endClearance (dumped : Nat) (w : Wall) : Wall :=
  let seen := w.transport.seen
  let lost := w.transport.unaccounted
  let fields := w.clearanceFields dumped
  let w1 := if 0 < seen ∨ 0 < lost then w.post (.clearancePieces rejectBin) (min 255 seen * 256 + min 255 lost) else w
  let w2 := (w1.modTransport fun t => { t with unaccounted := 0 }).setInternal 12 false
  let w3 := (w2.modTransport fun t => { t with join := .none, state := .idle }).modPort fun p => { p with transportReady := true }
  match w3.pathReset 0 with
  | some s => w3.finish servicePage s .done fields
  | none => w3

/-- The stacker's notes of a lane's order are dumped and counted as purged (R97). -/
def Wall.purgeNotes (n : LaneId) (w : Wall) : Wall :=
  w.dumpStacker.modTally n fun t => { t with purged := t.purged + w.transport.stackerCount }

/-- The dump of the stacker ends (R97): the count goes to the reject bin, and what it ran for goes on. -/
def Wall.endDump (d : Dump) (w : Wall) : Wall :=
  match d.purpose with
  | .tenure =>
    match w.transport.join with
    | .dispense n => ((w.purgeNotes n).endEmpty n).transportGrant
    | _ => w.dumpStacker
  | .fault (some n) => (w.purgeNotes n).finishDispense n false
  | .fault none => w.dumpStacker
  | .clearance => (w.dumpStacker.endClearance w.transport.stackerCount).transportGrant

/-- The belt of a clearance has run its pulses and the exit watch is empty (steps 1 to 3 of R99). A fault's dump that still runs ends first (log 53). -/
def Wall.beltCleared (w : Wall) : Bool :=
  w.transport.state == .clearing && w.transport.dump.isNone && w.transport.clearPulses == 0 && w.transport.watch.isEmpty && !w.held

/-! ### The retract (R110, R111) -/

/-- The lane whose granted retract is in a phase. -/
def Wall.retractIn (w : Wall) (ph : RetractPhase) : Option LaneId :=
  match w.transport.join with
  | .retract n => if w.transport.state = .granted ∧ (w.lanes.get n).bundle.phase = ph then some n else none
  | _ => none

/-- As a pulse arrives, the sweep in progress is tested (step 2 of R110, R111): with the tray clear and a quiet distance of 800 it ends, with an item and 2000 it
stalls. The finding stands until SWEEP_END or SWEEP_STALL is taken, whatever happens to the sensor, the belt or the distance meanwhile (log 72). -/
def Wall.testSweep (w : Wall) : Wall :=
  match w.retractIn .sweeping with
  | some n =>
    if w.transport.sweepFound = .none then
      w.modTransport fun t =>
        { t with sweepFound := if (w.lanes.get n).itemSensor then (if 2000 ≤ t.quiet then .lodged else .none)
                               else if 800 ≤ t.quiet then .clear else .none }
    else w
  | none => w

/-- The lane whose sweep a pulse has found ended (step 2 of R110). -/
def Wall.readySweepEnd (w : Wall) : Option LaneId := (w.retractIn .sweeping).filter fun _ => w.transport.sweepFound == .clear

/-- The lane whose sweep a pulse has found stalled (R111). -/
def Wall.readyStall (w : Wall) : Option LaneId := (w.retractIn .sweeping).filter fun _ => w.transport.sweepFound == .lodged

/-- The lane whose draining retract has its exit watch empty (step 4 of R110), while neither hold nor a forced drawer stops it (R112). -/
def Wall.readyRetractEnd (w : Wall) : Option LaneId :=
  (w.retractIn .draining).filter fun n => w.transport.watch.isEmpty && !w.held && !(w.lanes.get n).forced

/-- The sweep ends and the drawer is STOWED (step 2 of R110). -/
def Wall.endSweep (n : LaneId) (w : Wall) : Wall :=
  (w.modLane n fun l => { l with drawer := .stowed }).modBundle n fun b => { b with phase := .draining }

/-- The detail SWEEP of DRAWER JAMMED (11.5). -/
def sweepDetail : Nat := 5

/-- The sweep stalls (R111): the drawer goes to JAMMED without an owner, and the retract drains. -/
def Wall.stallSweep (n : LaneId) (w : Wall) : Wall :=
  ((w.enterJam n sweepDetail).modLane n fun l => { l with owner := none }).modBundle n fun b => { b with phase := .draining, stalled := some w.decision }

/-- The retract ends (step 4 of R110): the tenure ends and the order finishes. A grant evaluation follows. -/
def Wall.closeRetract (n : LaneId) (w : Wall) : Wall := w.endTenure.reportRetract n false

/-- The retract ends (step 4 of R110). -/
def Wall.endRetract (n : LaneId) (w : Wall) : Wall := (w.closeRetract n).transportGrant

/-! ### The encoder's rising edge (R67, R68, R70, R90, R110, R79) -/

/-- What an encoder rising edge does to the gate: the running length and peak while presence is asserted, or the gap counter, and the open picks (R67, R68, R70). -/
def Gate.pulse (sample : Nat) (g : Gate) : Gate :=
  { g with runLength := if g.presence then satAdd 4095 g.runLength 1 else g.runLength,
           runPeak := if g.presence then max g.runPeak sample else g.runPeak,
           gapCounter := if g.presence then g.gapCounter else g.gapCounter.map fun k => satAdd 4095 k 1,
           openPicks := g.openPicks.map fun p => { p with travel := p.travel + 1 } }

/-- What an encoder rising edge does to the transport: the travel of the exit watch, the quiet distance, the clearance's pulses. -/
def Transport.pulse (t : Transport) : Transport :=
  { t with watch := t.watch.map fun e => { e with travel := e.travel + 1 }, quiet := t.quiet + 1,
           clearPulses := t.clearPulses - 1, silentMs := 0 }

/-- Loss in force ends, and point 15 becomes NORMAL (R79). It ends at an encoder edge, so the motor's silence ends with it. -/
def Wall.endLoss (w : Wall) : Wall :=
  if w.gate.loss then
    ((w.modGate fun g => { g with loss := false }).modTransport fun t => { t with silentMs := 0 }).setInternal 15 false
  else w

/-- An encoder rising edge, with the sample of the thickness head: every count of pulses rises, and the sweep in progress is tested. While the belt stands the
edge ends a loss, and everything that counts pulses stands still (R81, R103, R112; log 21). -/
def Wall.pulse (sample : Nat) (w : Wall) : Wall :=
  if w.beltStands then w.endLoss
  else
    ((w.endLoss.modGate (Gate.pulse sample)).modTransport Transport.pulse).testSweep.modEngine fun e => { e with sinceRelease := e.sinceRelease + 1 }

/-- A watched piece has travelled 1200 pulses (R90). -/
def Transport.overdue (t : Transport) : Bool := t.watch.any fun e => decide (1200 ≤ e.travel)

/-- A jam is to be declared of an overdue piece; while the belt stands none is (R90, R103, R112). -/
def Wall.jamDue (w : Wall) : Bool := w.transport.overdue && !w.beltStands

end Sys2Proof.Machine
end

