-- ==== Sys2Proof/Machine/Conveyor.lean ====
section
/-! DEFINITION. Envelope Conveyor Control at its events (chapter 7): serving, deliveries, faults, clearances, and the expiry of a hold limit. -/

namespace Sys2Proof.Machine

/-- The lane a serving evaluation serves now (R130). -/
def Wall.readyServe (w : Wall) : Option LaneId :=
  if w.conveyor.state = .idle ∧ w.held = false ∧ (w.bins.get depositBin).count < (w.bins.get depositBin).capacity then w.conveyor.queue.head?
  else none

/-- A queued lane is served (R130, R31): the ejector pushes its envelope out of the pocket onto the belt. -/
def Wall.serve (n : LaneId) (w : Wall) : Wall :=
  let owner := (w.lanes.get n).pocket.owner
  let w1 := (w.leaveQueue n).modConveyor fun c => { c with state := .carrying, carried := some n, carryMs := 8000 }
  let w2 := w1.modLane n fun l => { l with envelopeSensor := false, pocket := { l.pocket with state := .capturing } }
  match owner with
  | some s => if (w2.slot (lanePage n) s).state = .accepted then w2.startWork (lanePage n) s else w2
  | none => w2

/-- The order that owns an envelope on the conveyor finishes: a CAPTURE with one outcome, a RETURN with the other (R130, R131, R133, R135). -/
def Wall.finishCarried (n : LaneId) (s : SlotId) (capture back : OrderEnd) (unknown : Bool) (w : Wall) : Wall :=
  match w.kindAt (lanePage n) s with
  | some .capture => w.finish (lanePage n) s capture (w.captureFields unknown)
  | some .returnEnvelope => w.finish (lanePage n) s back (w.returnFields .left)
  | _ => w

/-- A delivery (R130). What was left of the carry budget goes to 0 (log 63). -/
def Wall.deliverEnvelope (n : LaneId) (w : Wall) : Wall :=
  let p := (w.lanes.get n).pocket
  let w1 := w.creditEnvelope.pocketEmpty n
  let w2 := match p.owner with
    | some s => w1.finishCarried n s .captured .capturedAbandoned p.unknownOrigin
    | none => w1.post (.unattendedCapture n) (markBit 0 p.unknownOrigin)
  w2.modConveyor fun c => { c with state := .idle, carried := none, carryMs := 0 }

/-- At a conveyor fault an unattended lane leaves the queue, and its pocket returns to HELD stranded (R131). -/
def Wall.withdraw (n : LaneId) (w : Wall) : Wall :=
  if (w.lanes.get n).pocket.unattended then (w.leaveQueue n).strandPocket n 2 else w

/-- The conveyor faults (R131): detail 1 + n for an overrun carrying lane n, 0 for a stray envelope. The zone of point 13 acts as the point goes ACTIVE, before
CONVEYOR FAULT is posted (log 74). -/
def Wall.conveyorFault (detail : Nat) (w : Wall) : Wall :=
  let w1 := w.modConveyor fun c => { c with state := .faulted }
  let w2 := (w1.setInternal 13 true).post .conveyorFault detail
  w2.conveyor.queue.foldl (fun w n => w.withdraw n) w2

/-- The carry budget runs out: the carried envelope is lost (R131), and the budget reads 0 (log 63). -/
def Wall.overrunCarry (n : LaneId) (w : Wall) : Wall :=
  let p := (w.lanes.get n).pocket
  let w1 := w.conveyorFault (1 + n.val)
  let w2 := (w1.pocketEmpty n).modPocket n fun p => { p with lost := true }
  let w3 := match p.owner with
    | some s => w2.finishCarried n s .conveyorJammed .conveyorJammed p.unknownOrigin
    | none => w2
  w3.modConveyor fun c => { c with carried := none, carryMs := 0 }

/-- The exit sensor sees an envelope (R130, R131, R132). In UNKNOWN and FAULTED the manual gives it no effect. -/
def Wall.conveyorExit (w : Wall) : Wall :=
  match w.conveyor.state with
  | .carrying =>
    match w.conveyor.carried with
    | some n => w.deliverEnvelope n
    | none => w
  | .clearing => w.creditEnvelope.modConveyor fun c => { c with seen := satAdd 255 c.seen 1 }
  | .idle => w.conveyorFault 0
  | .unknown | .faulted => w

/-- A conveyor clearance starts (R132). -/
def Wall.startConveyorClearance (w : Wall) : Wall :=
  w.modConveyor fun c => { c with state := .clearing, seen := 0, clearMs := 10000, clearFromFault := c.state == .faulted }

/-- The result fields of a PATH RESET of the conveyor (R132): clearance seen. -/
def Wall.conveyorFields (w : Wall) : List Word := [word w.conveyor.seen]

/-- A conveyor clearance ends (R132, R136). -/
def Wall.endConveyorClearance (w : Wall) : Wall :=
  let w1 := w.setInternal 13 false
  let w2 := if 0 < w.conveyor.seen then w1.post (.clearancePieces depositBin) w.conveyor.seen else w1
  let w3 := w2.modConveyor fun c => { c with state := .idle, clearMs := 0, clearFromFault := false }
  let w4 := w3.modPort fun p => { p with conveyorReady := true }
  let w5 := match w4.pathReset 1 with
    | some s => w4.finish servicePage s .done w.conveyorFields
    | none => w4
  if w.conveyor.clearFromFault then w5.reloadStranded else w5

/-- The hold-limit timer of a lane's pocket runs (R123, R137). -/
def Wall.holdLimitRuns (w : Wall) (n : LaneId) : Bool :=
  (w.lanes.get n).pocket.state == .held && (w.lanes.get n).pocket.timerRunning && !w.held

/-- The hold-limit timer of a lane's pocket expires (R123): an unattended capture, or a stranded pocket. -/
def Wall.expireHoldLimit (n : LaneId) (w : Wall) : Wall :=
  if (w.bins.get depositBin).full then w.strandPocket n 1
  else if w.conveyor.state = .faulted then w.strandPocket n 2
  else ((w.pocketMove n .captureWait none).modPocket n fun p => { p with unattended := true }).joinQueue n

end Sys2Proof.Machine
end

