-- ==== Sys2Proof/Machine/Profile.lean ====
section
/-! DEFINITION. The Profile Store (chapter 10): the check, the clamp and the freeze of a commit, programming, the load, and what each block does with a new
active profile (R4, R64, R78, R120, R157). -/

namespace Sys2Proof.Machine

/-! ### The check and the freeze mark (R171) -/

/-- A profile passes its check (R171). -/
def passesCheck (p : Vector Word 64) : Bool := p.get 63 == profileCheck p

/-- The freeze mark (R171). -/
def ProfileStore.freezeMark (s : ProfileStore) : Bool := passesCheck s.stored && (profileWord s.stored 62 % 2 == 1)

/-! ### The clamp (step 1 of R174) -/

/-- What a field of a profile may hold: a range, a mode of a zone, or one value alone. -/
inductive FieldRule where
  | range (lo hi : Nat)
  | mode (z : ZoneId)
  | fixed (v : Nat)
  deriving DecidableEq, Repr

/-- A field of a profile: its word, its lowest bit, its width and what it may hold (11.6). -/
structure ProfileField where
  word  : Nat
  low   : Nat
  width : Nat
  rule  : FieldRule
  deriving DecidableEq, Repr

/-- The value a rule makes of a field's value: clamped into its range, or the default where it names nothing (R174). -/
def FieldRule.apply : FieldRule → Nat → Nat
  | .range lo hi, v => clampNat lo hi v
  | .mode z, v => (modeOf z v).code
  | .fixed k, _ => k

/-- The fields of a cassette position (R46, R71, 11.6). -/
def cassetteFields (c : Nat) : List ProfileField :=
  [⟨6 * c, 0, 16, .range 0 1000⟩, ⟨6 * c + 1, 0, 16, .range 0 1000⟩, ⟨6 * c + 2, 0, 16, .range 400 800⟩, ⟨6 * c + 3, 0, 8, .range 4 60⟩,
    ⟨6 * c + 3, 8, 4, .range 2 15⟩, ⟨6 * c + 3, 12, 4, .fixed 0⟩, ⟨6 * c + 4, 0, 16, .range 40 400⟩, ⟨6 * c + 5, 0, 16, .range 40 160⟩]

/-- The wall-wide fields, the bins' fields and the lane lockout mask (R46, R92, R94, R14, R17, R123, R116, R4). -/
def wideFields : List ProfileField :=
  [⟨24, 0, 16, .range 1 120⟩, ⟨25, 0, 16, .range 10 50⟩, ⟨26, 0, 16, .range 1 20⟩, ⟨27, 0, 16, .range 10 120⟩, ⟨28, 0, 16, .range 10 120⟩,
    ⟨29, 0, 16, .range 30 1800⟩, ⟨30, 0, 16, .range 50 500⟩, ⟨31, 0, 16, .range 5 100⟩, ⟨32, 0, 16, .range 50 500⟩,
    ⟨33, 0, 16, .range 5 100⟩, ⟨34, 0, 16, .range 50 800⟩, ⟨35, 0, 16, .range 5 100⟩, ⟨36, 0, 4, .range 0 15⟩, ⟨36, 4, 12, .fixed 0⟩]

/-- The fields of a zone (R145, 11.6). Zone 2 holds mode 24-HOUR, the silent line alone and lockdown flag 0. -/
def zoneFields (z : ZoneId) : List ProfileField :=
  let a := 37 + 2 * z.val
  [⟨a, 0, 2, if z = 2 then .fixed 1 else .mode z⟩, ⟨a, 2, 3, if z = 2 then .fixed 4 else .range 0 7⟩,
    ⟨a, 5, 1, if z = 2 then .fixed 0 else .range 0 1⟩, ⟨a, 6, 2, .fixed 0⟩, ⟨a, 8, 8, .range 0 255⟩, ⟨a + 1, 0, 16, .range 0 900⟩]

/-- The fields of an external point (R139, 11.6). -/
def pointFields (p : Nat) : List ProfileField :=
  [⟨45 + p, 0, 4, .range 0 15⟩, ⟨45 + p, 4, 4, .fixed 0⟩, ⟨45 + p, 8, 8, .range 1 255⟩]

/-- Every field of a profile but the check word. -/
def profileFields : List ProfileField :=
  (List.range 4).flatMap cassetteFields ++ wideFields ++ zoneIds.flatMap zoneFields ++ (List.range 12).flatMap pointFields
    ++ [⟨57, 0, 16, .fixed 0⟩, ⟨58, 0, 16, .fixed 0⟩, ⟨59, 0, 16, .fixed 0⟩, ⟨60, 0, 16, .fixed 0⟩, ⟨61, 0, 16, .fixed 0⟩,
      ⟨62, 1, 15, .fixed 0⟩]

/-- A profile with word `i` replaced. -/
def setProfileWord (p : Vector Word 64) (i x : Nat) : Vector Word 64 := tabSet p (Fin.ofNat 64 i) (word x)

/-- The value of a field. -/
def ProfileField.get (f : ProfileField) (p : Vector Word 64) : Nat := bits (profileWord p f.word) f.low f.width

/-- A profile with a field replaced. -/
def ProfileField.set (f : ProfileField) (v : Nat) (p : Vector Word 64) : Vector Word 64 :=
  setProfileWord p f.word (setBits (profileWord p f.word) f.low f.width v)

/-- Clamp one field and count it if it changed. -/
def clampField (r : Vector Word 64 × Nat) (f : ProfileField) : Vector Word 64 × Nat :=
  let v := f.get r.1
  if f.rule.apply v = v then r else (f.set (f.rule.apply v) r.1, r.2 + 1)

/-- The clamped image and the clamped count (step 1 of R174). -/
def clampProfile (image : Vector Word 64) : Vector Word 64 × Nat := profileFields.foldl clampField (image, 0)

/-! ### The freeze (step 2 of R174) -/

/-- The sixteen frozen fields: denomination, Ln, Lt and Tn of each position. -/
def frozenFields : List ProfileField :=
  (List.range 4).flatMap fun c =>
    [⟨6 * c, 0, 16, .range 0 1000⟩, ⟨6 * c + 2, 0, 16, .range 400 800⟩, ⟨6 * c + 3, 0, 8, .range 4 60⟩, ⟨6 * c + 4, 0, 16, .range 40 400⟩]

/-- One frozen field keeps its stored value, and is counted if the image's differed. -/
def freezeField (stored : Vector Word 64) (r : Vector Word 64 × Nat) (f : ProfileField) : Vector Word 64 × Nat :=
  if f.get r.1 = f.get stored then r else (f.set (f.get stored) r.1, r.2 + 1)

/-- The frozen profile and the frozen count: unchanged where the freeze mark is clear. -/
def freezeProfile (mark : Bool) (stored words : Vector Word 64) : Vector Word 64 × Nat :=
  if mark then frozenFields.foldl (freezeField stored) (words, 0) else (words, 0)

/-- The commit of an image: the words to be programmed, with their freeze flag and check word, the clamped count and the frozen count (R174). -/
def ProfileStore.commit (s : ProfileStore) : Programming :=
  let (clamped, k) := clampProfile s.image
  let (frozen, f) := freezeProfile s.freezeMark s.stored clamped
  let flagged := setProfileWord frozen 62 (if s.freezeMark || profileWord s.image 62 % 2 == 1 then 1 else 0)
  { words := tabSet flagged 63 (profileCheck flagged), clamped := k, frozen := f, leftMs := 200 }

/-- Programming is cut short by a supply failure or a wall reset: the stored profile is left partly written and fails its check (R174, log 6). -/
def ProfileStore.cut (s : ProfileStore) : ProfileStore :=
  match s.programming with
  | none => s
  | some _ =>
    let body : Vector Word 64 := Vector.ofFn fun i => Config.partlyProgrammed s.cutShort i.val
    let wrong := profileCheck body + word (1 + Config.partlyProgrammedCheck s.cutShort % 65535)
    { s with stored := tabSet body 63 wrong, programming := none, cutShort := s.cutShort + 1 }

/-! ### The load (R172) and what each block does with it -/

/-- The lane lockout mask is applied to a lane (R4). An OPEN lane becomes CLOSING and settles. -/
def Wall.applyLockout (n : LaneId) (w : Wall) : Wall :=
  w.modLane n fun l =>
    { l with state :=
        if w.lockedOut n then
          match l.state with
          | .closed => .lockedOut
          | .opened => .closing
          | st => st
        else if l.state = .lockedOut then .closed else l.state }

/-- A cassette record meets a profile load (R64, R78). -/
def Wall.applyCassette (c : CassId) (w : Wall) : Wall :=
  (w.remainingTest c).modCassette c fun x => { x with tr := clampTr (w.noteThickness c) x.tr }

/-- A bin record meets a profile load (R120, R136). -/
def Wall.applyBin (k : BinId) (w : Wall) : Wall :=
  let before := (w.bins.get k).full
  let w1 := (w.modBin k fun b => { b with capacity := w.binCapacity k, margin := w.binMargin k }).refreshBin k
  if k = depositBin ∧ before = true ∧ (w1.bins.get k).full = false then w1.reloadStranded else w1

/-- An external point takes its settings from the active profile (step 1 of R157). -/
def Wall.pointSettings (w : Wall) (p : PointId) (x : Point) : Point :=
  if p.val < 12 then
    let v := w.pointWord p.val
    { x with polarity := bits v 0 1 == 1, entryDelay := bits v 1 1 == 1, zone := Fin.ofNat 4 (bits v 2 2), debounce := bits v 8 8,
             stableMs := if x.polarity = (bits v 0 1 == 1) then x.stableMs else 0 }
  else x

/-- The mode a zone is given by the active profile (R145). -/
def Wall.settingMode (w : Wall) (z : ZoneId) : ZoneMode := if z = 2 then .always else modeOf z (bits (w.zoneWord z) 0 2)

/-- A zone takes its settings from the active profile (step 2 of R157, R145). -/
def Wall.zoneSettings (w : Wall) (z : ZoneId) (x : Zone) : Zone :=
  let v := w.zoneWord z
  { x with mode := w.settingMode z, entryDelay := bits v 8 8, sirenTime := w.setting (38 + 2 * z.val),
           siren := decide (z ≠ 2) && bits v 2 1 == 1, strobe := decide (z ≠ 2) && bits v 3 1 == 1,
           silent := decide (z = 2) || bits v 4 1 == 1, lockdownFlag := decide (z ≠ 2) && bits v 5 1 == 1 }

/-- The state a zone starts in (R157, R158). -/
def ZoneMode.start : ZoneMode → ZoneState
  | .always => .armed
  | _ => .disarmed

/-- A zone whose mode has changed goes to its starting state (step 3 of R157). -/
def Wall.restartZone (z : ZoneId) (w : Wall) : Wall :=
  let x := w.zones.get z
  if x.state = .alarm then w.zoneExit z x.mode.start 3
  else w.modZone z fun x => { x with state := x.mode.start, entryMs := 0, sirenMs := none, trigger := none }

/-- A 24-HOUR zone that enters ARMED with a member point live ACTIVE enters ALARM (R148). -/
def Wall.startWatch (z : ZoneId) (w : Wall) : Wall :=
  let x := w.zones.get z
  if x.mode = .always ∧ x.state = .armed then
    match w.activeMember z with
    | some p => w.zoneAlarm z p
    | none => w
  else w

/-- The Alarm Unit meets a profile load (R157). -/
def Wall.applyAlarm (w : Wall) : Wall :=
  let w1 := { w with points := tabMap w.points w.pointSettings, zones := tabMap w.zones w.zoneSettings }
  let changed := zoneIds.filter fun z => !((w.zones.get z).mode == (w1.zones.get z).mode)
  let w2 := changed.foldl (fun w z => (w.restartZone z).startWatch z) w1
  let w3 := w2.refreshOutputs
  match zoneIds.find? fun z => (w3.zones.get z).lockdownAlarm with
  | some z => w3.enterLockdown z
  | none => w3

/-- A load: the stored profile, or the defaults where it fails its check, becomes active (R172). -/
def Wall.load (cause : Nat) (w : Wall) : Wall :=
  if passesCheck w.profile.stored then w.modProfile fun p => { p with active := p.stored }
  else (w.modProfile fun p => { p with active := defaultProfile }).post .profileDefaulted cause

/-- The three bins. -/
def binIds : List BinId := [0, 1, 2]

/-- Each block applies the new active profile to its own state (R172). The blocks post in the order the model takes them: the cassettes, the bins, the Alarm Unit
(R164 lets either of two blocks be first; log 64). -/
def Wall.applyProfile (w : Wall) : Wall :=
  let w1 := w.eachLane Wall.applyLockout
  let w2 := cassIds.foldl (fun w c => w.applyCassette c) w1
  let w3 := binIds.foldl (fun w k => w.applyBin k) w2
  w3.applyAlarm

/-- The check result of a load of the stored profile (R172): 1 is defaulted. -/
def Wall.loadFlags (w : Wall) : Word := word (markBit 0 (!passesCheck w.profile.stored))

/-- Programming has ended (R174): the stored profile is written, the load follows, and the commit finishes. -/
def Wall.endProgramming (g : Programming) (w : Wall) : Wall :=
  let w1 := w.modProfile fun p => { p with stored := g.words, programming := none }
  let w2 := if 0 < g.clamped then w1.post .profileClamped g.clamped else w1
  let w3 := (w2.load 4).applyProfile
  match w3.serviceOrder .profileCommit with
  | some s => w3.finish servicePage s .done [word g.clamped, word g.frozen, w3.loadFlags]
  | none => w3

end Sys2Proof.Machine
end

