-- ==== Sys2Proof/Machine/Hold.lean ====
section
/-! DEFINITION. The coming and the end of hold (R175) as every block meets it: the slots (R33), the gate (R81), the drawers (R19), the transport (R103). -/

namespace Sys2Proof.Machine

/-- Every slot of every page is changed. -/
def Wall.eachSlot (f : Slot → Slot) (w : Wall) : Wall :=
  { w with pages := tabMap w.pages fun _ g => { g with slots := tabMap g.slots fun _ x => f x } }

/-- A RUNNING slot becomes HELD (R33). -/
def Slot.suspend (x : Slot) : Slot := { x with state := if x.state = .running then .held else x.state }

/-- A HELD slot becomes RUNNING (R33). -/
def Slot.resume (x : Slot) : Slot := { x with state := if x.state = .held then .running else x.state }

/-- A drawer's motor drives it: in a travel, not stopped by hold, by an obstruction without an owner, or before the first RUN (R6, R8, R19, R21). -/
def Wall.drawerDriven (w : Wall) (n : LaneId) : Bool :=
  let l := w.lanes.get n
  !w.held && (l.drawer == .opening || (l.drawer == .closing && !l.obstructed && !w.port.startUpMark))

/-- A drawer resumes at the end of hold (R19): its motor takes it off the sensor it stands at, and an obstruction sensor found active as a close
resumes counts as an obstruction. A close that began on the stowed sensor waits for the report of that sensor (log 46). -/
def Wall.resumeDrawer (n : LaneId) (w : Wall) : Wall :=
  if w.drawerDriven n then
    match (w.lanes.get n).drawer with
    | .opening => w.modLane n fun l => { l with stowedSensor := false, leaving := l.leaving || l.stowedSensor }
    | .closing =>
      let w1 := w.modLane n fun l => { l with extendedSensor := false }
      if (w.lanes.get n).obstructionSensor then w1.obstruct n else w1
    | _ => w
  else w

/-- Hold comes into force (R175): cause 1 is the line, 2 the order. The causes are already set. -/
def Wall.holdBegins (cause : Nat) (w : Wall) : Wall :=
  let w1 := (w.modPort fun p => { p with holdStart := p.seconds }).post .holdOn cause
  let w2 := (w1.eachSlot Slot.suspend).modGate fun g => { g with cut := g.cut || g.inPassage }
  w2.modTransport fun t => { t with silentMs := 0 }

/-- What the end of hold lets go on (R175, R33, R19): HOLD OFF is posted, the slots run again and the drawers resume. The causes are already clear. -/
def Wall.holdReleased (w : Wall) : Wall :=
  ((w.post .holdOff (w.secondsSince w.port.holdStart)).eachSlot Slot.resume).eachLane Wall.resumeDrawer

/-- Hold ends (R175, R103): everything goes on, and a grant evaluation is made. -/
def Wall.holdEnds (w : Wall) : Wall := w.holdReleased.transportGrant

/-- The two causes of hold take new values; hold begins or ends where that follows (R175). -/
def Wall.setHold (line order : Bool) (w : Wall) : Wall :=
  let w1 := w.modPort fun p => { p with lineCause := line, orderCause := order }
  if !w.held && (line || order) then w1.holdBegins (if line then 1 else 2)
  else if w.held && !(line || order) then w1.holdEnds
  else w1

end Sys2Proof.Machine
end

