-- ==== Sys2Proof/Machine/Orders.lean ====
section
/-! DEFINITION. The Order Monitor (chapter 2): the checks of each kind (R34 to R39), what an accepted order of each kind does at its taking, and the taking
of slots (R28). -/

namespace Sys2Proof.Machine

/-! ### The general checks (R34) -/

/-- The position, lane, zone or bin a parameter names. -/
def Slot.target4 (x : Slot) : Fin 4 := Fin.ofNat 4 (x.param 0)

/-- The bin a parameter names. -/
def Slot.targetBin (x : Slot) : BinId := Fin.ofNat 3 (x.param 0)

/-- The parameters of a kind are well formed (R34). -/
def Wall.wellFormed (w : Wall) (k : Kind) (x : Slot) : Bool :=
  match k with
  | .dispense =>
    if x.param 0 = 0 then decide (1 ≤ x.param 1 ∧ x.param 1 ≤ 60000)
    else if x.param 0 = 1 then
      (cassIds.all fun c => decide (x.mixCounts.get c ≤ 3000)) && decide (0 < Counts.total x.mixCounts)
    else false
  | .countSet => decide (x.param 0 < 4 ∧ x.param 1 ≤ 3000)
  | .cassetteClear => decide (x.param 0 < 4)
  | .binReset => decide (x.param 0 < 3)
  | .pathReset => decide (x.param 0 < 6)
  | .zoneArm | .zoneDisarm => decide (x.param 0 < 4) && (w.zones.get x.target4).mode == .armable
  | .zoneReset => decide (x.param 0 < 4) && (w.zones.get x.target4).mode == .always
  | _ => true

/-! ### The checks of the kinds (R35 to R39) -/

/-- The first refusal whose condition holds, in the order of a table of checks. -/
def firstRefusal : List (Bool × OrderEnd) → Option OrderEnd
  | [] => none
  | (bad, e) :: rest => if bad then some e else firstRefusal rest

/-- The mix of a DISPENSE at its taking (R56, R57). -/
def Wall.orderMix (w : Wall) (x : Slot) : Option Counts :=
  if x.param 0 = 0 then w.chooseMix (x.param 1) w.noteLimit else some x.mixCounts

/-- The drawer is HOLDING with no owner. -/
def Lane.leftHolding (l : Lane) : Bool := l.drawer == .holding && l.owner.isNone

/-- The checks of a DISPENSE (R35). -/
def Wall.checkDispense (w : Wall) (n : LaneId) (x : Slot) : Option OrderEnd :=
  let l := w.lanes.get n
  let mix := decide (x.param 0 = 1)
  firstRefusal
    [(w.lockdown, .lockdown), (l.state == .lockedOut, .laneLockedOut), (!(l.state == .opened), .laneClosed),
      (w.transport.state == .faulted, .pathFault), ((w.bins.get rejectBin).full, .binFull), (l.drawer == .jammed, .drawerJammed),
      (l.leftHolding, .drawerOccupied), (!mix && (w.orderMix x).isNone, .noMix),
      (mix && cassIds.any fun c => decide (0 < x.mixCounts.get c) && !w.usable c, .noMix),
      (mix && (cassIds.any (fun c => decide ((w.cassettes.get c).availability < x.mixCounts.get c))
        || decide (w.noteLimit < Counts.total x.mixCounts)), .overLimit)]

/-- The deposit bin's count has reached its capacity (R36, R130). -/
def Wall.depositFull (w : Wall) : Bool := decide ((w.bins.get depositBin).capacity ≤ (w.bins.get depositBin).count)

/-- The checks of the kinds of a lane page (R35, R36, R37). -/
def Wall.checkLane (w : Wall) (n : LaneId) (k : Kind) (x : Slot) : Option OrderEnd :=
  let l := w.lanes.get n
  match k with
  | .dispense => w.checkDispense n x
  | .retract => firstRefusal [(l.drawer == .jammed, .drawerJammed), (!l.leftHolding, .nothingHeld)]
  | .deposit =>
    firstRefusal
      [(w.lockdown, .lockdown), (l.state == .lockedOut, .laneLockedOut), (!(l.state == .opened), .laneClosed),
        (!(l.pocket.state == .empty), .escrowFull), (w.depositFull, .binFull), (l.drawer == .jammed, .drawerJammed)]
  | .capture =>
    firstRefusal [(!(l.pocket.state == .held), .nothingHeld), (w.depositFull, .binFull), (w.conveyor.state == .faulted, .pathFault)]
  | .returnEnvelope => firstRefusal [(!(l.pocket.state == .held), .nothingHeld), (l.drawer == .jammed, .drawerJammed)]
  | .laneOpen => firstRefusal [(w.lockdown, .lockdown), (l.state == .lockedOut, .laneLockedOut)]
  | _ => none

/-- The mechanism a PATH RESET names is in use (R38, R100, R132, R20). -/
def Wall.mechanismBusy (w : Wall) (m : Nat) : Bool :=
  if m = 0 then !(w.transport.join == .none) || !w.transport.queue.isEmpty
  else if m = 1 then w.conveyor.carried.isSome || !w.conveyor.queue.isEmpty
  else
    let l := w.lanes.get (Fin.ofNat 4 (m - 2))
    l.owner.isSome || !l.waiting.isEmpty

/-- The checks of the service kinds (R38, R39). -/
def Wall.checkService (w : Wall) (k : Kind) (x : Slot) : Option OrderEnd :=
  match k with
  | .countSet =>
    let c := w.cassettes.get x.target4
    firstRefusal [(c.state == .absent, .notPresent), (!(c.state == .uncounted), .notServiced)]
  | .binReset => firstRefusal [(!(w.bins.get x.targetBin).door, .notServiced)]
  | .pathReset => firstRefusal [(w.mechanismBusy (x.param 0), .notQuiet)]
  | .zoneArm => firstRefusal [((w.activeMember x.target4).isSome, .pointsActive)]
  | .zoneReset =>
    firstRefusal
      [((w.activeMember x.target4).isSome, .pointsActive),
        ((w.members x.target4).any (fun p => (w.points.get p).alert), .unacknowledged)]
  | .lockdownClear => firstRefusal [(zoneIds.any fun z => (w.zones.get z).lockdownAlarm, .zoneInAlarm)]
  | .profileCommit | .profileLoad => firstRefusal [(!w.quiet, .notQuiet)]
  | _ => none

/-! ### What an accepted order does at its taking -/

/-- A DISPENSE is accepted (R55, R91): its mix is reserved, its context and tally begin, and it requests the drawer. -/
def Wall.acceptDispense (n : LaneId) (s : SlotId) (w : Wall) : Wall :=
  let mix := (w.orderMix (w.slot (lanePage n) s)).getD Counts.zero
  let w1 := (w.reserve mix).modEngine fun e => { e with acceptances := e.acceptances + 1 }
  let context : DispenseContext :=
    { phase := .drawerWait, acceptance := w1.engine.acceptances, outstanding := mix, routed := Counts.zero, rejects := 0, bundles := 0,
      target := 0, inDrawer := 0, final := false, takenLate := false, endCause := .none, remixes := 0 }
  let tally : Tally :=
    { chosen := mix, accepted := 0, purged := 0, presented := Counts.zero, rejected := 0, taken := 0, retracted := 0, foreign := 0,
      unresolved := 0, duress := false, remixWait := false, faulted := false, bundleLeft := false }
  let w2 := w1.modSlot (lanePage n) s fun x => { x with state := .accepted, context := some context }
  (w2.modEngine fun e => { e with tallies := tabSet e.tallies n (some tally) }).requestDrawer n s

/-- An order is accepted (R30). -/
def Wall.acceptSlot (p : PageId) (s : SlotId) (w : Wall) : Wall := w.modSlot p s fun x => { x with state := .accepted }

/-- A CAPTURE is accepted: it claims the pocket and its lane is queued (R133). -/
def Wall.acceptCapture (n : LaneId) (s : SlotId) (w : Wall) : Wall :=
  ((w.acceptSlot (lanePage n) s).pocketMove n .captureWait (some s)).joinQueue n

/-- A RETURN is accepted: it claims the pocket and requests the drawer (R134). -/
def Wall.acceptReturn (n : LaneId) (s : SlotId) (w : Wall) : Wall :=
  ((w.acceptSlot (lanePage n) s).pocketMove n .returning (some s)).requestDrawer n s

/-- An accepted LANE OPEN (R2). -/
def Wall.acceptLaneOpen (n : LaneId) (s : SlotId) (w : Wall) : Wall :=
  let w1 := w.modLane n fun l =>
    { l with state := .opened, duress := if l.state = .opened then l.duress else false }
  w1.finish (lanePage n) s .done []

/-- An accepted LANE CLOSE (R3). -/
def Wall.acceptLaneClose (n : LaneId) (s : SlotId) (w : Wall) : Wall :=
  match (w.lanes.get n).state with
  | .opened => (w.modLane n fun l => { l with state := .closing }).startWork (lanePage n) s
  | .closing => w.startWork (lanePage n) s
  | .closed | .lockedOut => w.finish (lanePage n) s .done []

/-- What an accepted order of a lane page does. -/
def Wall.acceptLane (n : LaneId) (s : SlotId) (k : Kind) (w : Wall) : Wall :=
  match k with
  | .dispense => w.acceptDispense n s
  | .retract | .deposit => (w.acceptSlot (lanePage n) s).requestDrawer n s
  | .capture => w.acceptCapture n s
  | .returnEnvelope => w.acceptReturn n s
  | .laneOpen => w.acceptLaneOpen n s
  | .laneClose => w.acceptLaneClose n s
  | _ => w

/-- The result fields of COUNT SET and CASSETTE CLEAR (R62, R63): the state and the remaining count after the order. -/
def Wall.cassetteResult (w : Wall) (c : CassId) : List Word :=
  [word (w.cassettes.get c).state.code, word (w.cassettes.get c).remaining]

/-- An accepted COUNT SET (R62). -/
def Wall.acceptCountSet (s : SlotId) (c : CassId) (loaded : Nat) (w : Wall) : Wall :=
  let w1 := (w.modCassette c (Cassette.restart (w.noteThickness c) loaded)).enterCassetteState c (testedState loaded (w.lowThreshold c)) 1
  w1.finish servicePage s .done (w1.cassetteResult c)

/-- An accepted CASSETTE CLEAR (R63). -/
def Wall.acceptCassetteClear (s : SlotId) (c : CassId) (w : Wall) : Wall :=
  let x := w.cassettes.get c
  let w1 :=
    if x.state = .suspect then
      (w.modCassette c fun x => { x with rejects := 0 }).enterCassetteState c (testedState x.remaining (w.lowThreshold c)) 1
    else w
  w1.finish servicePage s .done (w1.cassetteResult c)

/-- A BIN RESET empties its bin's record and ends (steps 1 to 4 of R119). -/
def Wall.emptyBin (s : SlotId) (k : BinId) (w : Wall) : Wall :=
  let b := w.bins.get k
  let w1 := w.modBin k fun b => { b with count := 0, nearFull := false, full := false, door := false, restarted := false }
  w1.finish servicePage s .done [word b.count, word (markBit 0 b.restarted)]

/-- An accepted BIN RESET (R119, R136): with the room it makes, the stranded pockets' timers are loaded or a grant evaluation is made. -/
def Wall.acceptBinReset (s : SlotId) (k : BinId) (w : Wall) : Wall :=
  if k = depositBin then (if (w.bins.get k).full then (w.emptyBin s k).reloadStranded else w.emptyBin s k)
  else (w.emptyBin s k).transportGrant

/-- An accepted PATH RESET for the drawer of a lane (R20). A start-up close that stands stopped for an obstruction gives way to the new close: the stop is cleared
and a fresh 4 s run at once, with nothing counted for an obstruction sensor that is still active (log 58). -/
def Wall.resetDrawer (s : SlotId) (n : LaneId) (w : Wall) : Wall :=
  let l := w.lanes.get n
  if l.stowedSensor then
    (w.modLane n fun l => { l with drawer := l.restState, bounce := 0, travel := .none, budgetMs := 0 }).finish servicePage s .done []
  else w.startClose n l.closeCause

/-- An accepted PATH RESET (R100, R132, R20). -/
def Wall.acceptPathReset (s : SlotId) (m : Nat) (w : Wall) : Wall :=
  let w1 := w.startWork servicePage s
  if m = 0 then w1.startClearance
  else if m = 1 then w1.startConveyorClearance
  else w1.resetDrawer s (Fin.ofNat 4 (m - 2))

/-- The result fields of a zone order (8.3): the zone's state before the order and after it. -/
def Wall.zoneResult (w : Wall) (before : ZoneState) (z : ZoneId) : List Word :=
  [word before.code, word (w.zones.get z).state.code]

/-- An accepted ZONE ARM (R151). -/
def Wall.acceptZoneArm (s : SlotId) (z : ZoneId) (w : Wall) : Wall :=
  let before := (w.zones.get z).state
  let w1 := if before = .disarmed then (w.modZone z fun x => { x with state := .armed }).refreshOutputs else w
  w1.finish servicePage s .done (w1.zoneResult before z)

/-- An accepted ZONE DISARM (R151, R147, R149). -/
def Wall.acceptZoneDisarm (s : SlotId) (z : ZoneId) (w : Wall) : Wall :=
  let before := (w.zones.get z).state
  let w1 := match before with
    | .alarm => w.zoneExit z .disarmed 1
    | .entryDelay | .armed => (w.modZone z fun x => { x with state := .disarmed, entryMs := 0, trigger := none }).refreshOutputs
    | .disarmed => w
  w1.finish servicePage s .done (w1.zoneResult before z)

/-- An accepted ZONE RESET (R152, R149). -/
def Wall.acceptZoneReset (s : SlotId) (z : ZoneId) (w : Wall) : Wall :=
  let before := (w.zones.get z).state
  let w1 := if before = .alarm then w.zoneExit z .armed 2 else w
  w1.finish servicePage s .done (w1.zoneResult before z)

/-- A number that may be none, in one word (R180). -/
def noneWord {n : Nat} (x : Option (Fin n)) : Word :=
  match x with
  | some i => word i.val
  | none => 0xFFFF#16

/-- The result fields of a LOCKDOWN CLEAR (R155): the lockdown start and the lockdown zone. -/
def Wall.lockdownFields (w : Wall) : List Word :=
  [highWord w.alarm.lockdownStart, lowWord w.alarm.lockdownStart, noneWord w.alarm.lockdownZone]

/-- An accepted LOCKDOWN CLEAR (R155). -/
def Wall.acceptLockdownClear (s : SlotId) (w : Wall) : Wall :=
  let w1 :=
    if w.lockdown then
      (w.modAlarm fun a => { a with lockdown := false }).post .lockdownOff (w.secondsSince w.alarm.lockdownStart)
    else w
  w1.finish servicePage s .done w1.lockdownFields

/-- An accepted HOLD WALL or RELEASE WALL gives the order cause a value (R176). -/
def Wall.acceptHold (s : SlotId) (order : Bool) (w : Wall) : Wall :=
  let w1 := w.setHold w.port.lineCause order
  w1.finish servicePage s .done [word (markBit 0 w1.held)]

/-- An accepted PROFILE COMMIT (R174). -/
def Wall.acceptProfileCommit (s : SlotId) (w : Wall) : Wall :=
  (w.startWork servicePage s).modProfile fun p => { p with programming := some p.commit }

/-- An accepted PROFILE LOAD (R172). -/
def Wall.acceptProfileLoad (s : SlotId) (w : Wall) : Wall :=
  let w1 := (w.load 3).applyProfile
  w1.finish servicePage s .done [w1.loadFlags]

/-- An accepted CLOCK SET (R179). -/
def Wall.acceptClockSet (s : SlotId) (x : Slot) (w : Wall) : Wall :=
  let w1 := w.modPort fun p => { p with seconds := dword (word (x.param 0)) (word (x.param 1)), secondMs := 0 }
  w1.finish servicePage s .done [highWord w.port.seconds, lowWord w.port.seconds]

/-- What an accepted order of the service page does. -/
def Wall.acceptService (s : SlotId) (k : Kind) (x : Slot) (w : Wall) : Wall :=
  match k with
  | .countSet => w.acceptCountSet s x.target4 (x.param 1)
  | .cassetteClear => w.acceptCassetteClear s x.target4
  | .binReset => w.acceptBinReset s x.targetBin
  | .pathReset => w.acceptPathReset s (x.param 0)
  | .zoneArm => w.acceptZoneArm s x.target4
  | .zoneDisarm => w.acceptZoneDisarm s x.target4
  | .zoneReset => w.acceptZoneReset s x.target4
  | .lockdownClear => w.acceptLockdownClear s
  | .holdWall => w.acceptHold s true
  | .releaseWall => w.acceptHold s false
  | .profileCommit => w.acceptProfileCommit s
  | .profileLoad => w.acceptProfileLoad s
  | .clockSet => w.acceptClockSet s x
  | _ => w

/-! ### Taking (R28, R29, R30) -/

/-- The refusal of a POSTED slot at its taking, or none where every check passes (R30, R34 to R38). -/
def Wall.refusal (w : Wall) (p : PageId) (s : SlotId) : Option OrderEnd :=
  let x := w.slot p s
  match w.kindAt p s with
  | none => some .unknownKind
  | some k =>
    if w.wellFormed k x = false then some .badParameter
    else
      match laneOf p with
      | some n => w.checkLane n k x
      | none => w.checkService k x

/-- A slot is taken: checked, and refused or accepted (R30). -/
def Wall.take (p : PageId) (s : SlotId) (w : Wall) : Wall :=
  match w.refusal p s with
  | some e => w.refuse p s e
  | none =>
    match w.kindAt p s with
    | none => w
    | some k =>
      match laneOf p with
      | some n => w.acceptLane n s k
      | none => w.acceptService s k (w.slot p s)

/-- The slot belongs to a track of its page. -/
def Wall.onTrack (w : Wall) (p : PageId) (t : Track) (s : SlotId) : Bool := (w.kindAt p s).map Kind.track == some t

/-- The oldest POSTED slot of a track (R28). -/
def Wall.oldestPosted (w : Wall) (p : PageId) (t : Track) : Option SlotId :=
  (w.pages.get p).posting.find? fun s => (w.slot p s).state == .posted && w.onTrack p t s

/-- The order that occupies a track (R27). -/
def Wall.occupant (w : Wall) (p : PageId) (t : Track) : Option SlotId :=
  findSlot fun s => (w.slot p s).state.inProgress && w.onTrack p t s

/-- The track of a POSTED slot lets it be taken: free, or for a RELEASE WALL occupied by a HELD order (R28). -/
def Wall.trackOpen (w : Wall) (p : PageId) (k : Kind) : Bool :=
  match w.occupant p k.track with
  | none => true
  | some o => k == .releaseWall && (w.slot p o).state == .held

/-- A slot of a page would be taken by a taking evaluation (R28, R29, R39). -/
def Wall.takeable (w : Wall) (p : PageId) (s : SlotId) : Bool :=
  (w.slot p s).state == .posted && w.takingEnabled && ((laneOf p).isNone || !w.commitRuns) &&
  match w.kindAt p s with
  | none => true
  | some k => w.oldestPosted p k.track == some s && w.trackOpen p k

/-- The next slot a taking evaluation takes, pages from 0 up and each page in posting order (log 11). -/
def Wall.nextTake (w : Wall) : Option (PageId × SlotId) :=
  pageIds.findSome? fun p => ((w.pages.get p).posting.find? (w.takeable p)).map fun s => (p, s)

/-! ### The evaluations (R11, R28, R3) -/

/-- The next lane whose drawer a grant evaluation gives away, and to which slot (R11). -/
def Wall.nextDrawer (w : Wall) : Option (LaneId × SlotId) := laneIds.findSome? fun n => (w.nextGrant n).map fun s => (n, s)

/-- One evaluation: the settling of a lane, a grant of a drawer, or the taking of a slot, in this order (log 18). None where nothing is to be done. -/
def Wall.evaluateOnce (w : Wall) : Option Wall :=
  match laneIds.find? w.settles with
  | some n => some (w.settleLane n)
  | none =>
    match w.nextDrawer with
    | some (n, s) => some (w.grantDrawer n s)
    | none => w.nextTake.map fun x => w.take x.1 x.2

/-- Evaluations until nothing is to be done, at most `fuel` of them. -/
def Wall.evaluateFor : Nat → Wall → Wall
  | 0, w => w
  | fuel + 1, w =>
    match w.evaluateOnce with
    | some w1 => Wall.evaluateFor fuel w1
    | none => w

/-- The evaluations that follow a change (R11, R28, R32, R3). Twenty slots, eight waiting places and four lanes leave at most 80 to be made. -/
def Wall.evaluate (w : Wall) : Wall := w.evaluateFor 80

/-! ### Placing an order (R23, R24) -/

/-- A body of words: kind, tag and parameters, those not given being 0. -/
def orderBody (k : Kind) (tag : Word) (params : List Word) : Vector Word 14 :=
  Vector.ofFn fun i => (word k.code :: tag :: params).getD i.val 0#16

/-- A posting event (R23, R26). -/
def Wall.postSlot (p : PageId) (s : SlotId) (w : Wall) : Wall :=
  (w.modSlot p s fun x => { x with state := .posted }).modPage p fun g => { g with posting := g.posting ++ [s] }

/-- The host places an order (log 2): it writes the body and posts the slot. On a slot that is not EMPTY the fifteen writes are slips. -/
def Wall.place (p : PageId) (s : SlotId) (k : Kind) (tag : Word) (params : List Word) (w : Wall) : Wall :=
  if (w.slot p s).state = .empty then
    ((w.modSlot p s fun x => { x with body := orderBody k tag params }).postSlot p s).evaluate
  else ((List.range 14).foldl (fun w i => w.slip (slotAddress p s (i + 1))) w).slip (slotAddress p s 0)

end Sys2Proof.Machine
end

