-- ==== Sys2Proof/Machine/Cancel.lean ====
section
/-! DEFINITION. The cancel event (2.5): what the Order Monitor and each kind's own rule make of it (R41, R42, R101, R115, R126, R133, R135). -/

namespace Sys2Proof.Machine

/-- The cancel rule of DISPENSE (R101). -/
def Wall.cancelDispense (n : LaneId) (s : SlotId) (w : Wall) : Wall :=
  let p := lanePage n
  match w.contextOf n with
  | none => w.answerCancel p s
  | some c =>
    if c.endCause = .cancel then w.answerCancel p s
    else if w.endBegun n then w.refuseCancel p s
    else
      let w1 := w.answerCancel p s
      match c.phase with
      | .drawerWait => (w1.beginEnd n .cancel).finishDispense n false
      | .bundleWait => ((w1.beginEnd n .cancel).dropRequest n .bundle).finishDispense n false
      | .building | .delivering | .retracting => w1.beginEnd n .cancel
      | .inDrawer => (w1.beginEnd n .cancel).closeByOwner n .order
      | .purging => w.refuseCancel p s

/-- The cancel rule of RETRACT (R115): it waits for the drawer, its entry is in the request queue, or its retract is granted. Cancelled before the grant it
reports the destination NONE and counts of 0 (log 68). -/
def Wall.cancelRetract (n : LaneId) (s : SlotId) (w : Wall) : Wall :=
  let p := lanePage n
  let l := w.lanes.get n
  if s ∈ l.waiting then (w.answerCancel p s).finish p s .cancelled (retractFields BundleRecord.reset)
  else if l.bundle.phase = .queued ∨ l.bundle.phase = .heldBack then (w.answerCancel p s).dropRetract n .cancelled
  else w.refuseCancel p s

/-- The cancel rule of DEPOSIT (R126). A pending cancel keeps its bit until it is decided at the stowed sensor, and a further cancel is merged into it (R161). -/
def Wall.cancelDeposit (n : LaneId) (s : SlotId) (w : Wall) : Wall :=
  let p := lanePage n
  let l := w.lanes.get n
  if l.owner ≠ some s then (w.answerCancel p s).finish p s .cancelled (depositFields l.closeCause .none l.pocket.state)
  else if (w.slot p s).cancelPending then w
  else
    match l.drawer with
    | .opening | .offered | .closing => (w.modSlot p s fun x => { x with cancelPending := true }).closeByOwner n .order
    | _ => w.refuseCancel p s

/-- The cancel rule of CAPTURE (R133). -/
def Wall.cancelCapture (n : LaneId) (s : SlotId) (w : Wall) : Wall :=
  let p := lanePage n
  let k := (w.lanes.get n).pocket
  if k.state = .captureWait then
    (((w.answerCancel p s).leaveQueue n).pocketHeld n).finish p s .cancelled (w.captureFields k.unknownOrigin)
  else w.refuseCancel p s

/-- The cancel rule of RETURN (R135). -/
def Wall.cancelReturn (n : LaneId) (s : SlotId) (w : Wall) : Wall :=
  let p := lanePage n
  let l := w.lanes.get n
  if l.pocket.state = .captureWait then
    (((w.answerCancel p s).leaveQueue n).pocketHeld n).finish p s .cancelled (w.returnFields .left)
  else if l.pocket.state = .returning ∧ l.owner ≠ some s then
    ((w.answerCancel p s).pocketHeld n).finish p s .cancelled (w.returnFields .none)
  else w.refuseCancel p s

/-- A cancel event reaches an order in progress (R41): one already answered TOO LATE is answered so again, whatever the rule of its kind says of where the
order then stands (a RETURN that has come to CAPTURE WAIT, R135: log 47); otherwise the rule of its kind answers it (R42). -/
def Wall.cancelOrder (p : PageId) (s : SlotId) (w : Wall) : Wall :=
  match laneOf p with
  | none => w.refuseCancel p s
  | some n =>
    if (w.slot p s).tooLate then w.refuseCancel p s
    else
      match w.kindAt p s with
      | some .dispense => w.cancelDispense n s
      | some .retract => w.cancelRetract n s
      | some .deposit => w.cancelDeposit n s
      | some .capture => w.cancelCapture n s
      | some .returnEnvelope => w.cancelReturn n s
      | _ => w.refuseCancel p s

/-- A cancel event (R41). -/
def Wall.cancelEvent (p : PageId) (s : SlotId) (w : Wall) : Wall :=
  match (w.slot p s).state with
  | .posted => (w.closeSlot p s .finished .cancelled []).answerCancel p s
  | .accepted | .running | .held => w.cancelOrder p s
  | .empty | .finished | .refused => w.answerCancel p s

/-- The slot a bit of F0 or F1 names (2.5). -/
def cancelSlot (k : Fin 16) (i : Nat) : PageId × SlotId :=
  if k = 0 then (lanePage (Fin.ofNat 4 (i / 4)), Fin.ofNat 4 (i % 4)) else (servicePage, Fin.ofNat 4 i)

/-- The event of one bit of a flag word changed from 0 to 1 by the host (R161). -/
def Wall.flagEvent (k : Fin 16) (i : Nat) (w : Wall) : Wall :=
  if k = 0 ∨ k = 1 then w.cancelEvent (cancelSlot k i).1 (cancelSlot k i).2
  else if k = 2 then w.acknowledge (Fin.ofNat 16 i)
  else w

/-- The bits of a word that are 1, from bit 0 up. -/
def onesOf (x : Word) : List Nat := (List.range 16).filter fun i => x.getLsbD i

/-- A host write of a mask to the set alias of a flag word, with its events (R161). Only a cancel event (F0, F1) frees what a waiting order could
then be granted; an acknowledge event acts on its point's record alone (R143), and F3 to F15 make no events. -/
def Wall.setFlags (k : Fin 16) (mask : Word) (w : Wall) : Wall :=
  let old := w.flags.get k
  let new := mask &&& flagMask k &&& ~~~old
  let done := (onesOf new).foldl (fun w i => w.flagEvent k i) (w.modFlag k fun v => v ||| new)
  if k.val < 2 then done.evaluate else done

/-- A host write of a mask to the clear alias of a flag word (R161). -/
def Wall.clearFlags (k : Fin 16) (mask : Word) (w : Wall) : Wall := w.modFlag k fun v => v &&& ~~~mask

end Sys2Proof.Machine
end

