-- ==== Sys2Proof/Machine/View.lean ====
section
/-! DEFINITION. What the host reads (9.1, 11.1 to 11.6): every record laid out by R180, the slots, the board, the trace, the profile, the flag words, the
registers, and the counter read latch (R163). Where R180 leaves a place open the choice is log 10's. -/

namespace Sys2Proof.Machine

/-! ### Words of a record (R180) -/

/-- Word `i` of a record; the words after its last field read 0. -/
def recordWord (l : List Word) (i : Nat) : Word := l.getD i 0#16

/-- The flags word of a record: its two-valued fields in table order, the first in bit 0. -/
def flagsWord (l : List Bool) : Word := word ((l.zipIdx.map fun x => markBit x.2 x.1).sum)

/-- A list of a record with `capacity` places: its length, then its entries, oldest first. -/
def listWords (capacity : Nat) (l : List Nat) : List Word :=
  word l.length :: (List.range capacity).map fun i => word (l.getD i 0)

/-- The two words of a 32-bit field. -/
def dwordWords (x : DWord) : List Word := [highWord x, lowWord x]

/-- The lane record (R1). -/
def Lane.words (l : Lane) : List Word :=
  [word l.state.code, word l.drawer.code, noneWord l.owner] ++ listWords 2 (l.waiting.map Fin.val)
    ++ [word l.bounce, word (roundUp l.timerMs 100), flagsWord [l.duress, !(l.state == .opened)]]

/-- The drawer record (R6). -/
def Lane.drawerWords (l : Lane) : List Word :=
  [word l.cycle.code, word l.travel.code, word l.budgetMs, word (l.window.getD 0), word l.closeCause.code, word l.result.code,
    flagsWord [l.late, l.forced]]

/-- The escrow record of lane `n` (R122). The hold-limit remaining is 0 while the timer does not run. -/
def Pocket.words (n : LaneId) (p : Pocket) : List Word :=
  [word p.state.code, word n.val, noneWord p.owner, word (if p.timerRunning then roundUp p.holdMs 1000 else 0),
    flagsWord [p.timerRunning, p.unknownOrigin, p.unattended, p.abandoned, p.stranded, p.lost]]

/-- The current bundle record (R114). -/
def BundleRecord.words (b : BundleRecord) : List Word :=
  [noneWord b.slot, word b.notes, word b.phase.code, word b.dest.code, word b.pieces, word b.retracted, word b.foreign]

/-- The progress area of a DISPENSE (11.2). -/
def DispenseContext.words (c : DispenseContext) : List Word :=
  [word c.phase.code, word c.acceptance] ++ countWords c.outstanding ++ countWords c.routed
    ++ [word c.rejects, word c.bundles, word c.target, word c.inDrawer,
        word (markBit 0 c.final + markBit 1 c.takenLate + c.endCause.code * 4 + c.remixes % 256 * 256)]

/-- Word `i` of a slot (11.2). -/
def Slot.word (x : Slot) (i : Nat) : Word :=
  if i = 0 then Machine.word x.state.code
  else if i < 15 then x.body.toList.getD (i - 1) 0#16
  else if i < 31 then ((x.context.map DispenseContext.words).getD []).getD (i - 15) 0#16
  else if i < 71 then x.result.getD (i - 31) 0#16
  else 0#16

/-- A word of a lane page's header and extras; on the service page they read 0 (11.1). -/
def Wall.laneWord (w : Wall) (p : PageId) (i : Nat) : Word :=
  match laneOf p with
  | none => 0#16
  | some n =>
    let l := w.lanes.get n
    if i < 0x20 then recordWord l.words i
    else if i < 0x1B0 then recordWord l.drawerWords (i - 0x1A0)
    else if i < 0x1C0 then recordWord (l.pocket.words n) (i - 0x1B0)
    else if i < 0x1D0 then recordWord l.bundle.words (i - 0x1C0)
    else 0#16

/-- A word of a page (11.1). -/
def Wall.pageWord (w : Wall) (p : PageId) (i : Nat) : Word :=
  if i < 0x20 ∨ 0x1A0 ≤ i then w.laneWord p i else (w.slot p (Fin.ofNat 4 ((i - 0x20) / 0x60))).word ((i - 0x20) % 0x60)

/-- The cassette record of a position (R46). -/
def Cassette.words (c : CassId) (x : Cassette) : List Word :=
  [word c.val, word x.state.code, word x.loaded, word x.drawn, word x.remaining, word x.reserved, word x.availability, word x.tr,
    word x.misses, word x.rejects, word x.passages, flagsWord [x.doubt]]

/-- The word of a count that may be FIRST, or of a number that may be none (R180). -/
def optionWord (x : Option Nat) : Word :=
  match x with
  | some n => word n
  | none => 0xFFFF#16

/-- The gate record (R66). -/
def Wall.gateWords (w : Wall) : List Word :=
  let g := w.gate
  [word g.source.code, word g.runLength, word g.runPeak, word g.gap, optionWord g.gapCounter, word g.nextSeq]
    ++ listWords 4 (g.openPicks.map fun p => p.cassette.val * 4096 + p.travel % 4096)
    ++ [noneWord g.lastPick, word g.inFlight.length, optionWord (g.inFlight.head?.map Passage.seq),
        optionWord (g.latch.map fun r => r.1.code), optionWord (g.latch.map Prod.snd)]
    ++ dwordWords (BitVec.ofNat 32 g.passageTotal) ++ [word g.traceNext.val, word g.traceFill]
    ++ cassIds.map (fun c => word (w.doubleThreshold c)) ++ [flagsWord [g.inPassage, g.cut, g.flapStacker, g.acceptEnable, g.loss]]

/-- The join in one word: none, 1 + n dispense, 5 + n retract with its destination in bits 8 and 9 (R109), 9 clearance (log 10). -/
def Wall.joinWord (w : Wall) : Word :=
  match w.transport.join with
  | .none => 0xFFFF#16
  | .dispense n => word (1 + n.val)
  | .retract n => word (5 + n.val + (w.lanes.get n).bundle.dest.code * 256)
  | .clearance => 9#16

/-- The code of a request kind (R86). -/
def RequestKind.code : RequestKind → Nat
  | .bundle => 0 | .retract => 1

/-- The transport record (R86). -/
def Wall.transportWords (w : Wall) : List Word :=
  let t := w.transport
  [word t.state.code, w.joinWord] ++ listWords 4 (t.queue.map fun r => r.lane.val * 4096 + r.kind.code) ++ [word t.stackerCount]
    ++ countWords t.composition ++ [word t.watch.length, optionWord (t.watch.head?.map WatchEntry.seq), word t.unaccounted, word t.seen]
    ++ dwordWords t.presentedTotal

/-- The conveyor record (R128). -/
def Conveyor.words (c : Conveyor) : List Word :=
  [word c.state.code] ++ listWords 4 (c.queue.map Fin.val) ++ [noneWord c.carried, word c.carryMs, word c.clearMs, word c.seen]

/-- A bin record (R116); the deposit bin has its lifetime total. -/
def Wall.binWords (w : Wall) (k : BinId) : List Word :=
  let b := w.bins.get k
  [word b.capacity, word b.margin, word b.count] ++ (if k = depositBin then dwordWords w.depositTotal else [])
    ++ [flagsWord [b.nearFull, b.full, b.door, b.restarted]]

/-- A point record (R139). -/
def Point.words (p : Point) : List Word :=
  [word p.changes, word p.zone.val, word p.debounce, flagsWord [p.raw, p.live, p.known, p.alert, p.restored, p.polarity, p.entryDelay]]

/-- A set of points in one word, point p in bit p (log 10). -/
def setWord (l : List PointId) : Word := word ((l.map fun p => 2 ^ p.val).sum)

/-- A zone record (R145). -/
def Wall.zoneWords (w : Wall) (z : ZoneId) : List Word :=
  let x := w.zones.get z
  [word x.mode.code, word x.state.code, setWord (w.members z), word x.entryDelay, word x.sirenTime,
    flagsWord [x.siren, x.strobe, x.silent], word (roundUp x.entryMs 1000), word (roundUp (x.sirenMs.getD 0) 1000), noneWord x.trigger,
    word x.alarms, flagsWord [x.lockdownFlag]]

/-- The alarm status record (R153). -/
def Wall.alarmWords (w : Wall) : List Word :=
  let a := w.alarm
  [noneWord a.lockdownZone] ++ dwordWords a.lockdownStart ++ [word w.alertCount, flagsWord [a.lockdown, a.siren, a.strobe, a.silent]]

/-- A word of a board entry (11.3). -/
def Entry.word (e : Entry) (i : Nat) : Word :=
  if i = 0 then Machine.word (e.state.code + e.key * 4 + e.count * 256)
  else if i = 1 then e.first else if i = 2 then e.last else e.detail

/-- A word of a gate trace entry (11.3); an empty place reads 0. -/
def traceWord (e : Option TraceEntry) (i : Nat) : Word :=
  match e with
  | none => 0#16
  | some x =>
    if i = 0 then word x.seq
    else if i = 1 then word (x.length % 4096 + x.estimate * 4096)
    else if i = 2 then word (x.gap % 4096 + x.source.code * 4096)
    else word (x.thickness % 1024 + x.cls.code * 1024 + x.route.code * 8192 + markBit 15 x.cut)

/-- The port record (R170). -/
def Wall.portWords (w : Wall) : List Word :=
  let p := w.port
  [word p.slips] ++ dwordWords p.slipTotal ++ dwordWords p.seconds ++ dwordWords p.holdStart
    ++ [flagsWord [p.running, p.startUpMark, w.takingEnabled, p.lineCause, p.orderCause]]

/-! ### A word by its address (R159) -/

/-- The records from 0x0A00 to 0x0CFF. -/
def Wall.recordArea (w : Wall) (a : Nat) : Word :=
  if a < 0x0A80 then recordWord ((w.cassettes.get (Fin.ofNat 4 ((a - 0x0A00) / 32))).words (Fin.ofNat 4 ((a - 0x0A00) / 32))) ((a - 0x0A00) % 32)
  else if a < 0x0AA0 then recordWord w.gateWords (a - 0x0A80)
  else if a < 0x0AD0 then recordWord w.transportWords (a - 0x0AA0)
  else if a < 0x0B00 then recordWord w.conveyor.words (a - 0x0AD0)
  else if a < 0x0B30 then recordWord (w.binWords (Fin.ofNat 3 ((a - 0x0B00) / 16))) ((a - 0x0B00) % 16)
  else if a < 0x0C00 then 0#16
  else if a < 0x0C80 then recordWord (w.points.get (Fin.ofNat 16 ((a - 0x0C00) / 8))).words ((a - 0x0C00) % 8)
  else if a < 0x0CC0 then recordWord (w.zoneWords (Fin.ofNat 4 ((a - 0x0C80) / 16))) ((a - 0x0C80) % 16)
  else if a < 0x0CC8 then recordWord w.alarmWords (a - 0x0CC0)
  else 0#16

/-- Work memory from 0x0D00 to 0x10FF: the board, the flag words, the profile, the port record, the gate trace. -/
def Wall.sharedArea (w : Wall) (a : Nat) : Word :=
  if a < 0x0DC0 then (w.board.get (Fin.ofNat 48 ((a - 0x0D00) / 4))).word ((a - 0x0D00) % 4)
  else if a = 0x0DC0 then word w.lost
  else if a < 0x0E00 then 0#16
  else if a < 0x0E10 then w.flags.get (Fin.ofNat 16 (a - 0x0E00))
  else if a < 0x0F00 then 0#16
  else if a < 0x0F40 then w.profile.image.get (Fin.ofNat 64 (a - 0x0F00))
  else if a < 0x0F80 then w.profile.active.get (Fin.ofNat 64 (a - 0x0F40))
  else if a < 0x0F90 then recordWord w.portWords (a - 0x0F80)
  else if a < 0x1000 then 0#16
  else traceWord (w.gate.trace.get (Fin.ofNat 64 ((a - 0x1000) / 4))) ((a - 0x1000) % 4)

/-- The alias windows and the registers (R161, R168). -/
def Wall.registerArea (w : Wall) (a : Nat) : Word :=
  if a < 0x2020 then w.flags.get (Fin.ofNat 16 (a - 0x2000))
  else if a = 0x3FFC then Config.identity
  else if a = 0x3FFD then word (markBit 0 w.port.running)
  else if a = 0x3FFE then w.summary
  else if a = 0x3FFF then w.port.mask
  else 0#16

/-- The word the host reads at an address, but for the counter read latch (R159). -/
def State.readWord (s : State) (a : Nat) : Word :=
  if a < 0x0A00 then s.wall.pageWord (Fin.ofNat 5 (a / 0x200)) (a % 0x200)
  else if a < 0x0D00 then s.wall.recordArea a
  else if a < 0x1100 then s.wall.sharedArea a
  else if a < 0x2000 then Memory.read s.memory a
  else s.wall.registerArea a

/-! ### The counter read latch (R163) -/

/-- The live value of a counter. -/
def Wall.counter (w : Wall) : Counter → DWord
  | .wallSeconds => w.port.seconds
  | .slipTotal => w.port.slipTotal
  | .passageTotal => BitVec.ofNat 32 w.gate.passageTotal
  | .presentedTotal => w.transport.presentedTotal
  | .depositTotal => w.depositTotal

/-- A host read of an address: what the data lines show, and the latch (R163). -/
def State.busRead (s : State) (a : Nat) : State :=
  match counters.find? fun c => counterAddress c == a with
  | some c => { s with busData := highWord (s.wall.counter c), latch := some { counter := c, value := lowWord (s.wall.counter c) } }
  | none =>
    match counters.find? fun c => counterAddress c + 1 == a with
    | some c =>
      match s.latch with
      | some l =>
        if l.counter = c then { s with busData := l.value, latch := none }
        else { s with busData := lowWord (s.wall.counter c), latch := none }
      | none => { s with busData := lowWord (s.wall.counter c), latch := none }
    | none => { s with busData := s.readWord a, latch := none }

end Sys2Proof.Machine
end

