-- ==== Sys2Proof/Machine/StartUp.lean ====
section
/-! DEFINITION. Run Control (R177), the wall reset (R178 with R21, R45, R65, R84, R106, R121, R138, R166), power-on and the failure of the supply. -/

namespace Sys2Proof.Machine

/-! ### RUN (R177) -/

/-- At the first RUN a HELD pocket's timer starts to count (R138). -/
def Wall.startHoldTimer (n : LaneId) (w : Wall) : Wall :=
  w.modPocket n fun p => { p with timerRunning := p.timerRunning || p.state == .held }

/-- The start-up work of the first RUN after a reset (R177). The ownerless closes of R21 begin as the start-up mark clears: each is driven, and an obstruction
sensor already active then is not counted as an obstruction, which the next activation is (log 69). -/
def Wall.startUp (w : Wall) : Wall :=
  ((w.modPort fun p => { p with startUpMark := false }).startClearance.startConveyorClearance).eachLane Wall.startHoldTimer

/-- The run bit is written 1 (R177). -/
def Wall.run (w : Wall) : Wall :=
  if w.port.running then w
  else
    let w1 := w.modPort fun p => { p with running := true }
    (if w.port.startUpMark then w1.startUp else w1).evaluate

/-- The run bit is written 0 (R177). -/
def Wall.halt (w : Wall) : Wall := w.modPort fun p => { p with running := false }

/-! ### The lanes at a reset (R21, R138) -/

/-- A lane's record and drawer after a reset, from its sensors (R21), its bundle record (R114). The pocket is left as it is. -/
def Lane.restart (l : Lane) : Lane :=
  { l with state := .closed, drawer := if l.stowedSensor then l.restState else .closing, owner := none, waiting := [], bounce := 0, timerMs := 0,
           duress := false, cycle := .none, travel := if l.stowedSensor then .none else .inward,
           budgetMs := if l.stowedSensor then 0 else 4000, window := none, late := false, closeCause := .customer, result := .none,
           forced := false, shortTimer := false, ownerClose := none, obstructed := false, leaving := false,
           bundle := BundleRecord.reset }

/-- A pocket after a reset, from its envelope sensor (R138). At power-on `history` is true; at a wall reset it says that the mark was set or the pocket
was in a state other than HELD. -/
def Pocket.restart (envelope history : Bool) (limit : Nat) : Pocket :=
  if envelope then
    { Pocket.reset with state := .held, holdMs := limit, unknownOrigin := history }
  else Pocket.reset

/-- A lane's pocket at a wall reset (R138), from the envelope sensor as last reported: a reset that cuts a lift finds it as before the lift (log 65). -/
def Lane.restartPocket (limit : Nat) (l : Lane) : Lane :=
  { l with pocket := Pocket.restart l.envelopeSensor (l.pocket.unknownOrigin || !(l.pocket.state == .held)) limit }

/-! ### The wall reset (R178) -/

/-- The gate abandons what is in progress (R84). The running length and peak, the current gap and the current source are kept, as is presence (log 50, log 44). -/
def Gate.abandon (g : Gate) : Gate :=
  { g with inPassage := false, cut := false, lossSeen := false, gapCounter := none, openPicks := [], lastPick := none, passages := [],
           latch := none, flapStacker := false, acceptEnable := false }

/-- The estimate of a watch entry that has not settled (R106, log 13). -/
def openEstimate (seq : Nat) : Nat := clampNat 1 8 (Config.unsettledEstimate seq)

/-- The transport abandons what is in progress (R106). Clearance seen keeps its value until the next clearance zeroes it (log 70). -/
def Transport.abandon (t : Transport) : Transport :=
  { t with state := .unknown, join := .none, queue := [], unaccounted := satAdd 65535 t.unaccounted (watchEstimates openEstimate t.watch),
           watch := [], exitedEarly := [], dump := none, clearPulses := 0, quiet := 0, sweepFound := .none, silentMs := 0 }

/-- The conveyor abandons what is in progress (R138). Carry budget remaining and clearance remaining go to 0 with it, and clearance seen is kept (log 62). -/
def Conveyor.abandon (c : Conveyor) : Conveyor :=
  { c with state := .unknown, queue := [], carried := none, carryMs := 0, clearMs := 0, clearFromFault := false }

/-- A slot that is discarded (R45): its body is kept. -/
def Slot.discard (x : Slot) : Slot := { Slot.reset with body := x.body }

/-- The number of slots that are not EMPTY (R45). -/
def Wall.openSlots (w : Wall) : Nat :=
  (pageIds.map fun p => ((w.pages.get p).slots.toList.filter fun x => !(x.state == .empty)).length).sum

/-- Every slot is discarded, and the posting lists are emptied (R45). -/
def Wall.discardSlots (w : Wall) : Wall :=
  { w with pages := tabMap w.pages fun _ g => { slots := tabMap g.slots fun _ x => if x.state = .empty then x else x.discard, posting := [] } }

/-- Step 1 of R178: everything stops, and each block abandons its operation. -/
def Wall.abandon (w : Wall) : Wall :=
  { w with gate := w.gate.abandon, transport := w.transport.abandon, conveyor := w.conveyor.abandon, engine := Engine.reset,
           cassettes := tabMap w.cassettes fun _ c => { c with reserved := 0 },
           lanes := tabMap w.lanes fun _ l => (l.restartPocket w.holdLimitMs).restart, profile := w.profile.cut }

/-- Steps 2 and 3 of R178: the slots, the order cause, the flag words F0 to F3. -/
def Wall.discard (w : Wall) : Wall :=
  let w1 := w.discardSlots.modPort fun p => { p with orderCause := false }
  { w1 with flags := tabMap w1.flags fun k v => if k.val < 4 then 0#16 else v }

/-- Step 4 of R178: the board, with the news of the discarded orders and of a hold that the line keeps in force. -/
def Wall.clearBoard (discarded : Nat) (w : Wall) : Wall :=
  let w1 := { w with board := Vector.replicate 48 Entry.blank, lost := 0 }
  let w2 := if 0 < discarded then w1.post .ordersDiscarded discarded else w1
  if w.port.lineCause then (w2.modPort fun p => { p with holdStart := p.seconds }).post .holdOn 1 else w2

/-- Steps 6 and 7 of R178: the port record. -/
def Port.restart (p : Port) : Port :=
  { p with slips := 0, running := false, startUpMark := true, transportReady := false, conveyorReady := false }

/-- A wall reset (R178). Point 14 follows the forced marks, which are all clear (R141). -/
def Wall.wallReset (w : Wall) : Wall :=
  let w1 := (w.abandon.discard.clearBoard w.openSlots).refreshForced
  ((w1.modPort Port.restart).load 2).applyProfile

/-! ### Power-on -/

/-- A lane at power-on from its sensors (R21, R138). -/
def powerOnLane (i : WallInputs) (limit : Nat) (n : LaneId) : Lane :=
  let l : Lane :=
    { Lane.reset with
        stowedSensor := i.stowed.get n, itemSensor := i.item.get n, envelopeSensor := i.envelope.get n,
        pocket := Pocket.restart (i.envelope.get n) true limit }
  l.restart

/-- A cassette record at power-on (R65, R78). -/
def Wall.powerOnCassette (w : Wall) (i : WallInputs) (c : CassId) : Cassette :=
  { Cassette.reset with
      state := if i.cassette.get c then .uncounted else .absent, present := i.cassette.get c, tr := w.noteThickness c }

/-- The raw input of a point at power-on: 0 for an internal point. -/
def rawInput (i : WallInputs) (p : PointId) : Bool := if h : p.val < 12 then i.raw.get ⟨p.val, h⟩ else false

/-- A point record at power-on (R158): live and known take the candidate of the first sample. -/
def Wall.powerOnPoint (w : Wall) (i : WallInputs) (p : PointId) : Point :=
  let x := w.pointSettings p (Point.reset 3 0 false)
  let y := { x with raw := rawInput i p, stableMs := 0 }
  { y with live := y.candidate, known := y.candidate }

/-- A zone record at power-on (R158). -/
def Wall.powerOnZone (w : Wall) (z : ZoneId) : Zone :=
  let x := w.zoneSettings z (Zone.reset .armable .disarmed 0 0 false false false false)
  { x with state := x.mode.start }

/-- The wall at power-on, from what its sensors show and the stored profile (R21, R44, R65, R83, R106, R121, R138, R158, R162, R166, R170, R171, R172,
R177). The 24-HOUR zones with a member ACTIVE at the first sample enter ALARM from zone 0 up, so that the first of them whose lockdown flag is 1
is the lockdown zone (log 71). -/
def powerOnWall (i : WallInputs) (stored : Vector Word 64) (cutShort : Nat) : Wall :=
  let blank : Wall :=
    { Wall.reset with
        board := Vector.replicate 48 Entry.blank,
        profile := { stored := stored, active := defaultProfile, image := stored, programming := none, cutShort := cutShort } }
  let w := blank.load 1
  let points : Vector Point 16 := Vector.ofFn fun p => w.powerOnPoint i p
  let w1 : Wall :=
    { w with
        lanes := Vector.ofFn fun n => powerOnLane i w.holdLimitMs n, cassettes := Vector.ofFn fun c => w.powerOnCassette i c, points := points,
        zones := Vector.ofFn fun z => w.powerOnZone z,
        bins := Vector.ofFn fun k =>
          { Bin.reset (w.binCapacity k) with margin := w.binMargin k, door := (points.get (if k = depositBin then 2 else 0)).live } }
  let w2 := w1.eachLane Wall.applyLockout
  (zoneIds.foldl (fun w z => w.startWatch z) w2).refreshOutputs

/-- What the sensors show in State.reset (log 7): drawers stowed, trays and pockets clear, cassettes seated, raw inputs at 0. -/
def WallInputs.atReset : WallInputs :=
  { stowed := Vector.replicate 4 true, item := Vector.replicate 4 false, envelope := Vector.replicate 4 false,
    cassette := Vector.replicate 4 true, raw := Vector.replicate 12 false }

/-- Supply is applied (R177). The stored profile is nonvolatile. A programming that supply had left in progress is cut (log 6). -/
def State.powerUp (i : WallInputs) (s : State) : State :=
  { State.reset with pending := s.pending, wall := powerOnWall i s.wall.profile.cut.stored s.wall.profile.cut.cutShort }

/-- The supply fails (R174): programming is cut, and nothing runs until POWER_ON. -/
def State.powerDown (s : State) : State :=
  if s.supply then { s with supply := false, wall := s.wall.modProfile ProfileStore.cut } else s

end Sys2Proof.Machine
end

