-- ==== Sys2Proof/Machine/Bus.lean ====
section
/-! DEFINITION. The meanings of the supply and host bus commands: POWER_ON, the host writes and reads, the registers, SUPPLY_FAILURE. Every bus access
disarms the counter read latch but for the reads of R163. Without supply the part takes no command but POWER_ON (log 19). -/

namespace Sys2Proof.Machine

/-- A machine as the outcome of a command. -/
abbrev Result := Host.Outcome State Fault Refusal

/-- A command that changes the wall, while supply is applied. -/
def State.onWall (f : Wall → Wall) (s : State) : Result := if s.supply then .next { s with wall := f s.wall } else .next s

/-- A host bus access that changes the wall: it disarms the latch (R163). -/
def State.onBus (f : Wall → Wall) (s : State) : Result :=
  if s.supply then .next { s with latch := none, wall := f s.wall } else .next s

/-! ### Writes by their place (R159) -/

/-- A host write to a slot's state word (R23). POSTED is 1 and EMPTY is 0 (11.2). -/
def Wall.writeSlotState (p : PageId) (s : SlotId) (v : Word) (w : Wall) : Wall :=
  let x := w.slot p s
  if v = 1#16 ∧ x.state = .empty then (w.postSlot p s).evaluate
  else if v = 0#16 ∧ x.state.ended = true then w.modSlot p s Slot.discard
  else w.slip (slotAddress p s 0)

/-- A host write to a word of a slot's order body (R24). -/
def Wall.writeBody (p : PageId) (s : SlotId) (i : Fin 14) (v : Word) (w : Wall) : Wall :=
  if (w.slot p s).state = .empty then w.modSlot p s fun x => { x with body := tabSet x.body i v }
  else w.slip (slotAddress p s (i.val + 1))

/-- The host gives a board entry back (R165, R160). -/
def Wall.freeBoardEntry (e : Fin 48) (w : Wall) : Wall :=
  let w1 := { w with board := tabSet w.board e Entry.blank }
  if (w.board.get e).key = News.protocolSlip.key then w1.modPort fun p => { p with slips := 0 } else w1

/-- A host write to a board entry's state word, judged by its bits 0 and 1 (R165, R181). SEEN is 2 and FREE is 0. -/
def Wall.writeEntry (e : Fin 48) (v : Word) (w : Wall) : Wall :=
  let x := w.board.get e
  if v.toNat % 4 = 2 ∧ x.state = .new then { w with board := tabSet w.board e { x with state := .seen } }
  else if v.toNat % 4 = 0 ∧ x.state ≠ .free then w.freeBoardEntry e
  else w.slip (entryAddress e)

/-- A host write to Run Control (R177, R178). -/
def Wall.writeRunControl (v : Word) (w : Wall) : Wall :=
  if v.getLsbD 1 then w.wallReset else if v.getLsbD 0 then w.run else w.halt

/-- A host write to the Attention Mask stores its nine bits (R169). -/
def Wall.writeMask (v : Word) (w : Wall) : Wall := w.modPort fun p => { p with mask := v &&& 0x01FF#16 }

/-- A host write to a word outside the general area (R159). -/
def Wall.hostWrite (a : Nat) (v : Word) (w : Wall) : Wall :=
  match Machine.place a with
  | .slotState p s => w.writeSlotState p s v
  | .orderBody p s i => w.writeBody p s i v
  | .entryState e => w.writeEntry e v
  | .image i => w.modProfile fun p => { p with image := tabSet p.image i v }
  | .setAlias k => w.setFlags k v
  | .clearAlias k => w.clearFlags k v
  | .runControl => w.writeRunControl v
  | .attentionMask => w.writeMask v
  | .slip => w.slip a
  | .general _ | .nowhere => w

/-- A host write (R159). -/
def State.busWrite (a : Nat) (v : Word) (s : State) : State :=
  match Machine.place a with
  | .general b => { s with latch := none, memory := Memory.write s.memory b v }
  | _ => { s with latch := none, wall := s.wall.hostWrite a v }

/-! ### The meanings -/

/-- POWER_ON (R177). -/
def execPowerOn (inputs : WallInputs) (s : State) : Result := .next (s.powerUp inputs)

/-- HOST_WRITE (R159). -/
def execHostWrite (addr : Addr) (value : Word) (s : State) : Result := if s.supply then .next (s.busWrite addr.toNat value) else .next s

/-- POSTING_EVENT (R23): the host writes POSTED into a slot's state word. -/
def execPostingEvent (page : PageId) (slot : SlotId) (s : State) : Result := s.onBus (Wall.writeSlotState page slot 1#16)

/-- GIVE_BACK (R23): the host writes EMPTY into a slot's state word. -/
def execGiveBack (page : PageId) (slot : SlotId) (s : State) : Result := s.onBus (Wall.writeSlotState page slot 0#16)

/-- ORDER_BODY_WRITE (R24). -/
def execOrderBodyWrite (page : PageId) (slot : SlotId) (i : Fin 14) (value : Word) (s : State) : Result :=
  s.onBus (Wall.writeBody page slot i value)

/-- FLAG_SET_ALIAS (R161). -/
def execFlagSetAlias (k : Fin 16) (mask : Word) (s : State) : Result := s.onBus (Wall.setFlags k mask)

/-- FLAG_CLEAR_ALIAS (R161). -/
def execFlagClearAlias (k : Fin 16) (mask : Word) (s : State) : Result := s.onBus (Wall.clearFlags k mask)

/-- ENTRY_SEEN (R165). -/
def execEntrySeen (e : Fin 48) (s : State) : Result := s.onBus (Wall.writeEntry e 2#16)

/-- ENTRY_FREE (R165). -/
def execEntryFree (e : Fin 48) (s : State) : Result := s.onBus (Wall.writeEntry e 0#16)

/-- COUNTER_HIGH_READ (R163). -/
def execCounterHighRead (c : Counter) (s : State) : Result := if s.supply then .next (s.busRead (counterAddress c)) else .next s

/-- COUNTER_LOW_READ (R163). -/
def execCounterLowRead (c : Counter) (s : State) : Result := if s.supply then .next (s.busRead (counterAddress c + 1)) else .next s

/-- RUN (R177). -/
def execRun (s : State) : Result := s.onBus (Wall.writeRunControl 1#16)

/-- HALT (R177). -/
def execHalt (s : State) : Result := s.onBus (Wall.writeRunControl 0#16)

/-- WALL_RESET (R178), whatever the run bit of the same write. -/
def execWallReset (runBit : Bool) (s : State) : Result := s.onBus (Wall.writeRunControl (if runBit then 3#16 else 2#16))

/-- ATTENTION_MASK_WRITE (R169). -/
def execAttentionMaskWrite (value : Word) (s : State) : Result := s.onBus (Wall.writeMask value)

/-- HOST_READ (R159, R163). -/
def execHostRead (addr : Addr) (s : State) : Result := if s.supply then .next (s.busRead addr.toNat) else .next s

/-- SUPPLY_FAILURE (R174). -/
def execSupplyFailure (s : State) : Result := .next s.powerDown

end Sys2Proof.Machine
end

