-- ==== Sys2Proof/Machine/AlarmEvents.lean ====
section
/-! DEFINITION. The meanings of the events at the alarm inputs, the alarm timers, the HOLD line and the second timer (chapters 8 and 10). -/

namespace Sys2Proof.Machine

/-- The raw input of an external point changes to its other value (R140). -/
def Wall.rawChange (p : Fin 12) (w : Wall) : Wall :=
  w.modPoint (p.castLE (by decide)) fun x => { x with raw := !x.raw, stableMs := 0 }

/-- The candidate of an external point has been stable for its debounce (R140): a live change where it differs from live. -/
def Wall.stableChange (p : Fin 12) (w : Wall) : Wall :=
  let q : PointId := p.castLE (by decide)
  let x := w.points.get q
  if x.candidate = x.live then w else w.changeLive q x.candidate

/-- A zone's entry delay expires (R147). -/
def Wall.entryExpires (z : ZoneId) (w : Wall) : Wall :=
  let x := w.zones.get z
  if x.state = .entryDelay then w.zoneAlarm z (x.trigger.getD 0) else w

/-- A zone's siren timer expires (R149, R150). -/
def Wall.sirenExpires (z : ZoneId) (w : Wall) : Wall := (w.modZone z fun x => { x with sirenMs := none }).refreshOutputs

/-- The second timer rises (R170, R179). -/
def Wall.second (w : Wall) : Wall := w.modPort fun p => { p with seconds := p.seconds + 1#32, secondMs := 0 }

/-- RAW_INPUT_CHANGE (R140). -/
def execRawInputChange (p : Fin 12) (s : State) : Result := s.onWall (Wall.rawChange p)

/-- LIVE_CHANGE (R140). -/
def execLiveChange (p : Fin 12) (s : State) : Result := s.onWall fun w => (w.stableChange p).evaluate

/-- ENTRY_DELAY_EXPIRY (R147). -/
def execEntryDelayExpiry (z : ZoneId) (s : State) : Result := s.onWall fun w => (w.entryExpires z).evaluate

/-- SIREN_TIMER_EXPIRY (R149). -/
def execSirenTimerExpiry (z : ZoneId) (s : State) : Result := s.onWall (Wall.sirenExpires z)

/-- HOLD_LINE_ON (R175). -/
def execHoldLineOn (s : State) : Result := s.onWall fun w => (w.setHold true w.port.orderCause).evaluate

/-- HOLD_LINE_OFF (R175). -/
def execHoldLineOff (s : State) : Result := s.onWall fun w => (w.setHold false w.port.orderCause).evaluate

/-- WALL_SECOND (R179). -/
def execWallSecond (s : State) : Result := s.onWall Wall.second

end Sys2Proof.Machine
end

