-- ==== Sys2Proof/Machine/LaneEvents.lean ====
section
/-! DEFINITION. The meanings of the events at the lanes (chapters 1 and 7): buttons, drawer and pocket sensors, timers, budgets, lifts, the forced mark, the
hold limit; and the end of programming. An event that the state gives nothing to act on changes nothing but the sensor it reports (log 20). -/

namespace Sys2Proof.Machine

/-! ### What each event does to the wall -/

/-- A call-button press (R5). -/
def Wall.callPress (n : LaneId) (w : Wall) : Wall := w.modFlag 3 fun v => v ||| (1#16 <<< n.val)

/-- A send-button press (R5, R17). -/
def Wall.sendPress (n : LaneId) (w : Wall) : Wall :=
  let l := w.lanes.get n
  if l.drawer = .offered ∧ l.cycle = .deposit ∧ l.itemSensor = true then w.startClose n .send else w

/-- The extended sensor asserts (R6, R14, R17). -/
def Wall.extendedAsserts (n : LaneId) (w : Wall) : Wall :=
  let w1 := w.modLane n fun l => { l with extendedSensor := true, stowedSensor := false, leaving := false }
  if (w.lanes.get n).drawer = .opening then w1.arriveExtended n else w1

/-- The stowed sensor asserts (R6, R10, R15): a forced mark clears, and with it what it stopped goes on; a travel in ends. The bounce count
is zeroed where a travel in ends and by a PATH RESET at the sensor, not by the sensor asserting on a drawer in another state (R1, R6; log 57). -/
def Wall.stowedAsserts (n : LaneId) (w : Wall) : Wall :=
  let l := w.lanes.get n
  let w0 := if l.forced then w.restartSilence else w
  let w1 := w0.modLane n fun l =>
    { l with stowedSensor := true, extendedSensor := false, forced := false, leaving := false,
             drawer := if l.forced = true ∧ (l.drawer = .stowed ∨ l.drawer = .holding) then l.restState else l.drawer }
  let w2 := w1.refreshForced
  if l.drawer = .closing then w2.arriveStowed n else w2

/-- The stowed sensor clears (R10): with the motor not driven the drawer is forced. A travel out that hold stopped, or that jammed, before it left the sensor is
one that no report has shown off it (log 16). -/
def Wall.stowedClears (n : LaneId) (w : Wall) : Wall :=
  if (w.lanes.get n).stowedSensor = true ∨ (w.lanes.get n).leaving = true then
    if w.drawerDriven n then w.modLane n fun l => { l with stowedSensor := false, leaving := false }
    else (w.modLane n fun l => { l with stowedSensor := false, leaving := false, forced := true }).refreshForced
  else w

/-- The obstruction sensor becomes active (R7, R8, R19). While an ownerless close stands stopped for an obstruction, a further activation is not counted (log 45). -/
def Wall.obstruction (n : LaneId) (w : Wall) : Wall :=
  let w1 := w.modLane n fun l => { l with obstructionSensor := true }
  if (w.lanes.get n).drawer = .closing ∧ w.drawerDriven n = true then w1.obstruct n else w1

/-- The obstruction sensor has been inactive for 1 s (R8): a stopped ownerless close resumes. -/
def Wall.obstructionEnds (n : LaneId) (w : Wall) : Wall :=
  w.modLane n fun l => { l with obstructionSensor := false, obstructed := false }

/-- The item sensor shows an item or shows none (R14). -/
def Wall.itemChange (n : LaneId) (present : Bool) (w : Wall) : Wall :=
  w.modLane n fun l =>
    { l with itemSensor := present,
             window :=
               if l.drawer = .offered ∧ l.cycle = .take ∧ l.itemSensor ≠ present then (if present then none else some 2000)
               else l.window }

/-- The lane's drawer is OFFERED in a cycle whose timers run: hold is not in force (R14, R17, R19). -/
def Wall.offering (w : Wall) (n : LaneId) (c : Cycle) : Bool :=
  (w.lanes.get n).drawer == .offered && (w.lanes.get n).cycle == c && !w.held

/-- The clear window runs out (R14). -/
def Wall.windowExpires (n : LaneId) (w : Wall) : Wall :=
  if w.offering n .take = true ∧ (w.lanes.get n).window ≠ none then w.startClose n .customer else w

/-- The take timer expires (R15). -/
def Wall.takeExpires (n : LaneId) (w : Wall) : Wall :=
  let l := w.lanes.get n
  if w.offering n .take = true then
    if l.itemSensor = false ∧ l.window ≠ none then w.startClose n .customer
    else (w.modLane n fun l => { l with late := true }).startClose n .expiry
  else w

/-- The deposit timer expires (R17). -/
def Wall.depositExpires (n : LaneId) (w : Wall) : Wall := if w.offering n .deposit = true then w.startClose n .expiry else w

/-- A drawer travel overruns its budget, which runs while the motor is driven (R6, R8, R19). -/
def Wall.travelOverrun (n : LaneId) (w : Wall) : Wall := if w.drawerDriven n then w.jamDrawer n else w

/-- A LIFT TO POCKET completes (R9, R124, R135). -/
def Wall.liftedToPocket (n : LaneId) (w : Wall) : Wall :=
  let w1 := w.modLane n fun l =>
    { l with itemSensor := false, envelopeSensor := true, drawer := .stowed, travel := .none, budgetMs := 0, ownerClose := none }
  match (w.lanes.get n).owner with
  | none => w1
  | some s =>
    match w.kindAt (lanePage n) s with
    | some .deposit =>
      (w1.pocketHeld n).finish (lanePage n) s .inEscrow (depositFields (w.lanes.get n).closeCause (w.lanes.get n).result .held)
    | some .returnEnvelope =>
      (((w1.pocketMove n .captureWait (some s)).modPocket n fun p => { p with abandoned := true }).joinQueue n).leaveDrawer n s
    | _ => w1

/-- A LIFT TO DRAWER completes, and the RETURN's take cycle starts at once (R9, R134). A close asked for in the lift takes effect now (R16). -/
def Wall.liftedToDrawer (n : LaneId) (w : Wall) : Wall :=
  let w1 := (w.modLane n fun l =>
    { l with itemSensor := true, envelopeSensor := false, drawer := .holding, travel := .none, budgetMs := 0 }).startTake n
  match (w.lanes.get n).ownerClose with
  | some cause => w1.closeByOwner n cause
  | none => w1

/-- A lift completes (R9). While the drawer is forced the lift stands where it is, and completes after the mark has cleared (R10). -/
def Wall.liftEnds (n : LaneId) (w : Wall) : Wall :=
  if (w.lanes.get n).drawer = .lifting ∧ (w.lanes.get n).forced = false then
    match (w.lanes.get n).travel with
    | .liftToPocket => w.liftedToPocket n
    | .liftToDrawer => w.liftedToDrawer n
    | _ => w
  else w

/-- A lift overruns its budget, which stands still in hold and while the drawer is forced (R9, R10, R19, R125). -/
def Wall.liftOverrun (n : LaneId) (envelope item : Bool) (w : Wall) : Wall :=
  if (w.lanes.get n).drawer = .lifting ∧ w.held = false ∧ (w.lanes.get n).forced = false then
    (w.modLane n fun l => { l with envelopeSensor := envelope, itemSensor := item }).jamDrawer n
  else w

/-- The forced drawer's stowed sensor asserts again (R10). -/
def Wall.forcedEnds (n : LaneId) (w : Wall) : Wall := if (w.lanes.get n).forced then w.stowedAsserts n else w

/-- A pocket's hold-limit timer expires (R123). -/
def Wall.holdLimitExpires (n : LaneId) (w : Wall) : Wall := if w.holdLimitRuns n then w.expireHoldLimit n else w

/-- A cassette is removed (R49). -/
def Wall.removeCassette (c : CassId) (w : Wall) : Wall :=
  if (w.cassettes.get c).present then
    (w.modCassette c fun x => { x with present := false }).enterCassetteState c .absent 0
  else w

/-- A cassette is inserted (R50). -/
def Wall.insertCassette (c : CassId) (w : Wall) : Wall :=
  if (w.cassettes.get c).present then w
  else w.modCassette c fun x => { (Cassette.restart (w.noteThickness c) 0 x) with state := .uncounted, present := true }

/-- Programming ends, unless hold stands still over it (R174). -/
def Wall.programmingEnds (w : Wall) : Wall :=
  match w.profile.programming with
  | some g => if w.held then w else w.endProgramming g
  | none => w

/-! ### The meanings -/

/-- PROGRAMMING_END (R174). -/
def execProgrammingEnd (s : State) : Result := s.onWall fun w => w.programmingEnds.evaluate

/-- CALL_BUTTON_PRESS (R5). -/
def execCallButtonPress (lane : LaneId) (s : State) : Result := s.onWall (Wall.callPress lane)

/-- SEND_BUTTON_PRESS (R17). -/
def execSendButtonPress (lane : LaneId) (s : State) : Result := s.onWall (Wall.sendPress lane)

/-- EXTENDED_SENSOR_REACHED (R6). -/
def execExtendedSensorReached (lane : LaneId) (s : State) : Result := s.onWall (Wall.extendedAsserts lane)

/-- STOWED_SENSOR_REACHED (R15). -/
def execStowedSensorReached (lane : LaneId) (s : State) : Result := s.onWall fun w => (w.stowedAsserts lane).evaluate

/-- DRAWER_OBSTRUCTION (R7). -/
def execDrawerObstruction (lane : LaneId) (s : State) : Result := s.onWall fun w => (w.obstruction lane).evaluate

/-- OBSTRUCTION_CLEARED (R8). -/
def execObstructionCleared (lane : LaneId) (s : State) : Result := s.onWall (Wall.obstructionEnds lane)

/-- ITEM_SENSOR_CHANGE (R14). -/
def execItemSensorChange (lane : LaneId) (present : Bool) (s : State) : Result := s.onWall (Wall.itemChange lane present)

/-- CLEAR_WINDOW_EXPIRY (R14). -/
def execClearWindowExpiry (lane : LaneId) (s : State) : Result := s.onWall (Wall.windowExpires lane)

/-- TAKE_TIMER_EXPIRY (R15). -/
def execTakeTimerExpiry (lane : LaneId) (s : State) : Result := s.onWall (Wall.takeExpires lane)

/-- DEPOSIT_TIMER_EXPIRY (R17). -/
def execDepositTimerExpiry (lane : LaneId) (s : State) : Result := s.onWall (Wall.depositExpires lane)

/-- TRAVEL_BUDGET_OVERRUN (R6). -/
def execTravelBudgetOverrun (lane : LaneId) (s : State) : Result := s.onWall fun w => (w.travelOverrun lane).evaluate

/-- LIFT_COMPLETE (R9). -/
def execLiftComplete (lane : LaneId) (s : State) : Result := s.onWall fun w => (w.liftEnds lane).evaluate

/-- LIFT_OVERRUN (R9). -/
def execLiftOverrun (lane : LaneId) (envelope item : Bool) (s : State) : Result :=
  s.onWall fun w => (w.liftOverrun lane envelope item).evaluate

/-- DRAWER_FORCED (R10). -/
def execDrawerForced (lane : LaneId) (s : State) : Result := s.onWall fun w => (w.stowedClears lane).evaluate

/-- FORCED_MARK_CLEARED (R10). -/
def execForcedMarkCleared (lane : LaneId) (s : State) : Result := s.onWall fun w => (w.forcedEnds lane).evaluate

/-- HOLD_LIMIT_EXPIRY (R123). -/
def execHoldLimitExpiry (lane : LaneId) (s : State) : Result := s.onWall (Wall.holdLimitExpires lane)

/-- CASSETTE_REMOVAL (R49). -/
def execCassetteRemoval (c : CassId) (s : State) : Result := s.onWall (Wall.removeCassette c)

/-- CASSETTE_INSERTION (R50). -/
def execCassetteInsertion (c : CassId) (s : State) : Result := s.onWall (Wall.insertCassette c)

end Sys2Proof.Machine
end

