-- ==== Sys2Proof/Machine/OrderRows.lean ====
section
/-! DEFINITION. The meanings of the order rows: the host places an order of the row's kind in a slot, words and POSTED (log 2), and the evaluations that
follow check it, take it and start it. -/

namespace Sys2Proof.Machine

/-- DISPENSE (R35). -/
def execDispense (lane : LaneId) (slot : SlotId) (tag mode amount count0 count1 count2 count3 : Word) (s : State) : Result :=
  s.onBus (Wall.place (lanePage lane) slot .dispense tag [mode, amount, count0, count1, count2, count3])

/-- RETRACT (R108). -/
def execRetract (lane : LaneId) (slot : SlotId) (tag : Word) (s : State) : Result :=
  s.onBus (Wall.place (lanePage lane) slot .retract tag [])

/-- DEPOSIT (R124). -/
def execDeposit (lane : LaneId) (slot : SlotId) (tag : Word) (s : State) : Result :=
  s.onBus (Wall.place (lanePage lane) slot .deposit tag [])

/-- CAPTURE (R133). -/
def execCapture (lane : LaneId) (slot : SlotId) (tag : Word) (s : State) : Result :=
  s.onBus (Wall.place (lanePage lane) slot .capture tag [])

/-- RETURN (R134). -/
def execReturnOrder (lane : LaneId) (slot : SlotId) (tag : Word) (s : State) : Result :=
  s.onBus (Wall.place (lanePage lane) slot .returnEnvelope tag [])

/-- LANE_OPEN (R2). -/
def execLaneOpen (lane : LaneId) (slot : SlotId) (tag : Word) (s : State) : Result :=
  s.onBus (Wall.place (lanePage lane) slot .laneOpen tag [])

/-- LANE_CLOSE (R3). -/
def execLaneClose (lane : LaneId) (slot : SlotId) (tag : Word) (s : State) : Result :=
  s.onBus (Wall.place (lanePage lane) slot .laneClose tag [])

/-- COUNT_SET (R62). -/
def execCountSet (slot : SlotId) (tag cassette loaded : Word) (s : State) : Result :=
  s.onBus (Wall.place servicePage slot .countSet tag [cassette, loaded])

/-- CASSETTE_CLEAR (R63). -/
def execCassetteClear (slot : SlotId) (tag cassette : Word) (s : State) : Result :=
  s.onBus (Wall.place servicePage slot .cassetteClear tag [cassette])

/-- BIN_RESET (R119). -/
def execBinReset (slot : SlotId) (tag bin : Word) (s : State) : Result :=
  s.onBus (Wall.place servicePage slot .binReset tag [bin])

/-- PATH_RESET (R38). -/
def execPathReset (slot : SlotId) (tag mechanism : Word) (s : State) : Result :=
  s.onBus (Wall.place servicePage slot .pathReset tag [mechanism])

/-- ZONE_ARM (R151). -/
def execZoneArm (slot : SlotId) (tag zone : Word) (s : State) : Result :=
  s.onBus (Wall.place servicePage slot .zoneArm tag [zone])

/-- ZONE_DISARM (R151). -/
def execZoneDisarm (slot : SlotId) (tag zone : Word) (s : State) : Result :=
  s.onBus (Wall.place servicePage slot .zoneDisarm tag [zone])

/-- ZONE_RESET (R152). -/
def execZoneReset (slot : SlotId) (tag zone : Word) (s : State) : Result :=
  s.onBus (Wall.place servicePage slot .zoneReset tag [zone])

/-- LOCKDOWN_CLEAR (R155). -/
def execLockdownClear (slot : SlotId) (tag : Word) (s : State) : Result :=
  s.onBus (Wall.place servicePage slot .lockdownClear tag [])

/-- HOLD_WALL (R176). -/
def execHoldWall (slot : SlotId) (tag : Word) (s : State) : Result :=
  s.onBus (Wall.place servicePage slot .holdWall tag [])

/-- RELEASE_WALL (R176). -/
def execReleaseWall (slot : SlotId) (tag : Word) (s : State) : Result :=
  s.onBus (Wall.place servicePage slot .releaseWall tag [])

/-- PROFILE_COMMIT (R174). -/
def execProfileCommit (slot : SlotId) (tag : Word) (s : State) : Result :=
  s.onBus (Wall.place servicePage slot .profileCommit tag [])

/-- PROFILE_LOAD (R172). -/
def execProfileLoad (slot : SlotId) (tag : Word) (s : State) : Result :=
  s.onBus (Wall.place servicePage slot .profileLoad tag [])

/-- CLOCK_SET (R179). -/
def execClockSet (slot : SlotId) (tag high low : Word) (s : State) : Result :=
  s.onBus (Wall.place servicePage slot .clockSet tag [high, low])

end Sys2Proof.Machine
end

