-- ==== Sys2Proof/Machine/PathEvents.lean ====
section
/-! DEFINITION. The meanings of the events of the note path and of the conveyor (chapters 4 to 7). A step of the part itself (a pick, a re-mix, a delivery, a
purge, a sweep's end) whose conditions do not hold changes nothing (log 20). -/

namespace Sys2Proof.Machine

/-- Do `f` with a lane, cassette or dump where there is one. -/
def Wall.whenSome {α : Type} (x : Option α) (f : α → Wall → Wall) (w : Wall) : Wall :=
  match x with
  | some a => f a w
  | none => w

/-! ### The gate (chapter 4) -/

/-- A trailing edge at the gate: the passage in the gate, if there is one, is decided; presence is clear, and the gap counter starts at 0 (R67, R68). The piece may
be one whose passage a fault or a reset has closed. The edge comes before the settlement, so that a grant which the settlement brings finds the gate as R85 says. -/
def Wall.trailing (w : Wall) : Wall :=
  (((w.modGate fun g => { g with presence := false, gapCounter := some 0 }).closePassage false true).modGate fun g =>
    { g with inPassage := false }).checkEnding

/-- A miss, where the oldest open pick is due (R70). -/
def Wall.missed (w : Wall) : Wall := if w.gate.missDue then w.declareMiss.checkEnding else w

/-- Encoder loss, where the motor is driven (R79). -/
def Wall.encoderLost (w : Wall) : Wall := if w.beltDriven then w.transportFault false else w

/-- PICK_RELEASE (R93). -/
def execPickRelease (s : State) : Result := s.onWall fun w => w.whenSome w.readyPick Wall.releasePick

/-- LEADING_EDGE (R67). -/
def execLeadingEdge (s : State) : Result := s.onWall Wall.gateLeading

/-- TRAILING_EDGE (R67). -/
def execTrailingEdge (s : State) : Result := s.onWall fun w => w.trailing.evaluate

/-- MISS (R70). -/
def execMiss (s : State) : Result := s.onWall fun w => w.missed.evaluate

/-- DIVERTER_LEADING_EDGE (R75). -/
def execDiverterLeadingEdge (s : State) : Result := s.onWall fun w => w.diverterLeading.checkEnding.evaluate

/-- DIVERTER_TRAILING_EDGE (R75): the spring returns the flap to REJECT. -/
def execDiverterTrailingEdge (s : State) : Result := s.onWall (Wall.modGate fun g => { g with flapStacker := false })

/-- ENCODER_LOSS (R79). -/
def execEncoderLoss (s : State) : Result := s.onWall fun w => w.encoderLost.evaluate

/-- ENCODER_RESTORED (R79). -/
def execEncoderRestored (s : State) : Result := s.onWall Wall.endLoss

/-- ENCODER_RISING_EDGE (R67). -/
def execEncoderRisingEdge (sample : BitVec 10) (s : State) : Result := s.onWall (Wall.pulse sample.toNat)

/-! ### The transport (chapter 5) -/

/-- The lane whose delivery goes on: it stands where it is in hold and while the drawer is forced (R95, R10, R103). -/
def Wall.runningDelivery (w : Wall) : Option LaneId := w.deliveringLane.filter fun n => !w.held && !(w.lanes.get n).forced

/-- A delivery overruns its budget (R95). -/
def Wall.deliveryOverruns (item : Bool) (w : Wall) : Wall :=
  w.whenSome w.runningDelivery fun n w =>
    (w.modLane n fun l => { l with itemSensor := item }).transportFault true

/-- The dump in progress, unless hold stops it (R97). -/
def Wall.runningDump (w : Wall) : Option Dump := if w.held then none else w.transport.dump

/-- The belt of a clearance stops and the stacker dumps (R99). -/
def Wall.startClearanceDump (w : Wall) : Wall :=
  w.modTransport fun t => { t with dump := some { purpose := .clearance, leftMs := 1500 } }

/-- EXIT_LEADING_EDGE (R90). -/
def execExitLeadingEdge (s : State) : Result := s.onWall fun w => w.exitEdge.evaluate

/-- TRANSPORT_JAM (R90, R103). -/
def execTransportJam (s : State) : Result :=
  s.onWall fun w => if w.jamDue then (w.transportFault true).evaluate else w

/-- REMIX (R59). -/
def execRemix (s : State) : Result := s.onWall fun w => (w.whenSome w.nextRemix Wall.remixLane).evaluate

/-- DELIVERY_START (R95). -/
def execDeliveryStart (s : State) : Result := s.onWall fun w => w.whenSome w.readyDelivery Wall.startDelivery

/-- DELIVERY_END (R95). -/
def execDeliveryEnd (s : State) : Result := s.onWall fun w => (w.whenSome w.runningDelivery Wall.endDelivery).evaluate

/-- DELIVERY_OVERRUN (R95). -/
def execDeliveryOverrun (item : Bool) (s : State) : Result := s.onWall fun w => (w.deliveryOverruns item).evaluate

/-- PURGE_START (R97). -/
def execPurgeStart (s : State) : Result := s.onWall fun w => w.whenSome w.readyPurge Wall.startPurge

/-- PURGE_END (R97). -/
def execPurgeEnd (s : State) : Result := s.onWall fun w => (w.whenSome w.runningDump Wall.endDump).evaluate

/-- CLEARANCE_BELT_END (R99). -/
def execClearanceBeltEnd (s : State) : Result := s.onWall fun w => if w.beltCleared then w.startClearanceDump else w

/-! ### The retract (chapter 6) -/

/-- SWEEP_END (R110). -/
def execSweepEnd (s : State) : Result := s.onWall fun w => w.whenSome w.readySweepEnd Wall.endSweep

/-- SWEEP_STALL (R111). -/
def execSweepStall (s : State) : Result := s.onWall fun w => (w.whenSome w.readyStall Wall.stallSweep).evaluate

/-- RETRACT_END (R110). -/
def execRetractEnd (s : State) : Result := s.onWall fun w => (w.whenSome w.readyRetractEnd Wall.endRetract).evaluate

/-! ### The conveyor (chapter 7) -/

/-- The lane whose carry budget runs (R130, R137). -/
def Wall.carryingLane (w : Wall) : Option LaneId :=
  if w.conveyor.state = .carrying ∧ w.held = false then w.conveyor.carried else none

/-- A clearance of the conveyor runs (R132, R137). -/
def Wall.conveyorClears (w : Wall) : Bool := w.conveyor.state == .clearing && !w.held

/-- SERVING_EVALUATION (R130). -/
def execServingEvaluation (s : State) : Result := s.onWall fun w => w.whenSome w.readyServe Wall.serve

/-- CONVEYOR_EXIT (R130). -/
def execConveyorExit (s : State) : Result := s.onWall fun w => w.conveyorExit.evaluate

/-- CARRY_OVERRUN (R131). -/
def execCarryOverrun (s : State) : Result := s.onWall fun w => (w.whenSome w.carryingLane Wall.overrunCarry).evaluate

/-- CONVEYOR_CLEARANCE_END (R132). -/
def execConveyorClearanceEnd (s : State) : Result :=
  s.onWall fun w => if w.conveyorClears then w.endConveyorClearance.evaluate else w

end Sys2Proof.Machine
end

