-- ==== Sys2Proof/Machine/Dispatch.lean ====
section
/-! DEFINITION. exec: one arm per command, each a direct call of the command's meaning. -/

namespace Sys2Proof.Machine

/-- The effect of a command on everything but the queue of waiting commands. -/
def exec (i : Instr) (s : State) : Host.Outcome State Fault Refusal :=
  match i with
  | .powerOn inputs => Sys2Proof.Machine.execPowerOn inputs s
  | .hostWrite addr value => Sys2Proof.Machine.execHostWrite addr value s
  | .postingEvent page slot => Sys2Proof.Machine.execPostingEvent page slot s
  | .giveBack page slot => Sys2Proof.Machine.execGiveBack page slot s
  | .orderBodyWrite page slot word value => Sys2Proof.Machine.execOrderBodyWrite page slot word value s
  | .flagSetAlias k mask => Sys2Proof.Machine.execFlagSetAlias k mask s
  | .flagClearAlias k mask => Sys2Proof.Machine.execFlagClearAlias k mask s
  | .entrySeen entry => Sys2Proof.Machine.execEntrySeen entry s
  | .entryFree entry => Sys2Proof.Machine.execEntryFree entry s
  | .counterHighRead counter => Sys2Proof.Machine.execCounterHighRead counter s
  | .counterLowRead counter => Sys2Proof.Machine.execCounterLowRead counter s
  | .run => Sys2Proof.Machine.execRun s
  | .halt => Sys2Proof.Machine.execHalt s
  | .wallReset runBit => Sys2Proof.Machine.execWallReset runBit s
  | .attentionMaskWrite value => Sys2Proof.Machine.execAttentionMaskWrite value s
  | .dispense lane slot tag mode amount count0 count1 count2 count3 => Sys2Proof.Machine.execDispense lane slot tag mode amount count0 count1 count2 count3 s
  | .retract lane slot tag => Sys2Proof.Machine.execRetract lane slot tag s
  | .deposit lane slot tag => Sys2Proof.Machine.execDeposit lane slot tag s
  | .capture lane slot tag => Sys2Proof.Machine.execCapture lane slot tag s
  | .returnOrder lane slot tag => Sys2Proof.Machine.execReturnOrder lane slot tag s
  | .laneOpen lane slot tag => Sys2Proof.Machine.execLaneOpen lane slot tag s
  | .laneClose lane slot tag => Sys2Proof.Machine.execLaneClose lane slot tag s
  | .countSet slot tag cassette loaded => Sys2Proof.Machine.execCountSet slot tag cassette loaded s
  | .cassetteClear slot tag cassette => Sys2Proof.Machine.execCassetteClear slot tag cassette s
  | .binReset slot tag bin => Sys2Proof.Machine.execBinReset slot tag bin s
  | .pathReset slot tag mechanism => Sys2Proof.Machine.execPathReset slot tag mechanism s
  | .zoneArm slot tag zone => Sys2Proof.Machine.execZoneArm slot tag zone s
  | .zoneDisarm slot tag zone => Sys2Proof.Machine.execZoneDisarm slot tag zone s
  | .zoneReset slot tag zone => Sys2Proof.Machine.execZoneReset slot tag zone s
  | .lockdownClear slot tag => Sys2Proof.Machine.execLockdownClear slot tag s
  | .holdWall slot tag => Sys2Proof.Machine.execHoldWall slot tag s
  | .releaseWall slot tag => Sys2Proof.Machine.execReleaseWall slot tag s
  | .profileCommit slot tag => Sys2Proof.Machine.execProfileCommit slot tag s
  | .profileLoad slot tag => Sys2Proof.Machine.execProfileLoad slot tag s
  | .clockSet slot tag high low => Sys2Proof.Machine.execClockSet slot tag high low s
  | .programmingEnd => Sys2Proof.Machine.execProgrammingEnd s
  | .callButtonPress lane => Sys2Proof.Machine.execCallButtonPress lane s
  | .sendButtonPress lane => Sys2Proof.Machine.execSendButtonPress lane s
  | .extendedSensorReached lane => Sys2Proof.Machine.execExtendedSensorReached lane s
  | .stowedSensorReached lane => Sys2Proof.Machine.execStowedSensorReached lane s
  | .drawerObstruction lane => Sys2Proof.Machine.execDrawerObstruction lane s
  | .obstructionCleared lane => Sys2Proof.Machine.execObstructionCleared lane s
  | .itemSensorChange lane present => Sys2Proof.Machine.execItemSensorChange lane present s
  | .clearWindowExpiry lane => Sys2Proof.Machine.execClearWindowExpiry lane s
  | .takeTimerExpiry lane => Sys2Proof.Machine.execTakeTimerExpiry lane s
  | .depositTimerExpiry lane => Sys2Proof.Machine.execDepositTimerExpiry lane s
  | .travelBudgetOverrun lane => Sys2Proof.Machine.execTravelBudgetOverrun lane s
  | .liftComplete lane => Sys2Proof.Machine.execLiftComplete lane s
  | .liftOverrun lane envelope item => Sys2Proof.Machine.execLiftOverrun lane envelope item s
  | .drawerForced lane => Sys2Proof.Machine.execDrawerForced lane s
  | .forcedMarkCleared lane => Sys2Proof.Machine.execForcedMarkCleared lane s
  | .cassetteRemoval cassette => Sys2Proof.Machine.execCassetteRemoval cassette s
  | .cassetteInsertion cassette => Sys2Proof.Machine.execCassetteInsertion cassette s
  | .pickRelease => Sys2Proof.Machine.execPickRelease s
  | .leadingEdge => Sys2Proof.Machine.execLeadingEdge s
  | .trailingEdge => Sys2Proof.Machine.execTrailingEdge s
  | .miss => Sys2Proof.Machine.execMiss s
  | .diverterLeadingEdge => Sys2Proof.Machine.execDiverterLeadingEdge s
  | .diverterTrailingEdge => Sys2Proof.Machine.execDiverterTrailingEdge s
  | .encoderLoss => Sys2Proof.Machine.execEncoderLoss s
  | .encoderRestored => Sys2Proof.Machine.execEncoderRestored s
  | .exitLeadingEdge => Sys2Proof.Machine.execExitLeadingEdge s
  | .transportJam => Sys2Proof.Machine.execTransportJam s
  | .remix => Sys2Proof.Machine.execRemix s
  | .deliveryStart => Sys2Proof.Machine.execDeliveryStart s
  | .deliveryEnd => Sys2Proof.Machine.execDeliveryEnd s
  | .deliveryOverrun item => Sys2Proof.Machine.execDeliveryOverrun item s
  | .purgeStart => Sys2Proof.Machine.execPurgeStart s
  | .purgeEnd => Sys2Proof.Machine.execPurgeEnd s
  | .clearanceBeltEnd => Sys2Proof.Machine.execClearanceBeltEnd s
  | .sweepEnd => Sys2Proof.Machine.execSweepEnd s
  | .sweepStall => Sys2Proof.Machine.execSweepStall s
  | .retractEnd => Sys2Proof.Machine.execRetractEnd s
  | .holdLimitExpiry lane => Sys2Proof.Machine.execHoldLimitExpiry lane s
  | .servingEvaluation => Sys2Proof.Machine.execServingEvaluation s
  | .conveyorExit => Sys2Proof.Machine.execConveyorExit s
  | .carryOverrun => Sys2Proof.Machine.execCarryOverrun s
  | .conveyorClearanceEnd => Sys2Proof.Machine.execConveyorClearanceEnd s
  | .rawInputChange point => Sys2Proof.Machine.execRawInputChange point s
  | .liveChange point => Sys2Proof.Machine.execLiveChange point s
  | .entryDelayExpiry zone => Sys2Proof.Machine.execEntryDelayExpiry zone s
  | .sirenTimerExpiry zone => Sys2Proof.Machine.execSirenTimerExpiry zone s
  | .holdLineOn => Sys2Proof.Machine.execHoldLineOn s
  | .holdLineOff => Sys2Proof.Machine.execHoldLineOff s
  | .wallSecond => Sys2Proof.Machine.execWallSecond s
  | .encoderRisingEdge sample => Sys2Proof.Machine.execEncoderRisingEdge sample s
  | .hostRead addr => Sys2Proof.Machine.execHostRead addr s
  | .supplyFailure => Sys2Proof.Machine.execSupplyFailure s

end Sys2Proof.Machine
end

