-- ==== Sys2Proof/Machine/Idle.lean ====
section
/-! DEFINITION. What the part does on its own when no command waits (log 3): which of its own steps and expiries is due, and 10 ms of its running timers. -/

namespace Sys2Proof.Machine

/-! ### What is due -/

/-- A command if it is due. -/
def whenDue (b : Bool) (c : Instr) : List Instr := if b then [c] else []

/-- The steps of the part that wait for a condition alone. -/
def Wall.dueSteps (w : Wall) : List Instr :=
  whenDue w.nextRemix.isSome .remix ++ whenDue w.readyPurge.isSome .purgeStart ++ whenDue w.readyDelivery.isSome .deliveryStart
    ++ whenDue w.readyPick.isSome .pickRelease ++ whenDue w.gate.missDue .miss ++ whenDue w.jamDue .transportJam
    ++ whenDue w.readySweepEnd.isSome .sweepEnd ++ whenDue w.readyStall.isSome .sweepStall ++ whenDue w.readyRetractEnd.isSome .retractEnd
    ++ whenDue w.beltCleared .clearanceBeltEnd ++ whenDue w.readyServe.isSome .servingEvaluation

/-- A lane's lift runs its budget (R9, R10, R19). -/
def Wall.lifting (w : Wall) (n : LaneId) : Bool := (w.lanes.get n).drawer == .lifting && !w.held && !(w.lanes.get n).forced

/-- A lane's delivery runs its budget (R95, R10, R103). -/
def Wall.delivering (w : Wall) (n : LaneId) : Bool := w.runningDelivery == some n

/-- The expiries of a lane's timers and budgets. -/
def Wall.dueLane (w : Wall) (n : LaneId) : List Instr :=
  let l := w.lanes.get n
  whenDue (w.offering n .take && l.window == some 0) (.clearWindowExpiry n)
    ++ whenDue (w.offering n .take && l.timerMs == 0) (.takeTimerExpiry n)
    ++ whenDue (w.offering n .deposit && l.timerMs == 0) (.depositTimerExpiry n)
    ++ whenDue (w.drawerDriven n && l.budgetMs == 0) (.travelBudgetOverrun n)
    ++ whenDue (w.lifting n && l.budgetMs == 0) (.liftOverrun n l.envelopeSensor l.itemSensor)
    ++ whenDue (w.delivering n && w.engine.deliveryMs == 0) (.deliveryOverrun l.itemSensor)
    ++ whenDue (w.holdLimitRuns n && l.pocket.holdMs == 0) (.holdLimitExpiry n)

/-- The expiries of the path, the conveyor and the programming. -/
def Wall.duePath (w : Wall) : List Instr :=
  whenDue ((w.runningDump.map Dump.leftMs) == some 0) .purgeEnd
    ++ whenDue (!w.held && (w.profile.programming.map Programming.leftMs) == some 0) .programmingEnd
    ++ whenDue (w.carryingLane.isSome && w.conveyor.carryMs == 0) .carryOverrun
    ++ whenDue (w.conveyorClears && w.conveyor.clearMs == 0) .conveyorClearanceEnd
    ++ whenDue (w.beltDriven && decide (50 ≤ w.transport.silentMs)) .encoderLoss

/-- The external points. -/
def externalIds : List (Fin 12) := [0, 1, 2, 3, 4, 5, 6, 7, 8, 9, 10, 11]

/-- The expiries of the Alarm Unit and the second timer. -/
def Wall.dueAlarm (w : Wall) : List Instr :=
  externalIds.flatMap (fun p =>
      let x := w.points.get (p.castLE (by decide))
      whenDue (x.candidate != x.live && decide (10 * x.debounce ≤ x.stableMs)) (.liveChange p))
    ++ zoneIds.flatMap (fun z =>
      let x := w.zones.get z
      whenDue (x.state == .entryDelay && x.entryMs == 0) (.entryDelayExpiry z) ++ whenDue (x.sirenMs == some 0) (.sirenTimerExpiry z))
    ++ whenDue (decide (1000 ≤ w.port.secondMs)) .wallSecond

/-- The first of the part's own steps and expiries that is due. -/
def Wall.dueCommand (w : Wall) : Option Instr := (w.dueSteps ++ laneIds.flatMap w.dueLane ++ w.duePath ++ w.dueAlarm).head?

/-! ### Ten milliseconds -/

/-- A time that has 10 ms less to run. -/
def less (run : Bool) (t : Nat) : Nat := if run then t - 10 else t

/-- 10 ms of a lane's timers and budgets. -/
def Wall.tickLane (w : Wall) (n : LaneId) (l : Lane) : Lane :=
  let offered := l.drawer == .offered && !w.held
  { l with timerMs := less offered l.timerMs, window := if offered then l.window.map fun t => t - 10 else l.window,
           budgetMs := less (w.drawerDriven n || w.lifting n) l.budgetMs,
           pocket := { l.pocket with holdMs := less (w.holdLimitRuns n) l.pocket.holdMs } }

/-- 10 ms of a zone's timers, which run through hold (R147, R149). -/
def Zone.tick (z : Zone) : Zone := { z with entryMs := less (z.state == .entryDelay) z.entryMs, sirenMs := z.sirenMs.map fun t => t - 10 }

/-- 10 ms of an external point's stable time (R140). -/
def Point.tick (p : PointId) (x : Point) : Point := if p.val < 12 then { x with stableMs := x.stableMs + 10 } else x

/-- 10 ms of every running timer of the wall. -/
def Wall.tick (w : Wall) : Wall :=
  let running := !w.held
  { w with
      lanes := tabMap w.lanes w.tickLane, zones := tabMap w.zones fun _ z => z.tick, points := tabMap w.points Point.tick,
      transport :=
        { w.transport with
            dump := w.transport.dump.map fun d => { d with leftMs := less running d.leftMs },
            silentMs := if w.beltDriven then w.transport.silentMs + 10 else 0 },
      engine := { w.engine with deliveryMs := less (laneIds.any w.delivering) w.engine.deliveryMs },
      conveyor :=
        { w.conveyor with
            carryMs := less (w.carryingLane.isSome) w.conveyor.carryMs, clearMs := less w.conveyorClears w.conveyor.clearMs },
      profile :=
        { w.profile with programming := w.profile.programming.map fun g => { g with leftMs := less running g.leftMs } },
      port := { w.port with secondMs := w.port.secondMs + 10 } }

end Sys2Proof.Machine
end

