-- ==== Sys2Proof/Machine/Step.lean ====
section
/-! DEFINITION. The step of the block: the command at the front of the queue runs with the queue's rest; on an empty queue the part's own steps and its
timers run (log 3). -/

namespace Sys2Proof.Machine

/-- The part on its own: a step of its own that is due, or 10 ms of its timers; nothing without supply (log 3, log 19). -/
def idle (s : State) : Host.Outcome State Fault Refusal :=
  if s.supply then
    match s.wall.dueCommand with
    | some c => exec c s
    | none => .next { s with wall := s.wall.tick }
  else .next s

/-- One step of the machine. -/
def step (s : State) : Host.Outcome State Fault Refusal :=
  match s.pending with
  | c :: rest => exec c { s with pending := rest }
  | [] => idle s

/-- `s` with the command that a word of the table spells put at the front of its queue; `s` where the word spells none. -/
def State.withFetchWord (s : State) (nbits w : Nat) : State :=
  match decodeTableWord nbits w with
  | some c => { s with pending := c :: s.pending }
  | none => s

end Sys2Proof.Machine
end

