-- ==== Sys2Proof/Safety.lean ====
section
/-! DEFINITION. What counts as a safe state and a safe run of the wall, in the terms the statements use: the canonical form of the general area, the
board's keys, the posting lists, the reservations, lockdown, the state after the evaluations that end a command, when an order is taken at once, the end of an
order, the host's view of a record, what an internal point that goes ACTIVE makes its zone, the outputs and lockdown do, what a profile load leaves of each
record, what a rejected pick leaves, and the amounts a mix may make up. -/

namespace Sys2Proof.Machine

/-- No two board entries that are not FREE share a key (R164). -/
def Wall.uniqueKeys (w : Wall) : Prop :=
  ∀ a b : Fin 48, (w.board.get a).state ≠ .free → (w.board.get b).state ≠ .free → (w.board.get a).key = (w.board.get b).key → a = b

/-- The general area is in its canonical form (log 12). -/
def State.memoryOk (s : State) : Prop := Memory.wf s.memory = true

/-- A step answers a next state: the GW440 never stops (log 1). -/
def completes (o : Host.Outcome State Fault Refusal) : Prop := ∃ t, o = .next t

/-- It is a law of the device that while any zone whose lockdown flag is set is in ALARM, lockdown is in force (R154). -/
def Wall.lockdownLaw (w : Wall) : Prop := ∀ z : ZoneId, (w.zones.get z).lockdownAlarm = true → w.alarm.lockdown = true

/-- It is a law of the device that each cassette's reference thickness lies within a quarter of its nominal thickness (R78). -/
def Wall.referencesInRange (w : Wall) : Prop :=
  ∀ c : CassId, 3 * w.noteThickness c / 4 ≤ (w.cassettes.get c).tr ∧ (w.cassettes.get c).tr ≤ 5 * w.noteThickness c / 4

/-- Bits 4 to 15 of F1 and of F3 hold nothing (R161), nor do bits 9 to 15 of the Attention Mask (R169). -/
def Wall.reservedClear (w : Wall) : Prop :=
  w.flags.get 1 &&& 0xFFF0#16 = 0#16 ∧ w.flags.get 3 &&& 0xFFF0#16 = 0#16 ∧ w.port.mask &&& 0xFE00#16 = 0#16

/-- It is a law of the device that each page's posting list holds exactly the slots POSTED, ACCEPTED, RUNNING or HELD, each once (R26). -/
def Wall.postingLaw (w : Wall) : Prop :=
  ∀ p : PageId, (w.pages.get p).posting.Nodup ∧ ∀ x, x ∈ (w.pages.get p).posting ↔ (w.slot p x).state.listed = true

/-- From one wall to the next a page's slots that stay listed keep their order, and a slot that joins the list was EMPTY and joins at the tail, at most one of
them in a step (R26). -/
def Wall.postedInOrder (before after : Wall) (p : PageId) : Prop :=
  let old := (before.pages.get p).posting
  let new := (after.pages.get p).posting
  new = old.filter (fun x => new.contains x) ++ new.filter (fun x => !old.contains x)
    ∧ (new.filter fun x => !old.contains x).length ≤ 1 ∧ ∀ x ∈ new, x ∉ old → (before.slot p x).state = .empty

/-- The outstanding counts in the progress area of a lane's unfinished DISPENSE, 0 where the lane has none (R55, R91). -/
def Wall.owed (w : Wall) (n : LaneId) : Counts :=
  (((w.orderOf n .dispense).bind fun x => (w.slot (lanePage n) x).context).map DispenseContext.outstanding).getD Counts.zero

/-- It is a law of the device that reserved equals the sum of the outstanding counts of all accepted, unfinished DISPENSE orders (R55). A lane has at most one of
them (R27), and the counts the engine has loaded for a tenure are those of its progress area (R91). -/
def Wall.reservationLaw (w : Wall) : Prop :=
  (∀ (n : LaneId) (x y : SlotId), (w.slot (lanePage n) x).state.inProgress = true → w.kindAt (lanePage n) x = some .dispense →
    (w.slot (lanePage n) y).state.inProgress = true → w.kindAt (lanePage n) y = some .dispense → x = y)
  ∧ (∀ l ∈ w.engine.loaded, w.orderOf l.lane .dispense = some l.slot
      ∧ (w.slot (lanePage l.lane) l.slot).context.map DispenseContext.outstanding = some l.context.outstanding)
  ∧ ∀ c : CassId, (w.cassettes.get c).reserved = (w.owed 0).get c + (w.owed 1).get c + (w.owed 2).get c + (w.owed 3).get c

/-- Nothing waits to be evaluated: no slot is POSTED, no order waits for a drawer, and no lane is CLOSING. An evaluation then finds nothing to do. -/
def Wall.still (w : Wall) : Bool :=
  (pageIds.all fun p => laneIds.all fun x => !((w.slot p x).state == .posted))
  && laneIds.all fun n => (w.lanes.get n).waiting.isEmpty && !((w.lanes.get n).state == .closing)

/-- The state after at most `k` evaluations (R11, R28, R3). -/
def State.evaluatedFor (k : Nat) (s : State) : State := { s with wall := Wall.evaluateFor k s.wall }

/-- The state after the evaluations that end a command. -/
def State.evaluated (s : State) : State := { s with wall := s.wall.evaluate }

/-- The wall with an order's body written into a slot and the slot posted (R23, R24, R26). -/
def Wall.posted (p : PageId) (x : SlotId) (k : Kind) (tag : Word) (params : List Word) (w : Wall) : Wall :=
  (w.modSlot p x fun y => { y with body := orderBody k tag params }).postSlot p x

/-- An order of a kind, placed in the slot now, is the next thing evaluated, and is taken: the wall has nothing left to evaluate, the slot is EMPTY and waits for no
drawer, taking is enabled (R29), no commit holds its page (R39), no older POSTED slot is on its track, and the track is free, or for a RELEASE WALL occupied by a
HELD order (R28). -/
def Wall.takesNow (w : Wall) (p : PageId) (x : SlotId) (k : Kind) : Bool :=
  w.evaluateOnce.isNone && (w.slot p x).state == .empty && w.takingEnabled && ((laneOf p).isNone || !w.commitRuns)
    && (w.oldestPosted p k.track).isNone && w.trackOpen p k && laneIds.all fun n => !(lanePage n == p) || !((w.lanes.get n).waiting.contains x)

/-- Between two walls the order in a slot has finished, with an outcome decided at the second of the first and the fields of its kind (R25, R32). -/
def Wall.finishedWith (before after : Wall) (p : PageId) (x : SlotId) (e : OrderEnd) (fields : List Word) : Prop :=
  (after.slot p x).state = .finished ∧ (after.slot p x).result = resultWords e (before.slot p x).tooLate before.port.seconds fields

/-- No order that waits for the lane's drawer is on the track of the order in a slot: a track has at most one order in progress (R27). -/
def Wall.waitsElsewhere (w : Wall) (n : LaneId) (x : SlotId) : Prop :=
  ∀ y ∈ (w.lanes.get n).waiting, (w.kindAt (lanePage n) y).map Kind.track ≠ (w.kindAt (lanePage n) x).map Kind.track

/-- The host reads a record's fields from an address on, and 0 after the last of them up to the record's size (R180). -/
def State.shows (s : State) (base size : Nat) (fields : List Word) : Prop :=
  ∀ i, i < size → s.readWord (base + i) = fields.getD i 0#16

/-- The point's zone is SUPERVISORY, so that the point going ACTIVE makes no zone act (R145, R148). -/
def Wall.supervised (w : Wall) (p : PointId) : Prop := (w.zones.get (w.points.get p).zone).mode = .supervisory

/-- The zone goes into ALARM when a member point with the entry-delay flag `delayed` goes ACTIVE (R146, R147, R148): a 24-HOUR zone that is ARMED, or an ARMABLE zone
in ENTRY DELAY whose member has flag 0, or ARMED where the flag is 0 or the zone has no entry delay. -/
def Zone.alarmedBy (x : Zone) (delayed : Bool) : Bool :=
  (x.mode == .always && x.state == .armed)
  || (x.mode == .armable && ((x.state == .entryDelay && !delayed) || (x.state == .armed && (!delayed || x.entryDelay == 0))))

/-- A block that makes the internal point ACTIVE makes a live change that puts the point's zone in ALARM (R141, R144). -/
def Wall.pointAlarms (w : Wall) (p : PointId) : Bool :=
  !(w.points.get p).live && (w.zones.get (w.points.get p).zone).alarmedBy (w.points.get p).entryDelay

/-- The ALARM takes the wall into lockdown (R154). -/
def Wall.pointLocks (w : Wall) (p : PointId) : Bool :=
  w.pointAlarms p && (w.zones.get (w.points.get p).zone).lockdownFlag && !w.lockdown

/-- The zone of an internal point that a block has made ACTIVE (R147, R148, R149): in ALARM, in ENTRY DELAY, or as it was. -/
def Wall.zoneMet (w : Wall) (p : PointId) : Zone :=
  let x := w.zones.get (w.points.get p).zone
  if w.pointAlarms p = true then
    { x with state := .alarm, trigger := some p, alarms := min 255 (x.alarms + 1), entryMs := 0,
             sirenMs := if x.siren = true ∧ 0 < x.sirenTime then some (x.sirenTime * 1000) else none }
  else if (w.points.get p).live = false ∧ x.mode = .armable ∧ x.state = .armed then
    { x with state := .entryDelay, entryMs := x.entryDelay * 1000, trigger := some p }
  else x

/-- The wall with what an internal point posts that a block makes ACTIVE (R149, R154): ZONE ALARM, then LOCKDOWN ON. -/
def Wall.pointNews (w : Wall) (p : PointId) : Wall :=
  let w1 := if w.pointAlarms p then w.post (.zoneAlarm (w.points.get p).zone) p.val else w
  if w.pointLocks p then w1.post .lockdownOn (w.points.get p).zone.val else w1

/-- Between two walls a block has made an internal point ACTIVE: the point's record (R141, R142), its zone (R144, R147, R148, R149), the outputs (R150) and lockdown
(R154), after whose entry no lane is OPEN (R18); no other point and no other zone changes. -/
def Wall.madeActive (before after : Wall) (p : PointId) : Prop :=
  let x := before.points.get p
  after.points.get p =
    (if x.live then x
     else { x with live := true, changes := min 255 (x.changes + 1), alert := x.alert || !x.known, restored := x.restored || (x.alert && x.known) })
  ∧ (∀ q, q ≠ p → after.points.get q = before.points.get q)
  ∧ (∀ z, after.zones.get z = if z = x.zone then before.zoneMet p else before.zones.get z)
  ∧ (before.pointAlarms p = false → after.alarm = before.alarm)
  ∧ (before.pointAlarms p = true → after.alarm.siren = after.sirenCalled ∧ after.alarm.strobe = after.strobeCalled
      ∧ after.alarm.silent = after.silentCalled)
  ∧ after.alarm.lockdown = (before.alarm.lockdown || before.pointLocks p)
  ∧ after.alarm.lockdownZone = (if before.pointLocks p then some x.zone else before.alarm.lockdownZone)
  ∧ after.alarm.lockdownStart = (if before.pointLocks p then before.port.seconds else before.alarm.lockdownStart)
  ∧ (before.pointLocks p = true → ∀ n, (after.lanes.get n).state ≠ .opened)

/-- The transport has faulted and holds nothing: no join, no request, no watched piece, no passage, no open pick, the latch empty, the flap at REJECT
(R98, R80). -/
def Wall.faultedAndClear (w : Wall) : Prop :=
  w.transport.state = .faulted ∧ w.transport.join = .none ∧ w.transport.queue = [] ∧ w.transport.watch = [] ∧ w.gate.inPassage = false
    ∧ w.gate.passages = [] ∧ w.gate.openPicks = [] ∧ w.gate.latch = none ∧ w.gate.flapStacker = false

/-- The state that the remaining test gives a cassette with `left` notes remaining: IN SERVICE and LOW are tested, the other states stand (R48). -/
def Wall.stateLeft (w : Wall) (c : CassId) (left : Nat) : CassetteState :=
  if (w.cassettes.get c).state = .inService ∨ (w.cassettes.get c).state = .low then
    (if left = 0 then .empty else if left ≤ w.lowThreshold c then .low else .inService)
  else (w.cassettes.get c).state

/-- The wall with the profile that a load makes active: the stored one, or the defaults where that fails its check (R172). -/
def Wall.withActive (w : Wall) : Wall :=
  { w with profile := { w.profile with active := if passesCheck w.profile.stored then w.profile.stored else defaultProfile } }

/-- A cassette's record as a new active profile leaves it: the remaining test against its low threshold, and Tr brought into the range about its Tn (R64, R78). -/
def Wall.loadedCassette (w : Wall) (c : CassId) : Cassette :=
  let r := w.cassettes.get c
  { r with state := w.stateLeft c r.remaining, tr := min (5 * w.noteThickness c / 4) (max (3 * w.noteThickness c / 4) r.tr) }

/-- A bin's record as a new active profile leaves it (R120, with the flags of R116). -/
def Wall.loadedBin (w : Wall) (k : BinId) : Bin :=
  let b := w.bins.get k
  { b with capacity := w.binCapacity k, margin := w.binMargin k, nearFull := decide (max 1 (w.binCapacity k - w.binMargin k) ≤ b.count),
           full := decide (w.binCapacity k ≤ b.count) }

/-- A pocket as a new active profile leaves it: where the deposit bin is no longer full, the timer of a stranded HELD pocket is loaded again (R136). -/
def Wall.loadedPocket (w : Wall) (n : LaneId) : Pocket :=
  let p := (w.lanes.get n).pocket
  if (w.bins.get depositBin).full = true ∧ (w.loadedBin depositBin).full = false ∧ p.state = .held ∧ p.stranded = true then
    { p with holdMs := w.holdLimitMs, timerRunning := true, stranded := false }
  else p

/-- A lane's state under the lane lockout mask of a new active profile, before it settles (R4). -/
def Wall.loadedLane (w : Wall) (n : LaneId) : LaneState :=
  let st := (w.lanes.get n).state
  if w.lockedOut n then (if st = .closed then .lockedOut else if st = .opened then .closing else st)
  else if st = .lockedOut then .closed else st

/-- A point as a new active profile leaves it: an external point takes its settings, and a polarity that changes starts its stable time again (step 1 of
R157). -/
def Wall.loadedPoint (w : Wall) (p : PointId) : Point :=
  let x := w.points.get p
  let v := w.pointWord p.val
  if 12 ≤ p.val then x
  else
    { x with polarity := decide (bits v 0 1 = 1), entryDelay := decide (bits v 1 1 = 1), zone := Fin.ofNat 4 (bits v 2 2), debounce := bits v 8 8,
             stableMs := if x.polarity = decide (bits v 0 1 = 1) then x.stableMs else 0 }

/-- The lowest-numbered live ACTIVE member of a zone under the zone fields of a new active profile (R157, R148). -/
def Wall.loadedMember (w : Wall) (z : ZoneId) : Option PointId :=
  pointIds.find? fun p => (w.loadedPoint p).zone == z && (w.points.get p).live

/-- The mode a new active profile gives a zone (R145); that a stored 3 reads as the default is log 9. -/
def Wall.loadedMode (w : Wall) (z : ZoneId) : ZoneMode := if z = 2 then .always else modeOf z (bits (w.zoneWord z) 0 2)

/-- A zone as a new active profile leaves it (steps 2 and 3 of R157, R145): its settings alone where its mode is unchanged; where the mode has changed its starting
state with its timers 0, and a 24-HOUR zone with a live ACTIVE member in ALARM (R148, R149). -/
def Wall.loadedZone (w : Wall) (z : ZoneId) : Zone :=
  let v := w.zoneWord z
  let x :=
    { w.zones.get z with
        mode := w.loadedMode z, entryDelay := bits v 8 8, sirenTime := w.setting (38 + 2 * z.val),
        siren := decide (z ≠ 2) && decide (bits v 2 1 = 1), strobe := decide (z ≠ 2) && decide (bits v 3 1 = 1),
        silent := decide (z = 2) || decide (bits v 4 1 = 1), lockdownFlag := decide (z ≠ 2) && decide (bits v 5 1 = 1) }
  if w.loadedMode z = (w.zones.get z).mode then x
  else
    match w.loadedMember z with
    | some p =>
      if w.loadedMode z = .always then
        { x with state := .alarm, trigger := some p, alarms := min 255 (x.alarms + 1), entryMs := 0,
                 sirenMs := if x.siren = true ∧ 0 < x.sirenTime then some (x.sirenTime * 1000) else none }
      else { x with state := .disarmed, trigger := none, entryMs := 0, sirenMs := none }
    | none =>
      { x with state := if w.loadedMode z = .always then .armed else .disarmed, trigger := none, entryMs := 0, sirenMs := none }

/-- What a cassette posts at a load (R64, R53), on the wall `e`. -/
def Wall.loadedCassetteNews (w : Wall) (c : CassId) (e : Wall) : Wall :=
  let r := w.cassettes.get c
  let new := (w.loadedCassette c).state
  if new = r.state then e
  else if new = .low then e.post (.cassetteLow c) r.remaining
  else if new = .empty then e.post (.cassetteEmpty c) 1
  else e

/-- What a bin posts at a load (R120, R117; the order of the two: log 55), on the wall `e`. -/
def Wall.loadedBinNews (w : Wall) (k : BinId) (e : Wall) : Wall :=
  let b := w.bins.get k
  let e1 := if b.nearFull = false ∧ (w.loadedBin k).nearFull = true then e.post (.binNearFull k) b.count else e
  if b.full = false ∧ (w.loadedBin k).full = true then e1.post (.binFull k) b.count else e1

/-- What a zone posts at a load, on the wall `e`: ZONE CLEARED with detail 3 where a change of its mode takes it out of ALARM, and ZONE ALARM where its new mode
puts it in ALARM (step 3 of R157, R149). -/
def Wall.loadedZoneNews (w : Wall) (z : ZoneId) (e : Wall) : Wall :=
  if w.loadedMode z = (w.zones.get z).mode then e
  else
    let e1 := if (w.zones.get z).state = .alarm then e.post (.zoneCleared z) 3 else e
    match w.loadedMember z with
    | some p => if w.loadedMode z = .always then e1.post (.zoneAlarm z) p.val else e1
    | none => e1

/-- The wall with what a load posts short of an entry of lockdown: PROFILE DEFAULTED where the check fails (R172), then the cassettes, the bins and the zones in their
order (log 64; the zones one by one: log 37). -/
def Wall.loadNews (w : Wall) (cause : Nat) : Wall :=
  let e := if passesCheck w.profile.stored then w else w.post .profileDefaulted cause
  let e1 := cassIds.foldl (fun e c => w.loadedCassetteNews c e) e
  let e2 := binIds.foldl (fun e k => w.loadedBinNews k e) e1
  zoneIds.foldl (fun e z => w.loadedZoneNews z e) e2

/-- Between two walls a load has been made and each block has applied the new active profile (R172): the lanes the lockout mask (R4), the cassettes (R64, R78), the
bins (R120) and the pockets (R136), the points, the zones, the outputs and lockdown (R157, R150). Lockdown comes into force where a zone that is now in ALARM has the flag
(R154; by which of two: log 37), and where none does, nothing else changes but the news and the re-mix waits. -/
def Wall.loadedBy (before after : Wall) (cause : Nat) : Prop :=
  let v := before.withActive
  after.profile = v.profile
  ∧ (∀ c, { after.cassettes.get c with reserved := 0 } = { v.loadedCassette c with reserved := 0 })
  ∧ (∀ k, after.bins.get k = v.loadedBin k)
  ∧ (∀ n, (after.lanes.get n).pocket = v.loadedPocket n)
  ∧ (∀ p, after.points.get p = v.loadedPoint p)
  ∧ (∀ z, after.zones.get z = v.loadedZone z)
  ∧ after.alarm.siren = after.sirenCalled ∧ after.alarm.strobe = after.strobeCalled ∧ after.alarm.silent = after.silentCalled
  ∧ (after.alarm.lockdown = (before.alarm.lockdown || zoneIds.any fun z => (v.loadedZone z).lockdownAlarm))
  ∧ (after.alarm.lockdown = before.alarm.lockdown →
      after.alarm.lockdownZone = before.alarm.lockdownZone ∧ after.alarm.lockdownStart = before.alarm.lockdownStart
      ∧ (∀ n, after.lanes.get n = { before.lanes.get n with state := v.loadedLane n, pocket := v.loadedPocket n })
      ∧ (∀ c, after.cassettes.get c = v.loadedCassette c)
      ∧ after.board = (v.loadNews cause).board ∧ after.lost = (v.loadNews cause).lost
      ∧ ((∀ n, before.contextOf n = none) → after.engine = before.engine)
      ∧ after = { before with lanes := after.lanes, cassettes := after.cassettes, engine := after.engine, bins := after.bins, points := after.points,
                              zones := after.zones, alarm := after.alarm, board := after.board, lost := after.lost, profile := after.profile })
  ∧ (after.alarm.lockdown ≠ before.alarm.lockdown →
      after.alarm.lockdownStart = before.port.seconds ∧ (∀ n, (after.lanes.get n).state ≠ .opened)
      ∧ (∃ z, after.alarm.lockdownZone = some z ∧ (v.loadedZone z).lockdownAlarm = true)
      ∧ ((∀ z, v.loadedMode z = (before.zones.get z).mode) →
        after.alarm.lockdownZone = zoneIds.find? fun z => (v.loadedZone z).lockdownAlarm))

/-- A cassette's record after a pick passage of a class and an estimate (R51, with the remaining test of R48 and the count doubt of R47). -/
def Wall.passageRecord (w : Wall) (c : CassId) (cls : PieceClass) (estimate : Nat) : Cassette :=
  let r := w.cassettes.get c
  let drawn := min 65535 (r.drawn + estimate)
  let rejects := if cls = .single then 0 else min 255 (r.rejects + 1)
  let tested := w.stateLeft c (r.loaded - drawn)
  { r with
      drawn := drawn, doubt := r.doubt || decide (r.loaded < drawn), passages := min 65535 (r.passages + 1), misses := 0, rejects := rejects,
      state := if 4 ≤ rejects ∧ (tested = .inService ∨ tested = .low ∨ tested = .empty) then .suspect else tested }

/-- The wall with what a pick passage of a class and an estimate posts for its cassette (R53): LOW or EMPTY by the remaining test, then SUSPECT. -/
def Wall.passageNews (w : Wall) (c : CassId) (cls : PieceClass) (estimate : Nat) : Wall :=
  let after := w.passageRecord c cls estimate
  let left := after.loaded - after.drawn
  let tested := w.stateLeft c left
  let w1 :=
    if tested = .low ∧ (w.cassettes.get c).state ≠ .low then w.post (.cassetteLow c) left
    else if tested = .empty ∧ (w.cassettes.get c).state ≠ .empty then w.post (.cassetteEmpty c) 1
    else w
  if after.state = .suspect ∧ (w.cassettes.get c).state ≠ .suspect then w1.post (.cassetteSuspect c) left else w1

/-- Between two walls a passage has settled with the route REJECT: its entry is in the trace and the passage total has risen (R76, R82). -/
def Wall.tracedReject (before after : Wall) (x : Passage) (m : Measure) (cls : PieceClass) : Prop :=
  after.gate.passageTotal = min 4294967295 (before.gate.passageTotal + 1)
  ∧ after.gate.trace.get before.gate.traceNext = some
    { seq := x.seq, source := x.source, cls := cls, length := m.length, thickness := m.thickness, gap := x.gap, estimate := m.estimate,
      route := .reject, cut := false }
  ∧ (∀ i, i ≠ before.gate.traceNext → after.gate.trace.get i = before.gate.trace.get i)

/-- Between two walls a pick passage with the route REJECT has been counted: into its cassette's record (R51), and into the order that holds the path, whose
rejected pieces rise by the estimate and whose rejects so far rise by 1 where the class is not SINGLE; beyond the reject limit its end begins, and a bundle being
built takes no further note (R94). A cassette that the passage makes EMPTY or SUSPECT triggers the re-mix of each order that it owes notes to (R58). -/
def Wall.rejectedPick (before after : Wall) (c : CassId) (cls : PieceClass) (estimate : Nat) : Prop :=
  let limit (n : LaneId) (k : DispenseContext) : Prop :=
    before.transport.join = .dispense n ∧ cls ≠ .single ∧ before.rejectLimit < min 255 (k.rejects + 1) ∧ before.endBegun n = false
  let failed : Bool :=
    (after.cassettes.get c).state != (before.cassettes.get c).state
      && ((after.cassettes.get c).state == .empty || (after.cassettes.get c).state == .suspect)
  after.cassettes.get c = before.passageRecord c cls estimate ∧ (∀ d, d ≠ c → after.cassettes.get d = before.cassettes.get d)
  ∧ (∀ n k, before.transport.join = .dispense n → before.contextOf n = some k →
    after.contextOf n = some
      { k with
          rejects := if cls = .single then k.rejects else min 255 (k.rejects + 1),
          endCause := if limit n k then .rejectLimit else k.endCause }
    ∧ after.gate.acceptEnable = if limit n k ∧ k.phase = .building then false else before.gate.acceptEnable)
  ∧ ∀ n k ty, before.contextOf n = some k → before.tallyOf n = some ty → after.tallyOf n = some
    { ty with
        rejected := if before.transport.join = .dispense n then ty.rejected + estimate else ty.rejected,
        remixWait := if limit n k then false
          else ty.remixWait || (failed && decide (0 < k.outstanding.get c) && !before.endBegun n) }

/-- Between two walls a miss has been counted against a cassette (R52): one that is IN SERVICE or LOW and whose misses reach 3 becomes EMPTY, with the count
doubted where it said that notes were left, and CASSETTE EMPTY is posted with detail 2 (R53); each order that it owes notes to then waits for a re-mix, unless
its end has begun (R58). A further miss at 3 counts as the third (log 59). -/
def Wall.missedPick (before after : Wall) (c : CassId) : Prop :=
  let r := before.cassettes.get c
  let dry : Bool := decide (2 ≤ r.misses) && (r.state == .inService || r.state == .low)
  after.cassettes.get c =
    { r with
        misses := min 3 (r.misses + 1), state := if dry then .empty else r.state, doubt := r.doubt || (dry && decide (0 < r.remaining)) }
  ∧ (∀ d, d ≠ c → after.cassettes.get d = before.cassettes.get d)
  ∧ (∀ e, e = (if dry then before.post (.cassetteEmpty c) 2 else before) → after.board = e.board ∧ after.lost = e.lost)
  ∧ (∀ n, before.contextOf n = none → after.tallyOf n = before.tallyOf n)
  ∧ ∀ n k ty, before.contextOf n = some k → before.tallyOf n = some ty → after.tallyOf n = some
    { ty with remixWait := ty.remixWait || (dry && decide (0 < k.outstanding.get c) && !before.endBegun n) }

/-- The counts `v` make up an amount from the usable cassettes within their availabilities, in at most `limit` notes (R56). -/
def Wall.admissible (w : Wall) (amount limit : Nat) (v : Counts) : Prop :=
  w.valueOf v = amount ∧ Counts.total v ≤ limit ∧ ∀ c : CassId, v.get c ≤ if w.usable c then (w.cassettes.get c).availability else 0

/-- The lexicographic order of two lists of counts. -/
def lexLe : List Nat → List Nat → Prop
  | a :: as, b :: bs => a < b ∨ (a = b ∧ lexLe as bs)
  | [], _ => True
  | _ :: _, [] => False

end Sys2Proof.Machine
end

