-- ==== Sys2Proof/WellFormed.lean ====
section
/-! DEFINITION. Which commands are well formed: HOST_WRITE and HOST_READ are the accesses that have no row of their own in the table (R159, R163). Every
other row's operands are bounded by their types, and every value of them is admitted. -/

namespace Sys2Proof

open Sys2Proof.Machine in
/-- A host write of a value to an address has a row of its own: a posting event, a give-back, an order body, a board entry's SEEN or FREE, an alias,
Run Control, the Attention Mask. -/
def writeHasRow (a : Nat) (v : Word) : Bool :=
  match place a with
  | .slotState _ _ => v == 1#16 || v == 0#16
  | .orderBody _ _ _ => true
  | .entryState _ => v.toNat % 4 == 2 || v.toNat % 4 == 0
  | .setAlias _ | .clearAlias _ | .runControl | .attentionMask => true
  | .image _ | .general _ | .nowhere | .slip => false

/-- A host read of an address has a row of its own: a counter's high or low word. -/
def readHasRow (a : Nat) : Bool := Machine.counters.any fun c => Machine.counterAddress c == a || Machine.counterAddress c + 1 == a

/-- The command is well formed. -/
def Instr.wellFormed : Instr → Bool
  | .hostWrite a v => !writeHasRow a.toNat v
  | .hostRead a => !readHasRow a.toNat
  | _ => true

end Sys2Proof
end

