-- ==== Sys2Proof/Certificates/Slice0/Obligations.lean ====
section
/-! DEFINITION. The statements about the machine. OBLIGATIONS.json gives each its title, its tier and the rules of spec/ it formalises. -/

open Sys2Proof Sys2Proof.Machine

/-! ### The queue, the supply, the reset values -/

/-- A step takes the command at the front of the queue and runs it with the queue's rest. On an empty queue (the model's choice: log 3; without supply
log 19) the part runs a command of its own that is due; where none is due no timer or budget that runs stands at 0 (of a lane, the delivery, a dump,
the programming, the conveyor, a zone), no debounce, second or silence of the encoder is complete and no step of the part waits, and 10 ms pass: every
timer, budget and count that runs moves by 10 ms (R14, R6, R19, R123, R95, R97, R79, R130, R140, R147, R179), and nothing else changes. -/
def Obligations.StepRunsTheFrontCommand : Prop :=
  (∀ (c : Instr) (rest : List Instr) (s : State), step { s with pending := c :: rest } = exec c { s with pending := rest })
  ∧ ∀ s : State, s.pending = [] →
    (s.supply = false → step s = .next s)
    ∧ (∀ c, s.supply = true → s.wall.dueCommand = some c → step s = exec c s)
    ∧ (s.supply = true → s.wall.dueCommand = none →
      (∀ n, (s.wall.offering n .take = true ∨ s.wall.offering n .deposit = true → (s.wall.lanes.get n).timerMs ≠ 0)
        ∧ (s.wall.offering n .take = true → (s.wall.lanes.get n).window ≠ some 0)
        ∧ (s.wall.drawerDriven n = true → (s.wall.lanes.get n).budgetMs ≠ 0)
        ∧ ((s.wall.lanes.get n).drawer = .lifting → s.wall.held = false → (s.wall.lanes.get n).forced = false → (s.wall.lanes.get n).budgetMs ≠ 0)
        ∧ (s.wall.runningDelivery = some n → s.wall.engine.deliveryMs ≠ 0)
        ∧ (s.wall.holdLimitRuns n = true → (s.wall.lanes.get n).pocket.holdMs ≠ 0))
      ∧ (∀ d, s.wall.transport.dump = some d → s.wall.held = false → d.leftMs ≠ 0)
      ∧ (∀ g, s.wall.profile.programming = some g → s.wall.held = false → g.leftMs ≠ 0)
      ∧ (∀ n, s.wall.carryingLane = some n → s.wall.conveyor.carryMs ≠ 0)
      ∧ (s.wall.conveyorClears = true → s.wall.conveyor.clearMs ≠ 0)
      ∧ (s.wall.beltDriven = true → s.wall.transport.silentMs < 50)
      ∧ (∀ p : PointId, p.val < 12 → (s.wall.points.get p).candidate ≠ (s.wall.points.get p).live →
        (s.wall.points.get p).stableMs < 10 * (s.wall.points.get p).debounce)
      ∧ (∀ z, ((s.wall.zones.get z).state = .entryDelay → (s.wall.zones.get z).entryMs ≠ 0) ∧ (s.wall.zones.get z).sirenMs ≠ some 0)
      ∧ s.wall.port.secondMs < 1000
      ∧ s.wall.nextRemix = none ∧ s.wall.readyPurge = none ∧ s.wall.readyDelivery = none ∧ s.wall.readyPick = none
      ∧ s.wall.gate.missDue = false ∧ s.wall.jamDue = false ∧ s.wall.readySweepEnd = none ∧ s.wall.readyStall = none
      ∧ s.wall.readyRetractEnd = none ∧ s.wall.beltCleared = false ∧ s.wall.readyServe = none
      ∧ ∃ w, step s = .next { s with wall := w }
        ∧ (∀ n, w.lanes.get n =
          { s.wall.lanes.get n with
              timerMs := if (s.wall.lanes.get n).drawer = .offered ∧ s.wall.held = false then (s.wall.lanes.get n).timerMs - 10
                else (s.wall.lanes.get n).timerMs,
              window := if (s.wall.lanes.get n).drawer = .offered ∧ s.wall.held = false then
                (s.wall.lanes.get n).window.map (fun t => t - 10) else (s.wall.lanes.get n).window,
              budgetMs := if s.wall.drawerDriven n = true
                  ∨ ((s.wall.lanes.get n).drawer = .lifting ∧ s.wall.held = false ∧ (s.wall.lanes.get n).forced = false) then
                (s.wall.lanes.get n).budgetMs - 10 else (s.wall.lanes.get n).budgetMs,
              pocket :=
                { (s.wall.lanes.get n).pocket with
                    holdMs := if s.wall.holdLimitRuns n = true then (s.wall.lanes.get n).pocket.holdMs - 10
                      else (s.wall.lanes.get n).pocket.holdMs } })
        ∧ (∀ z, w.zones.get z =
          { s.wall.zones.get z with
              entryMs := if (s.wall.zones.get z).state = .entryDelay then (s.wall.zones.get z).entryMs - 10 else (s.wall.zones.get z).entryMs,
              sirenMs := (s.wall.zones.get z).sirenMs.map fun t => t - 10 })
        ∧ (∀ p, w.points.get p =
          { s.wall.points.get p with
              stableMs := if p.val < 12 then (s.wall.points.get p).stableMs + 10 else (s.wall.points.get p).stableMs })
        ∧ w.transport =
          { s.wall.transport with
              dump := s.wall.transport.dump.map fun d => { d with leftMs := if s.wall.held then d.leftMs else d.leftMs - 10 },
              silentMs := if s.wall.beltDriven then s.wall.transport.silentMs + 10 else 0 }
        ∧ w.engine =
          { s.wall.engine with
              deliveryMs := if s.wall.runningDelivery.isSome then s.wall.engine.deliveryMs - 10 else s.wall.engine.deliveryMs }
        ∧ w.conveyor =
          { s.wall.conveyor with
              carryMs := if s.wall.carryingLane.isSome then s.wall.conveyor.carryMs - 10 else s.wall.conveyor.carryMs,
              clearMs := if s.wall.conveyorClears then s.wall.conveyor.clearMs - 10 else s.wall.conveyor.clearMs }
        ∧ w.profile =
          { s.wall.profile with
              programming := s.wall.profile.programming.map fun g =>
                { g with leftMs := if s.wall.held then g.leftMs else g.leftMs - 10 } }
        ∧ w.port = { s.wall.port with secondMs := s.wall.port.secondMs + 10 }
        ∧ w = { s.wall with
                  lanes := w.lanes, zones := w.zones, points := w.points, transport := w.transport, engine := w.engine,
                  conveyor := w.conveyor, profile := w.profile, port := w.port })

/-- Every command answers a next state in every state and leaves the queue as it is (the model's choice that the part never stops: log 1); without
supply the part takes no command but POWER_ON (the model's choice: log 19). -/
def Obligations.CommandsLeaveTheQueue : Prop :=
  ∀ (c : Instr) (s : State), (∃ t, exec c s = .next t ∧ t.pending = s.pending)
    ∧ (s.supply = false → (∀ i, c ≠ .powerOn i) → exec c s = .next s)

/-- R44, R21, R65, R83, R106, R121, R138, R148, R158, R166, R170, R172: power-on from any state, for any values of the sensors. The slots, lists,
tracks, flag words and page bits are empty, and taking is not enabled. The active profile is the stored one, or the defaults where that fails its
check (said where no commit is being programmed: log 34). Each lane is CLOSED or LOCKED OUT with its drawer by its sensors; each cassette UNCOUNTED
or ABSENT; the gate, the transport, the conveyor and the dispense engine hold nothing; each bin takes its capacity, margin and door mark; each
pocket is as its envelope sensor shows; the points take their first sample; each zone starts by its mode, a 24-HOUR one in ALARM with its lowest
ACTIVE point where it has one, and lockdown is in force where such a zone has the lockdown flag (which of two it names: log 71); the latch is
disarmed, the port and the board are clear but for PROFILE DEFAULTED (said whole where no zone is in ALARM). The model's choices: its own fields
and the sensors that POWER_ON does not carry (log 7), and the general area's contents (log 12). -/
def Obligations.PowerOnEmptiesTheSlots : Prop :=
  ∀ (i : WallInputs) (s : State), ∃ t, exec (.powerOn i) s = .next t ∧ t.supply = true ∧ t.pending = s.pending
    ∧ t.memory = [] ∧ t.latch = none
    ∧ (∀ p x k, (t.wall.slot p x).word k = 0#16) ∧ (∀ p x, (t.wall.slot p x).state = .empty)
    ∧ (∀ p, (t.wall.pages.get p).posting = []) ∧ (∀ p k, t.wall.occupant p k = none)
    ∧ (∀ k, t.wall.flags.get k = 0#16) ∧ (∀ p, t.wall.pageBit p = false)
    ∧ (∀ w : Wall, w.takingEnabled = (w.port.running && w.port.transportReady && w.port.conveyorReady))
    ∧ t.wall.port =
      { slips := 0, slipTotal := 0#32, seconds := 0#32, secondMs := 0, running := false, startUpMark := true, transportReady := false,
        conveyorReady := false, lineCause := false, orderCause := false, holdStart := 0#32, mask := 0#16 }
    ∧ t.wall.profile.active = (if passesCheck t.wall.profile.stored then t.wall.profile.stored else defaultProfile)
    ∧ t.wall.profile.image = t.wall.profile.stored ∧ t.wall.profile.programming = none
    ∧ (s.wall.profile.programming = none → t.wall.profile.stored = s.wall.profile.stored)
    ∧ (∀ n, t.wall.lanes.get n =
      { state := if t.wall.lockedOut n then .lockedOut else .closed,
        drawer := if i.stowed.get n then (if i.item.get n then .holding else .stowed) else .closing,
        owner := none, waiting := [], bounce := 0, timerMs := 0, duress := false, cycle := .none,
        travel := if i.stowed.get n then .none else .inward, budgetMs := if i.stowed.get n then 0 else 4000,
        window := none, late := false, closeCause := .customer, result := .none, forced := false, shortTimer := false,
        ownerClose := none, obstructed := false, leaving := false, stowedSensor := i.stowed.get n, extendedSensor := false,
        itemSensor := i.item.get n, obstructionSensor := false, envelopeSensor := i.envelope.get n,
        pocket :=
          { state := if i.envelope.get n then .held else .empty, owner := none, holdMs := if i.envelope.get n then t.wall.holdLimitMs else 0,
            timerRunning := false, unknownOrigin := i.envelope.get n, unattended := false, abandoned := false, stranded := false,
            lost := false },
        bundle :=
          { slot := none, notes := 0, phase := .none, dest := .none, pieces := 0, retracted := 0, foreign := 0, toRetract := 0,
            toReject := 0, stalled := none } })
    ∧ (∀ c, t.wall.cassettes.get c =
      { state := if i.cassette.get c then .uncounted else .absent, loaded := 0, drawn := 0, reserved := 0, doubt := false,
        tr := t.wall.noteThickness c, misses := 0, rejects := 0, passages := 0, present := i.cassette.get c })
    ∧ t.wall.gate =
      { inPassage := false, presence := false, source := .clearance, runLength := 0, runPeak := 0, gap := 0, gapCounter := none,
        cut := false, lossSeen := false, nextSeq := 0, openPicks := [], lastPick := none, passages := [], latch := none,
        flapStacker := false, acceptEnable := false, loss := false, passageTotal := 0, traceNext := 0, traceFill := 0,
        trace := Vector.replicate 64 none }
    ∧ t.wall.transport =
      { state := .unknown, join := .none, queue := [], composition := Counts.zero, watch := [], unaccounted := 0, seen := 0,
        presentedTotal := 0#32, exitedEarly := [], dump := none, clearPulses := 0, quiet := 0, sweepFound := .none, silentMs := 0 }
    ∧ t.wall.engine =
      { acceptances := 0, loaded := none, tallies := Vector.replicate 4 none, routedInBundle := 0, lastRelease := none, sinceRelease := 0,
        deliveryMs := 0 }
    ∧ t.wall.conveyor =
      { state := .unknown, queue := [], carried := none, carryMs := 0, clearMs := 0, seen := 0, clearFromFault := false }
    ∧ (∀ k, t.wall.bins.get k =
      { capacity := t.wall.binCapacity k, margin := t.wall.binMargin k, count := 0, nearFull := false, full := false,
        door := (t.wall.points.get (if k = depositBin then 2 else 0)).live, restarted := true })
    ∧ t.wall.depositTotal = 0#32
    ∧ (∀ (p : Fin 12) (q : PointId), q = p.castLE (by decide) → (t.wall.points.get q).raw = i.raw.get p
      ∧ (t.wall.points.get q).live = (t.wall.points.get q).candidate)
    ∧ (∀ q : PointId, 12 ≤ q.val → (t.wall.points.get q).live = false)
    ∧ (∀ q, (t.wall.points.get q).known = (t.wall.points.get q).live ∧ (t.wall.points.get q).alert = false
      ∧ (t.wall.points.get q).restored = false ∧ (t.wall.points.get q).changes = 0 ∧ (t.wall.points.get q).stableMs = 0)
    ∧ (∀ z, (t.wall.zones.get z).mode = t.wall.settingMode z ∧ (t.wall.zones.get z).entryMs = 0
      ∧ ((t.wall.zones.get z).mode ≠ .always ∨ (∀ q, (t.wall.points.get q).zone = z → (t.wall.points.get q).live = false) →
        (t.wall.zones.get z).state = (if (t.wall.zones.get z).mode = .always then .armed else .disarmed)
        ∧ (t.wall.zones.get z).trigger = none ∧ (t.wall.zones.get z).alarms = 0 ∧ (t.wall.zones.get z).sirenMs = none)
      ∧ ∀ q, (t.wall.zones.get z).mode = .always → (t.wall.points.get q).zone = z → (t.wall.points.get q).live = true →
        (∀ p, p < q → (t.wall.points.get p).zone = z → (t.wall.points.get p).live = false) →
        (t.wall.zones.get z).state = .alarm ∧ (t.wall.zones.get z).trigger = some q ∧ (t.wall.zones.get z).alarms = 1
        ∧ (t.wall.zones.get z).sirenMs =
          if (t.wall.zones.get z).siren = true ∧ 0 < (t.wall.zones.get z).sirenTime then some ((t.wall.zones.get z).sirenTime * 1000)
          else none)
    ∧ t.wall.alarm =
      { lockdown := zoneIds.any fun z => (t.wall.zones.get z).lockdownAlarm,
        lockdownZone := zoneIds.find? fun z => (t.wall.zones.get z).lockdownAlarm, lockdownStart := 0#32,
        siren := t.wall.sirenCalled, strobe := t.wall.strobeCalled, silent := t.wall.silentCalled }
    ∧ t.wall.lost = 0
    ∧ (passesCheck t.wall.profile.stored = false → t.wall.board.get 0 =
      { state := .new, key := 58, count := 1, first := 0#16, last := 0#16, detail := 1#16 })
    ∧ (passesCheck t.wall.profile.stored = true → (∀ z, (t.wall.zones.get z).state ≠ .alarm) →
      ∀ e, t.wall.board.get e = { state := .free, key := 0, count := 0, first := 0#16, last := 0#16, detail := 0#16 })


/-- The state right after power-on meets every invariant stated below. -/
def Obligations.ResetMeetsTheInvariants : Prop :=
  State.reset.memoryOk ∧ State.reset.wall.uniqueKeys ∧ State.reset.wall.lockdownLaw ∧ State.reset.wall.referencesInRange
    ∧ State.reset.wall.reservedClear ∧ State.reset.wall.postingLaw ∧ State.reset.wall.reservationLaw

/-! ### Invariants that every step keeps -/

/-- Every step keeps the general area in its canonical form. -/
def Obligations.MemoryStaysCanonical : Prop := ∀ s : State, s.memoryOk → ∀ t, step s = .next t → t.memoryOk

/-- R164: every step keeps the keys of the board entries that are not FREE distinct. -/
def Obligations.BoardKeysStayUnique : Prop := ∀ s : State, s.wall.uniqueKeys → ∀ t, step s = .next t → t.wall.uniqueKeys

/-- R154: every step keeps lockdown in force while a zone that counts for lockdown is in ALARM. -/
def Obligations.LockdownHoldsInAlarm : Prop := ∀ s : State, s.wall.lockdownLaw → ∀ t, step s = .next t → t.wall.lockdownLaw

/-- R78: every step keeps each reference thickness within a quarter of the nominal thickness. -/
def Obligations.ReferenceStaysInRange : Prop :=
  ∀ s : State, s.wall.referencesInRange → ∀ t, step s = .next t → t.wall.referencesInRange

/-- R161, R169: every step keeps the bits of F1, F3 and the Attention Mask that hold nothing at 0. -/
def Obligations.ReservedBitsStayClear : Prop := ∀ s : State, s.wall.reservedClear → ∀ t, step s = .next t → t.wall.reservedClear

/-- R26: every step keeps each page's posting list the slots POSTED, ACCEPTED, RUNNING or HELD, each once, and keeps them in the order of their
posting events: the slots that stay keep their order, and one that joins was EMPTY and joins at the tail. -/
def Obligations.PostingListsStayExact : Prop :=
  ∀ s : State, s.wall.postingLaw → ∀ t, step s = .next t → t.wall.postingLaw ∧ ∀ p, s.wall.postedInOrder t.wall p

/-- R55, R91, R27: every step keeps each cassette's reserved count the sum of the outstanding counts of the accepted, unfinished DISPENSE orders, of
which a lane has at most one, and the outstanding counts that the engine has loaded those of the progress area. -/
def Obligations.ReservationsStayExact : Prop :=
  ∀ s : State, s.wall.reservationLaw → ∀ t, step s = .next t → t.wall.reservationLaw

/-! ### The mix (R56) -/

/-- R56: the listing holds the usable cassettes in descending order of denomination and, among equals, in ascending order of position; the chosen mix
is the lexicographically greatest admissible vector in that order; without one there is no mix, and an AMOUNT order that passes the checks before it
is refused NO MIX. -/
def Obligations.MixIsTheGreatestAdmissible : Prop :=
  ∀ (w : Wall) (amount limit : Nat),
    (∀ c, c ∈ w.mixListing ↔ w.usable c = true)
    ∧ w.mixListing.Pairwise (fun c d => w.denomination d < w.denomination c ∨ (w.denomination d = w.denomination c ∧ c < d))
    ∧ (match w.chooseMix amount limit with
      | some v => w.admissible amount limit v
          ∧ ∀ u, w.admissible amount limit u → lexLe (w.mixListing.map fun c => u.get c) (w.mixListing.map fun c => v.get c)
      | none => ∀ u, ¬ w.admissible amount limit u)
    ∧ (∀ (n : LaneId) (x : Slot), x.param 0 = 0 → w.lockdown = false → (w.lanes.get n).state = .opened → w.transport.state ≠ .faulted →
        (w.bins.get rejectBin).full = false → (w.lanes.get n).drawer ≠ .jammed → (w.lanes.get n).leftHolding = false →
        w.checkDispense n x = if (w.chooseMix (x.param 1) w.noteLimit).isSome then none else some .noMix)

/-! ### The host bus -/

/-- R159, R160, R161: what a host write does by its address: the general area and the profile image store the word, a discarded write is a slip, a
write to no word does nothing. The four clauses' addresses do not overlap; the slip's are the words of a page beside the slots' state words and
bodies, the records and views, the words of a board entry beside its state word, the board header, the flag area, the words with no record below
0x2000, and 0x3FFC and 0x3FFE. A clear alias clears the mask's bits of one flag word and makes no event; a set alias of F3 to F15 sets the mask's
stored bits and makes none. -/
def Obligations.HostWrites : Prop :=
  (∀ (s : State) (a : Addr) (v : Word), s.supply = true →
    (0x1100 ≤ a.toNat ∧ a.toNat < 0x2000 → ∃ t, exec (.hostWrite a v) s = .next t ∧ t.readWord a.toNat = v
        ∧ (∀ b, b ≠ a.toNat → t.readWord b = s.readWord b) ∧ t = { s with latch := none, memory := t.memory })
    ∧ (0x0F00 ≤ a.toNat ∧ a.toNat < 0x0F40 → exec (.hostWrite a v) s = .next
        { s with latch := none,
                 wall := s.wall.modProfile fun p => { p with image := tabSet p.image (Fin.ofNat 64 (a.toNat - 0x0F00)) v } })
    ∧ ((a.toNat < 0x0A00 ∧ (a.toNat % 0x200 < 0x20 ∨ 0x1A0 ≤ a.toNat % 0x200 ∨ 15 ≤ (a.toNat % 0x200 - 0x20) % 0x60))
        ∨ (0x0A00 ≤ a.toNat ∧ a.toNat < 0x0D00) ∨ (0x0D00 ≤ a.toNat ∧ a.toNat < 0x0DC0 ∧ a.toNat % 4 ≠ 0)
        ∨ (0x0DC0 ≤ a.toNat ∧ a.toNat < 0x0F00) ∨ (0x0F40 ≤ a.toNat ∧ a.toNat < 0x1100) ∨ a.toNat = 0x3FFC ∨ a.toNat = 0x3FFE →
      exec (.hostWrite a v) s = .next { s with latch := none, wall := s.wall.slip a.toNat })
    ∧ ((0x2020 ≤ a.toNat ∧ a.toNat < 0x3FFC) ∨ 0x4000 ≤ a.toNat → exec (.hostWrite a v) s = .next { s with latch := none }))
  ∧ ∀ (s : State) (k : Fin 16) (v : Word), s.supply = true →
    exec (.flagClearAlias k v) s = .next { s with latch := none, wall := s.wall.modFlag k fun f => f &&& ~~~v }
    ∧ (3 ≤ k.val →
        exec (.flagSetAlias k v) s = .next { s with latch := none, wall := s.wall.modFlag k fun f => f ||| (v &&& flagMask k) })

/-- R160, R164: a slip raises the slip count and the lifetime total; the one that takes the count from 0 to 1 posts PROTOCOL SLIP with the address as
its detail, and where that post is lost the count returns to 0. A post of any kind is coalesced into the NEW or SEEN entry of its key, which is NEW
after it; without one it fills the lowest FREE entry; without that it raises the lost count alone. -/
def Obligations.SlipCounts : Prop :=
  ∀ (w : Wall),
    (∀ a : Nat,
      (0 < w.port.slips → w.slip a =
        { w with port := { w.port with slips := min 65535 (w.port.slips + 1), slipTotal := w.port.slipTotal + 1#32 } })
      ∧ (w.port.slips = 0 → (w.entryOf 61).isSome ∨ w.freeEntry.isSome →
          (w.slip a).port = { w.port with slips := 1, slipTotal := w.port.slipTotal + 1#32 }
          ∧ ∃ e, ((w.slip a).board.get e).state = .new ∧ ((w.slip a).board.get e).key = 61 ∧ ((w.slip a).board.get e).detail = word a)
      ∧ (w.port.slips = 0 → w.entryOf 61 = none → w.freeEntry = none →
          w.slip a = { w with lost := min 65535 (w.lost + 1), port := { w.port with slipTotal := w.port.slipTotal + 1#32 } }))
    ∧ ∀ (news : News) (detail : Nat),
      (∀ e, w.uniqueKeys → (w.board.get e).state ≠ .free → (w.board.get e).key = news.key →
        w.post news detail =
          { w with board := tabSet w.board e
                     { w.board.get e with
                         state := .new, count := min 255 ((w.board.get e).count + 1), last := lowWord w.port.seconds,
                         detail := word detail } })
      ∧ (∀ e, (∀ d, (w.board.get d).state ≠ .free → (w.board.get d).key ≠ news.key) → (w.board.get e).state = .free →
        (∀ d, d < e → (w.board.get d).state ≠ .free) →
        w.post news detail =
          { w with board := tabSet w.board e
                     { state := .new, key := news.key, count := 1, first := lowWord w.port.seconds, last := lowWord w.port.seconds,
                       detail := word detail } })
      ∧ ((∀ d, (w.board.get d).state ≠ .free ∧ (w.board.get d).key ≠ news.key) →
        w.post news detail = { w with lost := min 65535 (w.lost + 1) })

/-- R23, R24, R26: POSTED written into an EMPTY slot makes it POSTED at the tail of its page's list (while taking is not enabled it stays so: R29);
EMPTY written into a FINISHED or REFUSED slot gives it back with its body kept; a word of the order body is stored while the slot is EMPTY; otherwise
the write is a slip. -/
def Obligations.SlotWrites : Prop :=
  ∀ (s : State) (p : PageId) (x : SlotId), s.supply = true →
    ((s.wall.slot p x).state = .empty → exec (.postingEvent p x) s = .next
      (State.evaluated
        { s with latch := none,
                 wall := (s.wall.modSlot p x fun y => { y with state := .posted }).modPage p fun g => { g with posting := g.posting ++ [x] } }))
    ∧ ((s.wall.slot p x).state ≠ .empty →
        exec (.postingEvent p x) s = .next { s with latch := none, wall := s.wall.slip (slotAddress p x 0) })
    ∧ ((s.wall.slot p x).state = .finished ∨ (s.wall.slot p x).state = .refused →
        exec (.giveBack p x) s = .next
          { s with latch := none, wall := s.wall.modSlot p x fun y => { Slot.reset with body := y.body } })
    ∧ ((s.wall.slot p x).state ≠ .finished → (s.wall.slot p x).state ≠ .refused →
        exec (.giveBack p x) s = .next { s with latch := none, wall := s.wall.slip (slotAddress p x 0) })
    ∧ ∀ (i : Fin 14) (v : Word),
      ((s.wall.slot p x).state = .empty → ∃ t, exec (.orderBodyWrite p x i v) s = .next t ∧ t.latch = none
        ∧ t.wall = { s.wall with pages := t.wall.pages } ∧ (t.wall.slot p x).body.get i = v
        ∧ (∀ j, j ≠ i → (t.wall.slot p x).body.get j = (s.wall.slot p x).body.get j)
        ∧ (t.wall.slot p x).state = .empty ∧ (∀ q, (t.wall.pages.get q).posting = (s.wall.pages.get q).posting)
        ∧ ∀ q y, (q, y) ≠ (p, x) → t.wall.slot q y = s.wall.slot q y)
      ∧ ((s.wall.slot p x).state ≠ .empty → exec (.orderBodyWrite p x i v) s = .next
          { s with latch := none, wall := s.wall.slip (slotAddress p x (i.val + 1)) })

/-- R143: each F2 bit that a set alias changes from 0 to 1 makes its point's known state its live state, clears its alert and restored mark, and is
cleared; every other point and every flag word stays as it was. -/
def Obligations.AcknowledgeEvents : Prop :=
  ∀ (s : State) (v : Word), s.supply = true →
    exec (.flagSetAlias 2 v) s = .next
      { s with latch := none,
               wall := { s.wall with
                           points := tabMap s.wall.points fun p x =>
                             if v.getLsbD p.val && !(s.wall.flags.get 2).getLsbD p.val then
                               { x with known := x.live, alert := false, restored := false }
                             else x } }

/-- R40, R41, R42: a cancel event, by F0 or F1 (one for each bit the write newly sets), for each state of its slot and each kind. A POSTED slot ends
CANCELLED. An order is answered TOO LATE (the mark is set, the bit cleared) where its rule says so, or where it was answered so before: R41's last
paragraph, also for a RETURN that has since come to CAPTURE WAIT, where R135's row accepts a cancel (the model's reading: log 47). Each rule: a
DISPENSE by its phase and end cause (R101), a RETRACT waiting, queued or granted (R115), a DEPOSIT waiting, closed by its owner with the cancel
pending, or lifting (R126, a further cancel merged: R161), a CAPTURE (R133) and a RETURN (R135) waiting or not, a LANE CLOSE (R3) and the service
kinds. The model's choices: a close asked for in CLOSING takes the place of one asked for before (log 43), the result fields of a DEPOSIT or a RETURN
cancelled before its cycle (log 30) and of a RETRACT cancelled before its grant (log 68), and the rising order of page and slot in which several
events of one write act (log 11). -/
def Obligations.CancelEvents : Prop :=
  (∀ (w : Wall) (p : PageId) (x : SlotId), (w.slot p x).state = .posted →
    ((w.cancelEvent p x).slot p x).state = .finished
    ∧ ((w.cancelEvent p x).slot p x).result =
        [word 6, word (markBit 0 (w.slot p x).tooLate), highWord w.port.seconds, lowWord w.port.seconds]
    ∧ ((w.cancelEvent p x).slot p x).body = (w.slot p x).body
    ∧ ((w.cancelEvent p x).pages.get p).posting = (w.pages.get p).posting.filter (fun y => y ≠ x)
    ∧ ((w.cancelEvent p x).flags.get (cancelPlace p x).1).getLsbD (cancelPlace p x).2 = false
    ∧ (∀ q y, (q, y) ≠ (p, x) → (w.cancelEvent p x).slot q y = w.slot q y)
    ∧ w.cancelEvent p x = { w with pages := (w.cancelEvent p x).pages, flags := (w.cancelEvent p x).flags })
  ∧ (∀ (s : State) (p : PageId) (x : SlotId) (v : Word), s.supply = true →
    (v &&& flagMask (cancelPlace p x).1 &&& ~~~(s.wall.flags.get (cancelPlace p x).1) = 1#16 <<< (cancelPlace p x).2 →
      exec (.flagSetAlias (cancelPlace p x).1 v) s = .next
        { s with latch := none,
                 wall := ((s.wall.modFlag (cancelPlace p x).1 fun f => f ||| 1#16 <<< (cancelPlace p x).2).cancelEvent p x).evaluate })
    ∧ (∀ k : Fin 16, k.val < 2 → ∀ new, new = v &&& flagMask k &&& ~~~(s.wall.flags.get k) → exec (.flagSetAlias k v) s = .next
        { s with latch := none,
                 wall := (((pageIds.flatMap fun q => laneIds.map fun y => (q, y)).filter fun y =>
                     decide ((cancelPlace y.1 y.2).1 = k) && new.getLsbD (cancelPlace y.1 y.2).2).foldl
                   (fun w y => w.cancelEvent y.1 y.2) (s.wall.modFlag k fun f => f ||| new)).evaluate })
    ∧ (v &&& flagMask (cancelPlace p x).1 &&& ~~~(s.wall.flags.get (cancelPlace p x).1) = 0#16 →
      exec (.flagSetAlias (cancelPlace p x).1 v) s = .next (State.evaluated { s with latch := none })))
  ∧ (∀ (w : Wall) (p : PageId) (x : SlotId),
    w.refuseCancel p x = (w.modSlot p x fun y => { y with tooLate := true }).clearFlagBit (cancelPlace p x).1 (cancelPlace p x).2
    ∧ ((w.slot p x).state = .empty ∨ (w.slot p x).state = .finished ∨ (w.slot p x).state = .refused →
      w.cancelEvent p x = w.clearFlagBit (cancelPlace p x).1 (cancelPlace p x).2)
    ∧ ((w.slot p x).state.inProgress = true →
      p = servicePage ∨ w.kindAt p x = some .laneClose ∨ (w.slot p x).tooLate = true →
      w.cancelEvent p x = w.refuseCancel p x))
  ∧ ∀ (w : Wall) (n : LaneId) (x : SlotId), (w.slot (lanePage n) x).state.inProgress = true → (w.slot (lanePage n) x).tooLate = false →
    (∀ c ty, w.kindAt (lanePage n) x = some .dispense → w.orderOf n .dispense = some x → w.contextOf n = some c → w.tallyOf n = some ty →
      (c.endCause = .cancel → w.cancelEvent (lanePage n) x = w.clearFlagBit 0 (4 * n.val + x.val))
      ∧ (c.endCause ≠ .cancel → c.endCause ≠ .none ∨ ty.faulted = true ∨ c.phase = .purging →
        w.cancelEvent (lanePage n) x = w.refuseCancel (lanePage n) x)
      ∧ (c.endCause = .none → ty.faulted = false → w.engine.loaded.map Loaded.lane ≠ some n → c.phase = .drawerWait ∨ c.phase = .bundleWait →
        ∃ t, t = w.cancelEvent (lanePage n) x ∧ (t.slot (lanePage n) x).state = .finished
        ∧ (t.slot (lanePage n) x).result.take 4 = resultWords .cancelled false w.port.seconds []
        ∧ (∀ k, (t.cassettes.get k).reserved = (w.cassettes.get k).reserved - c.outstanding.get k) ∧ t.tallyOf n = none
        ∧ (t.lanes.get n).owner ≠ some x ∧ (t.lanes.get n).waiting = (w.lanes.get n).waiting.filter (fun y => y ≠ x)
        ∧ (c.phase = .bundleWait →
          t.transport = { w.transport with queue := w.transport.queue.filter fun r => !(r.lane == n && r.kind == .bundle) })
        ∧ ∀ m, m ≠ n → t.lanes.get m = w.lanes.get m)
      ∧ (c.endCause = .none → ty.faulted = false → c.phase = .delivering ∨ c.phase = .retracting ∨ c.phase = .inDrawer →
        ∃ t, t = w.cancelEvent (lanePage n) x
        ∧ t.contextOf n = some { c with endCause := .cancel } ∧ t.tallyOf n = some { ty with remixWait := false }
        ∧ t.transport = w.transport ∧ t.bins = w.bins ∧ (∀ m, m ≠ n → t.lanes.get m = w.lanes.get m)
        ∧ (c.phase ≠ .inDrawer ∨ (w.lanes.get n).drawer = .stowed ∨ (w.lanes.get n).drawer = .holding → t.lanes = w.lanes)
        ∧ (c.phase = .inDrawer → (w.lanes.get n).drawer = .offered ∨ (w.lanes.get n).drawer = .opening →
          (t.lanes.get n).drawer = .closing ∧ (t.lanes.get n).closeCause = .order ∧ (t.lanes.get n).budgetMs = 4000
          ∧ (t.lanes.get n).timerMs = 0 ∧ (t.lanes.get n).window = none ∧ (t.lanes.get n).ownerClose = some .order)
        ∧ (c.phase = .inDrawer → (w.lanes.get n).drawer = .closing →
          t.lanes.get n = { w.lanes.get n with ownerClose := some .order }))
      ∧ (c.endCause = .none → ty.faulted = false → c.phase = .building → ∀ l, w.engine.loaded = some l → l.lane = n → l.slot = x →
        w.transport.join = .dispense n → w.transport.state = .granted →
        (w.pathSettled = false ∨ 0 < w.transport.stackerCount → ∃ t, t = w.cancelEvent (lanePage n) x
          ∧ t.contextOf n = some { c with endCause := .cancel } ∧ t.tallyOf n = some { ty with remixWait := false }
          ∧ t.gate = { w.gate with acceptEnable := false } ∧ t.transport = w.transport ∧ t.lanes = w.lanes)
        ∧ (w.pathSettled = true → w.transport.stackerCount = 0 → w.transport.queue = [] → ∃ t, t = w.cancelEvent (lanePage n) x
          ∧ (t.slot (lanePage n) x).state = .finished
          ∧ (t.slot (lanePage n) x).result.take 4 = resultWords .cancelled false w.port.seconds []
          ∧ t.transport = { w.transport with state := .idle, join := .none } ∧ t.gate.acceptEnable = false ∧ t.tallyOf n = none)))
    ∧ (w.kindAt (lanePage n) x = some .retract →
      (x ∈ (w.lanes.get n).waiting → ∃ t, t = w.cancelEvent (lanePage n) x ∧ (t.slot (lanePage n) x).state = .finished
        ∧ (t.slot (lanePage n) x).result = resultWords .cancelled false w.port.seconds [0#16, 0#16, 0#16, 0#16, 0#16]
        ∧ (t.lanes.get n).waiting = (w.lanes.get n).waiting.filter (fun y => y ≠ x) ∧ t.transport = w.transport)
      ∧ (x ∉ (w.lanes.get n).waiting → (w.lanes.get n).bundle.phase = .queued ∨ (w.lanes.get n).bundle.phase = .heldBack →
        w.orderOf n .dispense = none → w.orderOf n .retract = some x → (w.lanes.get n).owner = some x →
        ∃ t, t = w.cancelEvent (lanePage n) x ∧ (t.slot (lanePage n) x).state = .finished
        ∧ (t.slot (lanePage n) x).result = resultWords .cancelled false w.port.seconds [0#16, 0#16, 0#16, 0#16, 0#16]
        ∧ (t.lanes.get n).owner = none ∧ (t.lanes.get n).drawer = (w.lanes.get n).drawer ∧ (t.lanes.get n).bundle.phase = .none
        ∧ t.transport = { w.transport with queue := w.transport.queue.filter fun r => !(r.lane == n && r.kind == .retract) })
      ∧ (x ∉ (w.lanes.get n).waiting → (w.lanes.get n).bundle.phase = .sweeping ∨ (w.lanes.get n).bundle.phase = .draining →
        w.cancelEvent (lanePage n) x = w.refuseCancel (lanePage n) x))
    ∧ (w.kindAt (lanePage n) x = some .deposit →
      ((w.lanes.get n).owner ≠ some x → ∃ t, t = w.cancelEvent (lanePage n) x ∧ (t.slot (lanePage n) x).state = .finished
        ∧ (t.slot (lanePage n) x).result =
          resultWords .cancelled false w.port.seconds (depositFields (w.lanes.get n).closeCause .none (w.lanes.get n).pocket.state)
        ∧ (t.lanes.get n).waiting = (w.lanes.get n).waiting.filter (fun y => y ≠ x) ∧ (t.lanes.get n).pocket = (w.lanes.get n).pocket)
      ∧ ((w.lanes.get n).owner = some x → (w.slot (lanePage n) x).cancelPending = true → w.cancelEvent (lanePage n) x = w)
      ∧ ((w.lanes.get n).owner = some x → (w.slot (lanePage n) x).cancelPending = false →
        (w.lanes.get n).drawer = .opening ∨ (w.lanes.get n).drawer = .offered → ∃ t, t = w.cancelEvent (lanePage n) x
        ∧ t.slot (lanePage n) x = { w.slot (lanePage n) x with cancelPending := true } ∧ t.flags = w.flags
        ∧ (t.lanes.get n).drawer = .closing ∧ (t.lanes.get n).closeCause = .order ∧ (t.lanes.get n).budgetMs = 4000
        ∧ (t.lanes.get n).timerMs = 0 ∧ (t.lanes.get n).ownerClose = some .order)
      ∧ ((w.lanes.get n).owner = some x → (w.slot (lanePage n) x).cancelPending = false → (w.lanes.get n).drawer = .closing →
        w.cancelEvent (lanePage n) x =
          (w.modSlot (lanePage n) x fun y => { y with cancelPending := true }).modLane n fun l => { l with ownerClose := some .order })
      ∧ ((w.lanes.get n).owner = some x → (w.slot (lanePage n) x).cancelPending = false → (w.lanes.get n).drawer = .lifting →
        w.cancelEvent (lanePage n) x = w.refuseCancel (lanePage n) x))
    ∧ (w.kindAt (lanePage n) x = some .capture →
      ((w.lanes.get n).pocket.state = .captureWait → ∃ t, t = w.cancelEvent (lanePage n) x ∧ (t.slot (lanePage n) x).state = .finished
        ∧ (t.slot (lanePage n) x).result = resultWords .cancelled false w.port.seconds
          [word (w.bins.get depositBin).count, word (markBit 0 (w.lanes.get n).pocket.unknownOrigin)]
        ∧ (t.lanes.get n).pocket.state = .held ∧ (t.lanes.get n).pocket.owner = none ∧ (t.lanes.get n).pocket.holdMs = w.holdLimitMs
        ∧ (t.lanes.get n).pocket.timerRunning = true
        ∧ t.conveyor = { w.conveyor with queue := w.conveyor.queue.filter fun m => m ≠ n })
      ∧ ((w.lanes.get n).pocket.state ≠ .captureWait → w.cancelEvent (lanePage n) x = w.refuseCancel (lanePage n) x))
    ∧ (w.kindAt (lanePage n) x = some .returnEnvelope →
      ((w.lanes.get n).pocket.state = .captureWait ∨ (w.lanes.get n).pocket.state = .returning ∧ (w.lanes.get n).owner ≠ some x →
        ∃ t, t = w.cancelEvent (lanePage n) x ∧ (t.slot (lanePage n) x).state = .finished
        ∧ (t.slot (lanePage n) x).result = resultWords .cancelled false w.port.seconds
          (w.returnFields (if (w.lanes.get n).pocket.state = .captureWait then .left else .none))
        ∧ (t.lanes.get n).pocket.state = .held ∧ (t.lanes.get n).pocket.owner = none ∧ (t.lanes.get n).pocket.abandoned = false
        ∧ (t.lanes.get n).pocket.holdMs = w.holdLimitMs ∧ (t.lanes.get n).pocket.timerRunning = true
        ∧ (t.lanes.get n).waiting = (w.lanes.get n).waiting.filter (fun y => y ≠ x)
        ∧ ((w.lanes.get n).pocket.state = .captureWait →
          t.conveyor = { w.conveyor with queue := w.conveyor.queue.filter fun m => m ≠ n })
        ∧ ((w.lanes.get n).pocket.state = .returning → t.conveyor = w.conveyor))
      ∧ ((w.lanes.get n).pocket.state ≠ .captureWait → (w.lanes.get n).owner = some x →
        w.cancelEvent (lanePage n) x = w.refuseCancel (lanePage n) x))
    ∧ (¬(w.kindAt (lanePage n) x = some .deposit ∧ (w.lanes.get n).owner = some x) →
      ((w.cancelEvent (lanePage n) x).flags.get 0).getLsbD (4 * n.val + x.val) = false)

/-- R165, R160 (the state value is bits 0 and 1 of the word: R181): SEEN written into a NEW entry marks it; FREE written into a NEW or SEEN entry
zeroes it, and the slip count with it where it was PROTOCOL SLIP's; otherwise, and with any other value, the write is a slip. -/
def Obligations.BoardEntryWrites : Prop :=
  ∀ (s : State) (e : Fin 48), s.supply = true →
    ((s.wall.board.get e).state = .new → exec (.entrySeen e) s = .next
        { s with latch := none, wall := { s.wall with board := tabMod s.wall.board e fun x => { x with state := .seen } } })
    ∧ ((s.wall.board.get e).state ≠ .new → exec (.entrySeen e) s = .next { s with latch := none, wall := s.wall.slip (entryAddress e) })
    ∧ ((s.wall.board.get e).state ≠ .free → exec (.entryFree e) s = .next
        { s with latch := none,
                 wall := { s.wall with
                             board := tabSet s.wall.board e Entry.blank,
                             port := if (s.wall.board.get e).key = 61 then { s.wall.port with slips := 0 } else s.wall.port } })
    ∧ ((s.wall.board.get e).state = .free → exec (.entryFree e) s = .next { s with latch := none, wall := s.wall.slip (entryAddress e) })
    ∧ ∀ v : Word,
      (v.toNat % 4 = 2 → exec (.hostWrite (BitVec.ofNat 15 (entryAddress e)) v) s = exec (.entrySeen e) s)
      ∧ (v.toNat % 4 = 0 → exec (.hostWrite (BitVec.ofNat 15 (entryAddress e)) v) s = exec (.entryFree e) s)
      ∧ (v.toNat % 4 = 1 ∨ v.toNat % 4 = 3 → exec (.hostWrite (BitVec.ofNat 15 (entryAddress e)) v) s = .next
          { s with latch := none, wall := s.wall.slip (entryAddress e) })

/-- R159, R163, R168, R180, 11.1 to 11.4: a read of a word that is no counter's shows the word and disarms the latch; a counter's low word read next
after its high word belongs to the same value, whatever the part has done in between, and is the live one with the latch not armed for it. Each word
by its address: the lane, drawer, escrow and bundle records of the pages and their slots, the cassette, gate, transport, conveyor, bin, point, zone,
alarm status and port records, the board and its lost count, the flag words and their aliases, the profile's image and active view, the gate trace,
the general area and the registers, with 0 in the words of no record; and the codes of the named values. R180 leaves the place of a few fields open:
the lists' widths, an empty list's oldest number, the join, the latch, a request's code and the sets are the model's (log 10). -/
def Obligations.HostReads : Prop :=
  (∀ (s : State), s.supply = true →
    (∀ (c : Counter), ∃ t, exec (.counterHighRead c) s = .next t ∧ t.busData = highWord (s.wall.counter c) ∧ t.wall = s.wall
      ∧ t.memory = s.memory ∧ ∀ w : Wall, exec (.counterLowRead c) { t with wall := w } = .next
          { t with wall := w, busData := lowWord (s.wall.counter c), latch := none })
    ∧ (∀ (c : Counter), s.latch.map Latch.counter ≠ some c →
        exec (.counterLowRead c) s = .next { s with busData := lowWord (s.wall.counter c), latch := none })
    ∧ (∀ (a : Addr), readHasRow a.toNat = false → exec (.hostRead a) s = .next { s with busData := s.readWord a.toNat, latch := none }))
  ∧ (∀ (s : State) (n : LaneId) (l : Lane), l = s.wall.lanes.get n →
    s.shows (0x200 * n.val) 32
      [word l.state.code, word l.drawer.code, noneWord l.owner, word l.waiting.length, word ((l.waiting.map Fin.val).getD 0 0),
        word ((l.waiting.map Fin.val).getD 1 0), word l.bounce, word ((l.timerMs + 99) / 100),
        word ((if l.duress then 1 else 0) + if l.state = .opened then 0 else 2)]
    ∧ s.shows (0x200 * n.val + 0x1A0) 16
      [word l.cycle.code, word l.travel.code, word l.budgetMs, word (l.window.getD 0), word l.closeCause.code, word l.result.code,
        word ((if l.late then 1 else 0) + if l.forced then 2 else 0)]
    ∧ s.shows (0x200 * n.val + 0x1B0) 16
      [word l.pocket.state.code, word n.val, noneWord l.pocket.owner, word (if l.pocket.timerRunning then (l.pocket.holdMs + 999) / 1000 else 0),
        word ((if l.pocket.timerRunning then 1 else 0) + (if l.pocket.unknownOrigin then 2 else 0) + (if l.pocket.unattended then 4 else 0)
          + (if l.pocket.abandoned then 8 else 0) + (if l.pocket.stranded then 16 else 0) + if l.pocket.lost then 32 else 0)]
    ∧ s.shows (0x200 * n.val + 0x1C0) 64
      [noneWord l.bundle.slot, word l.bundle.notes, word l.bundle.phase.code, word l.bundle.dest.code, word l.bundle.pieces,
        word l.bundle.retracted, word l.bundle.foreign])
  ∧ (∀ s : State, s.shows 0x800 32 [] ∧ s.shows 0x9A0 96 [])
  ∧ (∀ (s : State) (p : PageId) (x : SlotId) (y : Slot), y = s.wall.slot p x →
    s.readWord (slotAddress p x 0) = word y.state.code
    ∧ (∀ i : Fin 14, s.readWord (slotAddress p x (1 + i.val)) = y.body.get i)
    ∧ (y.context = none → s.shows (slotAddress p x 15) 16 [])
    ∧ (∀ c, y.context = some c → s.shows (slotAddress p x 15) 16
      [word c.phase.code, word c.acceptance, word (c.outstanding.get 0), word (c.outstanding.get 1), word (c.outstanding.get 2),
        word (c.outstanding.get 3), word (c.routed.get 0), word (c.routed.get 1), word (c.routed.get 2), word (c.routed.get 3), word c.rejects,
        word c.bundles, word c.target, word c.inDrawer,
        word ((if c.final then 1 else 0) + (if c.takenLate then 2 else 0) + c.endCause.code * 4 + c.remixes % 256 * 256)])
    ∧ s.shows (slotAddress p x 31) 65 (y.result.take 40))
  ∧ (∀ (s : State) (c : CassId) (x : Cassette), x = s.wall.cassettes.get c → s.shows (0x0A00 + 32 * c.val) 32
    [word c.val, word x.state.code, word x.loaded, word x.drawn, word x.remaining, word x.reserved, word x.availability, word x.tr,
      word x.misses, word x.rejects, word x.passages, word (if x.doubt then 1 else 0)])
  ∧ (∀ (s : State) (g : Gate) (open_ : List Word), g = s.wall.gate →
    open_ = g.openPicks.map (fun p => word (p.cassette.val * 4096 + p.travel % 4096)) →
    s.shows 0x0A80 32
      [word g.source.code, word g.runLength, word g.runPeak, word g.gap, (g.gapCounter.map word).getD 0xFFFF#16, word g.nextSeq,
        word g.openPicks.length, open_.getD 0 0#16, open_.getD 1 0#16, open_.getD 2 0#16, open_.getD 3 0#16, noneWord g.lastPick,
        word g.inFlight.length, (g.inFlight.head?.map fun x => word x.seq).getD 0xFFFF#16, (g.latch.map fun r => word r.1.code).getD 0xFFFF#16,
        (g.latch.map fun r => word r.2).getD 0xFFFF#16, highWord (BitVec.ofNat 32 g.passageTotal), lowWord (BitVec.ofNat 32 g.passageTotal),
        word g.traceNext.val, word g.traceFill, word (s.wall.doubleThreshold 0), word (s.wall.doubleThreshold 1),
        word (s.wall.doubleThreshold 2), word (s.wall.doubleThreshold 3),
        word ((if g.inPassage then 1 else 0) + (if g.cut then 2 else 0) + (if g.flapStacker then 4 else 0) + (if g.acceptEnable then 8 else 0)
          + if g.loss then 16 else 0)])
  ∧ (∀ (s : State) (t : Transport) (waiting : List Word), t = s.wall.transport →
    waiting = t.queue.map (fun r => word (r.lane.val * 4096 + if r.kind = .bundle then 0 else 1)) →
    s.shows 0x0AA0 48
      [word t.state.code,
        (match t.join with
        | .none => 0xFFFF#16
        | .dispense n => word (1 + n.val)
        | .retract n => word (5 + n.val + (s.wall.lanes.get n).bundle.dest.code * 256)
        | .clearance => 9#16),
        word t.queue.length, waiting.getD 0 0#16, waiting.getD 1 0#16, waiting.getD 2 0#16, waiting.getD 3 0#16,
        word (t.composition.get 0 + t.composition.get 1 + t.composition.get 2 + t.composition.get 3), word (t.composition.get 0),
        word (t.composition.get 1), word (t.composition.get 2), word (t.composition.get 3), word t.watch.length,
        (t.watch.head?.map fun e => word e.seq).getD 0xFFFF#16, word t.unaccounted, word t.seen, highWord t.presentedTotal,
        lowWord t.presentedTotal])
  ∧ (∀ (s : State) (c : Conveyor), c = s.wall.conveyor → s.shows 0x0AD0 48
    [word c.state.code, word c.queue.length, word ((c.queue.map Fin.val).getD 0 0), word ((c.queue.map Fin.val).getD 1 0),
      word ((c.queue.map Fin.val).getD 2 0), word ((c.queue.map Fin.val).getD 3 0), noneWord c.carried, word c.carryMs, word c.clearMs,
      word c.seen])
  ∧ (∀ (s : State) (k : BinId) (b : Bin), b = s.wall.bins.get k → s.shows (0x0B00 + 16 * k.val) 16
    ([word b.capacity, word b.margin, word b.count]
      ++ (if k = 2 then [highWord s.wall.depositTotal, lowWord s.wall.depositTotal] else [])
      ++ [word ((if b.nearFull then 1 else 0) + (if b.full then 2 else 0) + (if b.door then 4 else 0) + if b.restarted then 8 else 0)]))
  ∧ (∀ (s : State) (p : PointId) (x : Point), x = s.wall.points.get p → s.shows (0x0C00 + 8 * p.val) 8
    [word x.changes, word x.zone.val, word x.debounce,
      word ((if x.raw then 1 else 0) + (if x.live then 2 else 0) + (if x.known then 4 else 0) + (if x.alert then 8 else 0)
        + (if x.restored then 16 else 0) + (if x.polarity then 32 else 0) + if x.entryDelay then 64 else 0)])
  ∧ (∀ (s : State) (z : ZoneId) (x : Zone) (members : Word), x = s.wall.zones.get z →
    (∀ p : PointId, members.getLsbD p.val = decide ((s.wall.points.get p).zone = z)) → s.shows (0x0C80 + 16 * z.val) 16
    [word x.mode.code, word x.state.code, members, word x.entryDelay, word x.sirenTime,
      word ((if x.siren then 1 else 0) + (if x.strobe then 2 else 0) + if x.silent then 4 else 0), word ((x.entryMs + 999) / 1000),
      word ((x.sirenMs.getD 0 + 999) / 1000), noneWord x.trigger, word x.alarms, word (if x.lockdownFlag then 1 else 0)])
  ∧ (∀ (s : State) (a : AlarmStatus), a = s.wall.alarm → s.shows 0x0CC0 8
    [noneWord a.lockdownZone, highWord a.lockdownStart, lowWord a.lockdownStart, word s.wall.alertCount,
      word ((if a.lockdown then 1 else 0) + (if a.siren then 2 else 0) + (if a.strobe then 4 else 0) + if a.silent then 8 else 0)])
  ∧ (∀ (s : State) (p : Port), p = s.wall.port → s.shows 0x0F80 16
    [word p.slips, highWord p.slipTotal, lowWord p.slipTotal, highWord p.seconds, lowWord p.seconds, highWord p.holdStart,
      lowWord p.holdStart,
      word ((if p.running then 1 else 0) + (if p.startUpMark then 2 else 0) + (if s.wall.takingEnabled then 4 else 0)
        + (if p.lineCause then 8 else 0) + if p.orderCause then 16 else 0)])
  ∧ (∀ (s : State) (e : Fin 48) (x : Entry), x = s.wall.board.get e → s.shows (entryAddress e) 4
    [word (x.state.code + x.key * 4 + x.count * 256), x.first, x.last, x.detail])
  ∧ (∀ (s : State) (i : Fin 64),
    (s.wall.gate.trace.get i = none → s.shows (0x1000 + 4 * i.val) 4 [])
    ∧ (∀ x, s.wall.gate.trace.get i = some x → s.shows (0x1000 + 4 * i.val) 4
      [word x.seq, word (x.length % 4096 + x.estimate * 4096), word (x.gap % 4096 + x.source.code * 4096),
        word (x.thickness % 1024 + x.cls.code * 1024 + x.route.code * 8192 + if x.cut then 32768 else 0)])
    ∧ s.readWord (0x0F00 + i.val) = s.wall.profile.image.get i ∧ s.readWord (0x0F40 + i.val) = s.wall.profile.active.get i)
  ∧ (∀ (s : State) (k : Fin 16), s.readWord (0x0E00 + k.val) = s.wall.flags.get k ∧ s.readWord (0x2000 + k.val) = s.wall.flags.get k
    ∧ s.readWord (0x2010 + k.val) = s.wall.flags.get k)
  ∧ (∀ s : State, s.shows 0x0DC0 64 [word s.wall.lost] ∧ s.readWord 0x3FFC = 0x4401#16
    ∧ s.readWord 0x3FFD = (if s.wall.port.running then 1#16 else 0#16) ∧ s.readWord 0x3FFE = s.wall.summary
    ∧ s.readWord 0x3FFF = s.wall.port.mask)
  ∧ (∀ (s : State) (a : Nat), 0x1100 ≤ a → a < 0x2000 → s.readWord a = Memory.read s.memory a)
  ∧ (∀ (s : State) (a : Nat),
    (0x0B30 ≤ a ∧ a < 0x0C00) ∨ (0x0CC8 ≤ a ∧ a < 0x0D00) ∨ (0x0E10 ≤ a ∧ a < 0x0F00) ∨ (0x0F90 ≤ a ∧ a < 0x1000)
      ∨ (0x2020 ≤ a ∧ a < 0x3FFC) ∨ 0x4000 ≤ a → s.readWord a = 0#16)
  ∧ [LaneState.closed, .opened, .closing, .lockedOut].map LaneState.code = List.range 4
  ∧ [DrawerState.stowed, .opening, .offered, .closing, .holding, .lifting, .jammed].map DrawerState.code = List.range 7
  ∧ [Cycle.none, .take, .deposit].map Cycle.code = List.range 3
  ∧ [Travel.none, .outward, .inward, .liftToPocket, .liftToDrawer].map Travel.code = List.range 5
  ∧ [CloseCause.customer, .expiry, .send, .order, .lockdown].map CloseCause.code = List.range 5
  ∧ [CycleResult.none, .taken, .takenLate, .left, .itemIn, .noItem].map CycleResult.code = List.range 6
  ∧ [PocketState.empty, .held, .captureWait, .capturing, .returning].map PocketState.code = List.range 5
  ∧ [RetractPhase.none, .queued, .heldBack, .sweeping, .draining].map RetractPhase.code = List.range 5
  ∧ [Destination.none, .retractBin, .reject].map Destination.code = List.range 3
  ∧ [SlotState.empty, .posted, .accepted, .running, .held, .finished, .refused].map SlotState.code = List.range 7
  ∧ [Phase.drawerWait, .bundleWait, .building, .delivering, .inDrawer, .retracting, .purging].map Phase.code = List.range 7
  ∧ [EndCause.none, .cancel, .lockdown, .rejectLimit].map EndCause.code = List.range 4
  ∧ [CassetteState.absent, .uncounted, .inService, .low, .empty, .suspect].map CassetteState.code = List.range 6
  ∧ [TransportState.idle, .granted, .purging, .clearing, .faulted, .unknown].map TransportState.code = List.range 6
  ∧ [ConveyorState.unknown, .clearing, .idle, .carrying, .faulted].map ConveyorState.code = List.range 5
  ∧ [ZoneMode.armable, .always, .supervisory].map ZoneMode.code = List.range 3
  ∧ [ZoneState.disarmed, .armed, .entryDelay, .alarm].map ZoneState.code = List.range 4
  ∧ [EntryState.free, .new, .seen].map EntryState.code = List.range 3
  ∧ [Route.reject, .stacker, .retractBin].map Route.code = List.range 3
  ∧ [PieceClass.single, .close, .long, .short, .double, .thin, .unmeasured, .retractPiece].map PieceClass.code = List.range 8
  ∧ [Source.cassette 0, .cassette 1, .cassette 2, .cassette 3, .retract 0, .retract 1, .retract 2, .retract 3, .clearance].map Source.code
    = List.range 9

/-- R177, R169, R21, R8, R43, R166, R153: HALT; RUN while RUNNING; RUN without start-up work; the first RUN, with the clearances and the hold limits
it starts, at which a close that waited for it is driven unless hold or an obstruction keeps it; the Attention Mask with the attention line; and each
bit of the Attention Summary: a page with a FINISHED or REFUSED slot, a NEW board entry, a point's alert, lockdown, hold, and 0 in the others. An
obstruction sensor that is already active as such a close begins is not counted (the model's choice: log 69). -/
def Obligations.RunHaltAndMask : Prop :=
  ∀ (s : State), s.supply = true →
    exec .halt s = .next { s with latch := none, wall := s.wall.modPort fun p => { p with running := false } }
    ∧ (s.wall.port.running = true → exec .run s = .next { s with latch := none })
    ∧ (s.wall.port.running = false → s.wall.port.startUpMark = false →
        exec .run s = .next (State.evaluated { s with latch := none, wall := s.wall.modPort fun p => { p with running := true } }))
    ∧ (s.wall.port.running = false → s.wall.port.startUpMark = true →
        ∃ t, t = { s with latch := none, wall := (s.wall.modPort fun p => { p with running := true }).startUp }
          ∧ exec .run s = .next t.evaluated ∧ t.wall.port = { s.wall.port with running := true, startUpMark := false }
          ∧ t.wall.transport.state = .clearing ∧ t.wall.transport.join = .clearance ∧ t.wall.transport.seen = 0
          ∧ t.wall.transport.clearPulses = 4000 ∧ t.wall.gate.gapCounter = none ∧ t.wall.conveyor.state = .clearing
          ∧ t.wall.conveyor.seen = 0 ∧ t.wall.conveyor.clearMs = 10000
          ∧ (∀ n, t.wall.lanes.get n =
            { s.wall.lanes.get n with
                pocket := { (s.wall.lanes.get n).pocket with
                              timerRunning := (s.wall.lanes.get n).pocket.timerRunning || (s.wall.lanes.get n).pocket.state == .held } })
          ∧ (∀ n, (s.wall.lanes.get n).drawer = .closing → s.wall.drawerDriven n = false
            ∧ t.wall.drawerDriven n = (!s.wall.held && !(s.wall.lanes.get n).obstructed))
          ∧ t.wall.pages = s.wall.pages ∧ t.wall.points = s.wall.points ∧ t.wall.zones = s.wall.zones ∧ t.wall.board = s.wall.board)
    ∧ (∀ v : Word, ∃ t, exec (.attentionMaskWrite v) s = .next t ∧ t.latch = none
        ∧ t.wall = s.wall.modPort (fun p => { p with mask := v &&& 0x01FF#16 })
        ∧ t.wall.attention = decide (s.wall.summary &&& v &&& 0x01FF#16 ≠ 0#16))
    ∧ s.readWord 0x3FFE = s.wall.summary
    ∧ ∀ i : Fin 16, s.wall.summary.getLsbD i.val = true ↔
      (∃ p : PageId, i.val = p.val ∧ ∃ x, (s.wall.slot p x).state = .finished ∨ (s.wall.slot p x).state = .refused)
      ∨ (i = 5 ∧ ∃ e, (s.wall.board.get e).state = .new) ∨ (i = 6 ∧ ∃ p, (s.wall.points.get p).alert = true)
      ∨ (i = 7 ∧ s.wall.alarm.lockdown = true) ∨ (i = 8 ∧ (s.wall.port.lineCause = true ∨ s.wall.port.orderCause = true))

/-- R178, R45, R106, R138, R84, R21, R65, R64, R78, R157, R10, R141, with the reset values of 9.2, 9.4, 9.7 and 6.5: a wall reset, from any state.
Every slot is EMPTY with its body kept, the lists empty, F0 to F3 zero and F4 to F15 kept. The board holds only entries of the reset's own second,
ORDERS DISCARDED with the number of the slots discarded first, and HOLD ON where the line keeps hold. The gate, the transport and the conveyor
abandon what was in progress (what the gate record keeps: logs 44 and 50; a piece not yet settled: log 13; the clearance's pieces seen, which the
transport keeps: log 70; the conveyor's times: log 62). Each drawer and pocket is what its sensors show (the pocket's as last reported: log 65).
The stored profile is loaded. Of a cassette all is kept but its reservation, its state, to which the load applies the remaining test under the new
low threshold, and Tr, which the load keeps within the new range; of a bin its count and marks are kept, of a point all but its settings, but point
14 is NORMAL, for no forced mark stays; of a zone whose mode the load keeps its state is kept, and lockdown in force stays. -/
def Obligations.WallResetDiscardsEverything : Prop :=
  ∀ (s : State) (b : Bool), s.supply = true → ∃ t, exec (.wallReset b) s = .next t ∧ t.latch = none ∧ t.memory = s.memory
    ∧ (∀ p x, t.wall.slot p x =
        if (s.wall.slot p x).state = .empty then s.wall.slot p x else { Slot.reset with body := (s.wall.slot p x).body })
    ∧ (∀ p, (t.wall.pages.get p).posting = [])
    ∧ (∀ k, t.wall.flags.get k = if k.val < 4 then 0#16 else s.wall.flags.get k)
    ∧ t.wall.port =
      { s.wall.port with
          slips := 0, running := false, startUpMark := true, transportReady := false, conveyorReady := false, orderCause := false,
          holdStart := if s.wall.port.lineCause then s.wall.port.seconds else s.wall.port.holdStart }
    ∧ t.wall.takingEnabled = false
    ∧ (∀ e, (t.wall.board.get e).state = .free
        ∨ ((t.wall.board.get e).state = .new ∧ (t.wall.board.get e).first = lowWord s.wall.port.seconds
          ∧ (t.wall.board.get e).last = lowWord s.wall.port.seconds))
    ∧ t.wall.lost = 0
    ∧ (∀ k, k = (pageIds.map fun p => (laneIds.filter fun x => (s.wall.slot p x).state ≠ .empty).length).sum →
      (0 < k → t.wall.board.get 0 =
        { state := .new, key := 60, count := 1, first := lowWord s.wall.port.seconds, last := lowWord s.wall.port.seconds, detail := word k })
      ∧ (k = 0 → ∀ e, (t.wall.board.get e).key ≠ 60))
    ∧ (s.wall.port.lineCause = true →
      ∃ e, (t.wall.board.get e).state = .new ∧ (t.wall.board.get e).key = 62 ∧ (t.wall.board.get e).detail = 1#16)
    ∧ (s.wall.port.lineCause = false → ∀ e, (t.wall.board.get e).key ≠ 62)
    ∧ t.wall.gate =
      { s.wall.gate with
          inPassage := false, cut := false, lossSeen := false, gapCounter := none, openPicks := [], lastPick := none, passages := [],
          latch := none, flapStacker := false, acceptEnable := false }
    ∧ t.wall.transport =
      { s.wall.transport with
          state := .unknown, join := .none, queue := [], watch := [], exitedEarly := [], dump := none, clearPulses := 0, quiet := 0,
          sweepFound := .none, silentMs := 0,
          unaccounted := min 65535 (s.wall.transport.unaccounted + (s.wall.transport.watch.map fun e =>
            (e.settled.map Prod.fst).getD (max 1 (min 8 (Config.unsettledEstimate e.seq)))).sum) }
    ∧ t.wall.engine = Engine.reset
    ∧ t.wall.conveyor =
      { s.wall.conveyor with
          state := .unknown, queue := [], carried := none, carryMs := 0, clearMs := 0, clearFromFault := false }
    ∧ t.wall.profile.image = s.wall.profile.image ∧ t.wall.profile.programming = none
    ∧ (s.wall.profile.programming = none → t.wall.profile.stored = s.wall.profile.stored)
    ∧ t.wall.profile.active = (if passesCheck t.wall.profile.stored then t.wall.profile.stored else defaultProfile)
    ∧ (∀ c, t.wall.cassettes.get c =
        { s.wall.cassettes.get c with
            reserved := 0,
            state :=
              if (s.wall.cassettes.get c).state = .inService ∨ (s.wall.cassettes.get c).state = .low then
                (if (s.wall.cassettes.get c).remaining = 0 then .empty
                else if (s.wall.cassettes.get c).remaining ≤ t.wall.lowThreshold c then .low else .inService)
              else (s.wall.cassettes.get c).state,
            tr := max (3 * t.wall.noteThickness c / 4) (min (5 * t.wall.noteThickness c / 4) (s.wall.cassettes.get c).tr) })
    ∧ (∀ k, (t.wall.bins.get k).count = (s.wall.bins.get k).count ∧ (t.wall.bins.get k).door = (s.wall.bins.get k).door
      ∧ (t.wall.bins.get k).restarted = (s.wall.bins.get k).restarted)
    ∧ t.wall.depositTotal = s.wall.depositTotal
    ∧ (∀ p, p ≠ 14 → (t.wall.points.get p).raw = (s.wall.points.get p).raw ∧ (t.wall.points.get p).live = (s.wall.points.get p).live
      ∧ (t.wall.points.get p).known = (s.wall.points.get p).known ∧ (t.wall.points.get p).alert = (s.wall.points.get p).alert
      ∧ (t.wall.points.get p).restored = (s.wall.points.get p).restored ∧ (t.wall.points.get p).changes = (s.wall.points.get p).changes)
    ∧ (t.wall.points.get 14).live = false
    ∧ (∀ z, (t.wall.zones.get z).mode = (s.wall.zones.get z).mode → (t.wall.zones.get z).state = (s.wall.zones.get z).state
      ∧ (t.wall.zones.get z).trigger = (s.wall.zones.get z).trigger ∧ (t.wall.zones.get z).entryMs = (s.wall.zones.get z).entryMs
      ∧ (t.wall.zones.get z).alarms = (s.wall.zones.get z).alarms ∧ (t.wall.zones.get z).sirenMs = (s.wall.zones.get z).sirenMs)
    ∧ (s.wall.alarm.lockdown = true → t.wall.alarm.lockdown = true ∧ t.wall.alarm.lockdownZone = s.wall.alarm.lockdownZone
      ∧ t.wall.alarm.lockdownStart = s.wall.alarm.lockdownStart)
    ∧ ∀ n, ∀ l, l = s.wall.lanes.get n →
      t.wall.lanes.get n =
        { l with
            state := if t.wall.lockedOut n then .lockedOut else .closed,
            drawer := if l.stowedSensor then (if l.itemSensor then .holding else .stowed) else .closing,
            owner := none, waiting := [], bounce := 0, timerMs := 0, duress := false, cycle := .none,
            travel := if l.stowedSensor then .none else .inward, budgetMs := if l.stowedSensor then 0 else 4000,
            window := none, late := false, closeCause := .customer, result := .none, forced := false, shortTimer := false,
            ownerClose := none, obstructed := false, leaving := false, bundle := BundleRecord.reset,
            pocket := (t.wall.lanes.get n).pocket }
      ∧ (t.wall.lanes.get n).pocket =
        { Pocket.reset with
            state := if l.envelopeSensor then .held else .empty,
            holdMs := (t.wall.lanes.get n).pocket.holdMs,
            unknownOrigin := l.envelopeSensor && (l.pocket.unknownOrigin || !(l.pocket.state == .held)) }

/-- R174: a failure of the supply stops the part; a profile being programmed is left so that it fails its check (its words are log 6's free values).
That everything else keeps its value until the next power-on is the model's choice (log 19). -/
def Obligations.SupplyFailureCutsProgramming : Prop :=
  ∀ (s : State), s.supply = true → ∃ t, exec .supplyFailure s = .next t ∧ t.supply = false
    ∧ (s.wall.profile.programming = none → t = { s with supply := false })
    ∧ (s.wall.profile.programming ≠ none → passesCheck t.wall.profile.stored = false ∧ t.wall.profile.programming = none
        ∧ t.wall.profile.active = s.wall.profile.active ∧ t.wall.profile.image = s.wall.profile.image
        ∧ t.wall = { s.wall with profile := t.wall.profile })

/-! ### Orders -/

/-- R27, R34, R35, R36, R38, R39, R30, R25: the general checks and the checks of each kind (LANE OPEN and LANE CLOSE have theirs in another
statement), each the first that fails in the order listed; and a slot whose check fails at its taking becomes REFUSED with the check's code and result
fields of 0, leaves the list, and nothing else changes. -/
def Obligations.ChecksAndRefusals : Prop :=
  (∀ (w : Wall) (p : PageId) (x : SlotId) (e : OrderEnd), w.refusal p x = some e → (w.slot p x).cancelPending = false →
    ((w.take p x).slot p x).state = .refused
    ∧ ((w.take p x).slot p x).result =
        [word e.code, word (markBit 0 (w.slot p x).tooLate), highWord w.port.seconds, lowWord w.port.seconds]
    ∧ ((w.take p x).slot p x).body = (w.slot p x).body
    ∧ ((w.take p x).pages.get p).posting = (w.pages.get p).posting.filter (fun y => y ≠ x)
    ∧ (∀ q y, (q, y) ≠ (p, x) → (w.take p x).slot q y = w.slot q y) ∧ w.take p x = { w with pages := (w.take p x).pages })
  ∧ (∀ (w : Wall) (p : PageId) (x : SlotId),
    (w.kindAt p x = none → w.refusal p x = some .unknownKind)
    ∧ ∀ k, w.kindAt p x = some k →
      (w.wellFormed k (w.slot p x) = false → w.refusal p x = some .badParameter)
      ∧ (w.wellFormed k (w.slot p x) = true →
        (∀ n, p = lanePage n → w.refusal p x = w.checkLane n k (w.slot p x))
        ∧ (p = servicePage → w.refusal p x = w.checkService k (w.slot p x))))
  ∧ (∀ (w : Wall) (y : Slot),
    (w.wellFormed .dispense y = true ↔
      (y.param 0 = 0 ∧ 1 ≤ y.param 1 ∧ y.param 1 ≤ 60000)
      ∨ (y.param 0 = 1 ∧ (∀ i, 2 ≤ i → i ≤ 5 → y.param i ≤ 3000) ∧ 0 < y.param 2 + y.param 3 + y.param 4 + y.param 5))
    ∧ (w.wellFormed .countSet y = true ↔ y.param 0 ≤ 3 ∧ y.param 1 ≤ 3000)
    ∧ (w.wellFormed .cassetteClear y = true ↔ y.param 0 ≤ 3) ∧ (w.wellFormed .binReset y = true ↔ y.param 0 ≤ 2)
    ∧ (w.wellFormed .pathReset y = true ↔ y.param 0 ≤ 5)
    ∧ (∀ k, k = .zoneArm ∨ k = .zoneDisarm → (w.wellFormed k y = true ↔ ∃ z : ZoneId, y.param 0 = z.val ∧ (w.zones.get z).mode = .armable))
    ∧ (w.wellFormed .zoneReset y = true ↔ ∃ z : ZoneId, y.param 0 = z.val ∧ (w.zones.get z).mode = .always)
    ∧ (∀ k ∈ [Kind.retract, .deposit, .capture, .returnEnvelope, .laneOpen, .laneClose, .lockdownClear, .holdWall, .releaseWall,
        .profileCommit, .profileLoad, .clockSet], w.wellFormed k y = true))
  ∧ (∀ (w : Wall) (n : LaneId) (y : Slot),
    w.checkLane n .dispense y =
      (if w.lockdown then some .lockdown
      else if (w.lanes.get n).state = .lockedOut then some .laneLockedOut
      else if (w.lanes.get n).state ≠ .opened then some .laneClosed
      else if w.transport.state = .faulted then some .pathFault
      else if (w.bins.get rejectBin).full then some .binFull
      else if (w.lanes.get n).drawer = .jammed then some .drawerJammed
      else if (w.lanes.get n).drawer = .holding ∧ (w.lanes.get n).owner = none then some .drawerOccupied
      else if y.param 0 = 1 then
        (if ∃ c : CassId, 0 < y.param (2 + c.val) ∧ w.usable c = false then some .noMix
        else if (∃ c : CassId, (w.cassettes.get c).availability < y.param (2 + c.val))
            ∨ w.noteLimit < y.param 2 + y.param 3 + y.param 4 + y.param 5 then some .overLimit
        else none)
      else if (w.orderMix y).isNone then some .noMix
      else none)
    ∧ w.checkLane n .retract y =
      (if (w.lanes.get n).drawer = .jammed then some .drawerJammed
      else if (w.lanes.get n).drawer = .holding ∧ (w.lanes.get n).owner = none then none
      else some .nothingHeld)
    ∧ w.checkLane n .deposit y =
      (if w.lockdown then some .lockdown
      else if (w.lanes.get n).state = .lockedOut then some .laneLockedOut
      else if (w.lanes.get n).state ≠ .opened then some .laneClosed
      else if (w.lanes.get n).pocket.state ≠ .empty then some .escrowFull
      else if (w.bins.get depositBin).capacity ≤ (w.bins.get depositBin).count then some .binFull
      else if (w.lanes.get n).drawer = .jammed then some .drawerJammed
      else none)
    ∧ w.checkLane n .capture y =
      (if (w.lanes.get n).pocket.state ≠ .held then some .nothingHeld
      else if (w.bins.get depositBin).capacity ≤ (w.bins.get depositBin).count then some .binFull
      else if w.conveyor.state = .faulted then some .pathFault
      else none)
    ∧ w.checkLane n .returnEnvelope y =
      (if (w.lanes.get n).pocket.state ≠ .held then some .nothingHeld
      else if (w.lanes.get n).drawer = .jammed then some .drawerJammed
      else none))
  ∧ ∀ (w : Wall) (y : Slot),
    (∀ c : CassId, y.param 0 = c.val → w.checkService .countSet y =
      if (w.cassettes.get c).state = .absent then some .notPresent
      else if (w.cassettes.get c).state ≠ .uncounted then some .notServiced
      else none)
    ∧ (∀ k : BinId, y.param 0 = k.val → w.checkService .binReset y = if (w.bins.get k).door then none else some .notServiced)
    ∧ (y.param 0 = 0 → w.checkService .pathReset y =
      if w.transport.join = .none ∧ w.transport.queue = [] then none else some .notQuiet)
    ∧ (y.param 0 = 1 → w.checkService .pathReset y =
      if w.conveyor.carried = none ∧ w.conveyor.queue = [] then none else some .notQuiet)
    ∧ (∀ n : LaneId, y.param 0 = 2 + n.val → w.checkService .pathReset y =
      if (w.lanes.get n).owner = none ∧ (w.lanes.get n).waiting = [] then none else some .notQuiet)
    ∧ (∀ z : ZoneId, y.param 0 = z.val →
      (w.checkService .zoneArm y =
        if ∃ p : PointId, (w.points.get p).zone = z ∧ (w.points.get p).live = true then some .pointsActive else none)
      ∧ w.checkService .zoneReset y =
        if ∃ p : PointId, (w.points.get p).zone = z ∧ (w.points.get p).live = true then some .pointsActive
        else if ∃ p : PointId, (w.points.get p).zone = z ∧ (w.points.get p).alert = true then some .unacknowledged
        else none)
    ∧ (w.checkService .lockdownClear y =
      if ∃ z : ZoneId, (w.zones.get z).state = .alarm ∧ (w.zones.get z).lockdownFlag = true ∧ (w.zones.get z).mode ≠ .supervisory then
        some .zoneInAlarm
      else none)
    ∧ (∀ k, k = .profileCommit ∨ k = .profileLoad → w.checkService k y =
      if (∀ n x, (w.slot (lanePage n) x).state.inProgress = false) ∧ w.transport.join = .none ∧ w.transport.queue = []
          ∧ w.conveyor.carried = none ∧ w.conveyor.queue = [] ∧ w.transport.state ≠ .clearing ∧ w.conveyor.state ≠ .clearing
          ∧ (∀ n, (w.lanes.get n).drawer = .closing → (w.lanes.get n).owner ≠ none) then none
      else some .notQuiet)
    ∧ ∀ k, k = .cassetteClear ∨ k = .zoneDisarm ∨ k = .holdWall ∨ k = .releaseWall ∨ k = .clockSet → w.checkService k y = none

/-- R3, R11, R12, R13, R26, R28, R29, R30, R39, R88, R102: the evaluations that follow a command. They go on until nothing is to be done (at most
80). One of them settles a lane, or else grants a drawer, or else takes a slot, the lower lane and page first (the model's order: logs 18 and 11).
A CLOSING lane settles that has no order in progress but a LANE CLOSE, which finishes DONE. A drawer without an owner goes to the oldest waiting
entry whose condition holds, and its order's work begins: a DEPOSIT opens the drawer, a RETURN lifts its envelope, a RETRACT and a DISPENSE make
their requests, and the transport's grant evaluation follows; on a FAULTED path they end TRANSPORT FAULT, and under lockdown a DISPENSE ends
LOCKDOWN. A slot is taken that is POSTED, while taking is enabled and no commit holds its page, as the oldest of its track, where that is free, or
for a RELEASE WALL where a HELD order occupies it: it is refused by its checks, or accepted. The model's choices: the stowed sensor of a granted
DEPOSIT clears with the travel, in hold with the travel that resumes, and the drawer record keeps a mark of the sensor it left (log 16); a
RETRACT's grant keeps the rest of the bundle record until the transport's grant (log 54); a RETRACT ended on a FAULTED path reports the destination
NONE and counts of 0 (log 68). -/
def Obligations.Evaluations : Prop :=
  (∀ w : Wall, w.evaluate = w.evaluateFor 80 ∧ w.evaluateFor 0 = w
    ∧ ∀ k, (w.evaluateOnce = none → w.evaluateFor (k + 1) = w) ∧ ∀ t, w.evaluateOnce = some t → w.evaluateFor (k + 1) = t.evaluateFor k)
  ∧ (∀ (w : Wall) (n : LaneId) (x : SlotId),
    (w.settles n = true ↔ (w.lanes.get n).state = .closing
      ∧ ∀ y, (w.slot (lanePage n) y).state.inProgress = true → w.kindAt (lanePage n) y = some .laneClose)
    ∧ (w.grantable n x = true ↔ (w.lanes.get n).forced = false
      ∧ ((w.lanes.get n).drawer = .stowed ∨ (w.kindAt (lanePage n) x = some .retract ∧ (w.lanes.get n).drawer = .holding))))
  ∧ (∀ (w : Wall) (p : PageId) (x : SlotId),
    (w.takeable p x = true ↔ (w.slot p x).state = .posted ∧ w.takingEnabled = true ∧ (p = servicePage ∨ w.commitRuns = false)
      ∧ ∀ k, w.kindAt p x = some k → w.oldestPosted p k.track = some x
        ∧ (w.occupant p k.track = none ∨ (k = .releaseWall ∧ ∃ o, w.occupant p k.track = some o ∧ (w.slot p o).state = .held)))
    ∧ ∀ t : Track,
      (w.oldestPosted p t = some x ↔ ∃ older younger, (w.pages.get p).posting = older ++ x :: younger ∧ (w.slot p x).state = .posted
        ∧ (w.kindAt p x).map Kind.track = some t
        ∧ ∀ y ∈ older, (w.slot p y).state = .posted → (w.kindAt p y).map Kind.track ≠ some t)
      ∧ (w.occupant p t = none ↔ ∀ y, (w.slot p y).state.inProgress = true → (w.kindAt p y).map Kind.track ≠ some t))
  ∧ (∀ w : Wall, w.evaluateOnce = none ↔
    (∀ n, w.settles n = false) ∧ (∀ n, (w.lanes.get n).owner = none → ∀ y ∈ (w.lanes.get n).waiting, w.grantable n y = false)
      ∧ ∀ p, ∀ y ∈ (w.pages.get p).posting, w.takeable p y = false)
  ∧ (∀ (w : Wall) (n : LaneId), (∀ m, m < n → w.settles m = false) → w.settles n = true →
    ∃ t, w.evaluateOnce = some t ∧ t = { w with lanes := t.lanes, pages := t.pages, flags := t.flags }
      ∧ (t.lanes.get n).state = (if w.lockedOut n then .lockedOut else .closed) ∧ (∀ m, m ≠ n → t.lanes.get m = w.lanes.get m)
      ∧ (w.orderOf n .laneClose = none → t.pages = w.pages ∧ t.flags = w.flags)
      ∧ ∀ x, w.orderOf n .laneClose = some x → w.finishedWith t (lanePage n) x .done []
        ∧ (∀ p y, (p, y) ≠ (lanePage n, x) → t.slot p y = w.slot p y)
        ∧ ((w.slot (lanePage n) x).cancelPending = false → t.flags = w.flags)
        ∧ ((w.lanes.get n).owner ≠ some x → x ∉ (w.lanes.get n).waiting →
          t.lanes.get n = { w.lanes.get n with state := if w.lockedOut n then .lockedOut else .closed }))
  ∧ (∀ (w : Wall) (n : LaneId) (x : SlotId) (earlier later : List SlotId), (∀ m, w.settles m = false) →
    (∀ m, m < n → (w.lanes.get m).owner = none → ∀ y ∈ (w.lanes.get m).waiting, w.grantable m y = false) →
    (w.lanes.get n).owner = none → (w.lanes.get n).waiting = earlier ++ x :: later → (∀ y ∈ earlier, w.grantable n y = false) →
    w.grantable n x = true → (w.slot (lanePage n) x).state = .accepted → x ∉ earlier → x ∉ later →
    ∃ t, t = w.grantDrawer n x ∧ w.evaluateOnce = some t ∧ (t.lanes.get n).waiting = earlier ++ later
      ∧ (w.kindAt (lanePage n) x = some .deposit → (t.slot (lanePage n) x).state = w.workState
        ∧ t.lanes.get n =
          { w.lanes.get n with
              owner := some x, waiting := earlier ++ later, cycle := .deposit, result := .none, late := false, shortTimer := false,
              ownerClose := none, drawer := .opening, travel := .outward, budgetMs := 4000,
              stowedSensor := (w.lanes.get n).stowedSensor && w.held,
              leaving := (w.lanes.get n).leaving || (w.lanes.get n).stowedSensor }
        ∧ t = { w with lanes := t.lanes, pages := t.pages } ∧ ∀ m, m ≠ n → t.lanes.get m = w.lanes.get m)
      ∧ (w.kindAt (lanePage n) x = some .returnEnvelope → (t.slot (lanePage n) x).state = w.workState
        ∧ t.lanes.get n =
          { w.lanes.get n with
              owner := some x, waiting := earlier ++ later, ownerClose := none, drawer := .lifting, travel := .liftToDrawer,
              budgetMs := 3000 }
        ∧ t = { w with lanes := t.lanes, pages := t.pages } ∧ ∀ m, m ≠ n → t.lanes.get m = w.lanes.get m)
      ∧ (w.kindAt (lanePage n) x = some .retract →
        (w.transport.state ≠ .faulted → t = ((((w.modLane n fun l =>
          { l with owner := some x, ownerClose := none, waiting := earlier ++ later }).startWork (lanePage n) x).queueRetract n).transportGrant))
        ∧ (w.transport.state ≠ .faulted → w.transport.state ≠ .idle ∨ w.held = true → (t.slot (lanePage n) x).state = w.workState
          ∧ (t.lanes.get n).owner = some x ∧ (t.lanes.get n).drawer = (w.lanes.get n).drawer
          ∧ (t.lanes.get n).bundle = { (w.lanes.get n).bundle with phase := .queued }
          ∧ t.transport = { w.transport with queue := w.transport.queue ++ [{ lane := n, kind := .retract }] }
          ∧ ∀ m, m ≠ n → t.lanes.get m = w.lanes.get m)
        ∧ (w.transport.state = .faulted → w.orderOf n .dispense = none → w.orderOf n .retract = some x →
          w.finishedWith t (lanePage n) x .transportFault [0#16, 0#16, 0#16, 0#16, 0#16] ∧ (t.lanes.get n).owner = none
          ∧ (t.lanes.get n).drawer = (w.lanes.get n).drawer))
      ∧ (∀ c ty, w.kindAt (lanePage n) x = some .dispense → w.orderOf n .dispense = some x → w.engine.loaded.map Loaded.lane ≠ some n →
        (w.slot (lanePage n) x).context = some c → w.tallyOf n = some ty → c.phase = .drawerWait →
        (w.lockdown = false → w.transport.state ≠ .faulted → t = ((w.modLane n fun l =>
          { l with owner := some x, ownerClose := none, waiting := earlier ++ later }).queueBundle n).transportGrant)
        ∧ (w.lockdown = false → w.transport.state ≠ .faulted → w.transport.state ≠ .idle ∨ w.held = true →
          t.slot (lanePage n) x = { w.slot (lanePage n) x with context := some { c with phase := .bundleWait } }
          ∧ (t.lanes.get n).owner = some x ∧ (t.lanes.get n).drawer = (w.lanes.get n).drawer ∧ t.engine = w.engine
          ∧ t.cassettes = w.cassettes
          ∧ t.transport = { w.transport with queue := w.transport.queue ++ [{ lane := n, kind := .bundle }] })
        ∧ (w.lockdown = true ∨ w.transport.state = .faulted →
          w.finishedWith t (lanePage n) x (if w.lockdown = true ∧ ty.faulted = false then .lockdown else .transportFault)
            (tallyWords c ty (w.valueOf ty.presented) w.duressAlarm)
          ∧ (t.lanes.get n).owner = none ∧ (t.lanes.get n).drawer = (w.lanes.get n).drawer ∧ t.tallyOf n = none
          ∧ t.transport = w.transport
          ∧ ∀ k, (t.cassettes.get k).reserved = (w.cassettes.get k).reserved - c.outstanding.get k)
        ∧ ∀ m, m ≠ n → w.transport.state ≠ .idle ∨ w.held = true ∨ w.lockdown = true → t.lanes.get m = w.lanes.get m))
  ∧ ∀ (w : Wall) (p : PageId) (x : SlotId) (older younger : List SlotId), (∀ m, w.settles m = false) →
    (∀ m, (w.lanes.get m).owner = none → ∀ y ∈ (w.lanes.get m).waiting, w.grantable m y = false) →
    (∀ q, q < p → ∀ y ∈ (w.pages.get q).posting, w.takeable q y = false) → (w.pages.get p).posting = older ++ x :: younger →
    (∀ y ∈ older, w.takeable p y = false) → w.takeable p x = true →
    w.evaluateOnce = some (w.take p x)
    ∧ (∀ e, w.refusal p x = some e → w.take p x = w.refuse p x e)
    ∧ ∀ k, w.refusal p x = none → w.kindAt p x = some k →
      (∀ n, p = lanePage n → w.take p x = w.acceptLane n x k)
      ∧ (p = servicePage → w.take p x = w.acceptService x k (w.slot p x))

/-- R37 with R2 and R3: the checks of LANE OPEN and LANE CLOSE, and what each does once accepted. A LANE OPEN opens a lane that is CLOSED or CLOSING,
clears its duress mark and lets its orders go on; of an OPEN lane it changes nothing. A LANE CLOSE of an OPEN lane with no order in progress settles
at once. An order row is the host placing the order (the model's choice: log 2). -/
def Obligations.LaneOrders : Prop :=
  (∀ (w : Wall) (n : LaneId) (y : Slot),
      w.checkLane n .laneOpen y =
        (if w.lockdown then some .lockdown else if (w.lanes.get n).state = .lockedOut then some .laneLockedOut else none)
      ∧ w.checkLane n .laneClose y = none)
  ∧ ∀ (s : State) (n : LaneId) (x : SlotId) (tag : Word), s.supply = true →
    (s.wall.takesNow (lanePage n) x .laneOpen = true → s.wall.lockdown = false → (s.wall.lanes.get n).state ≠ .lockedOut →
      exec (.laneOpen n x tag) s = .next
        (State.evaluatedFor 79
          { s with latch := none,
                   wall := ((s.wall.posted (lanePage n) x .laneOpen tag []).modLane n fun l =>
                     { l with state := .opened, duress := if l.state = .opened then l.duress else false }).finish (lanePage n) x .done [] }))
    ∧ (s.wall.takesNow (lanePage n) x .laneOpen = true → s.wall.lockdown = true → exec (.laneOpen n x tag) s = .next
        (State.evaluatedFor 79
          { s with latch := none, wall := (s.wall.posted (lanePage n) x .laneOpen tag []).refuse (lanePage n) x .lockdown }))
    ∧ (s.wall.takesNow (lanePage n) x .laneOpen = true → s.wall.lockdown = false → (s.wall.lanes.get n).state = .lockedOut →
        exec (.laneOpen n x tag) s = .next
          (State.evaluatedFor 79
            { s with latch := none, wall := (s.wall.posted (lanePage n) x .laneOpen tag []).refuse (lanePage n) x .laneLockedOut }))
    ∧ (s.wall.takesNow (lanePage n) x .laneClose = true →
      ((s.wall.lanes.get n).state = .closed ∨ (s.wall.lanes.get n).state = .lockedOut → exec (.laneClose n x tag) s = .next
        (State.evaluatedFor 79
          { s with latch := none, wall := (s.wall.posted (lanePage n) x .laneClose tag []).finish (lanePage n) x .done [] }))
      ∧ ((s.wall.lanes.get n).state = .opened ∨ (s.wall.lanes.get n).state = .closing → exec (.laneClose n x tag) s = .next
        (State.evaluatedFor 79
          { s with latch := none,
                   wall := ((s.wall.posted (lanePage n) x .laneClose tag []).modLane n fun l => { l with state := .closing }).startWork
                     (lanePage n) x }))
      ∧ ((s.wall.lanes.get n).state = .opened → (∀ y, (s.wall.slot (lanePage n) y).state.inProgress = false) →
        ∃ t,
          t = { s with latch := none,
                       wall := (((s.wall.posted (lanePage n) x .laneClose tag []).modLane n fun l =>
                         { l with state := .closing }).startWork (lanePage n) x).settleLane n }
          ∧ exec (.laneClose n x tag) s = .next (t.evaluatedFor 78)
          ∧ (t.wall.lanes.get n).state = (if s.wall.lockedOut n then .lockedOut else .closed)
          ∧ (t.wall.slot (lanePage n) x).state = .finished
          ∧ (t.wall.slot (lanePage n) x).result = resultWords .done (s.wall.slot (lanePage n) x).tooLate s.wall.port.seconds []
          ∧ ∀ m, m ≠ n → t.wall.lanes.get m = s.wall.lanes.get m))

/-- R62, R63, R49, R50, R53, R58: COUNT SET, CASSETTE CLEAR, a removal and an insertion. The other cassettes keep their records. A cassette that
COUNT SET or CASSETTE CLEAR leaves EMPTY or LOW posts it, and CASSETTE CLEAR reports the state it leaves and the remaining count; of a cassette
that is not SUSPECT it changes nothing. A removal posts CASSETTE REMOVED with the remaining count, and each order that still owes notes of it waits
for a re-mix unless its end has begun. A removal of an absent cassette and an insertion of a present one change nothing, for the command acts only
where its event can occur (the model's choice: log 20). An order row is the host placing the order (the model's choice: log 2). -/
def Obligations.CassetteCommands : Prop :=
  ∀ (s : State) (x : SlotId) (tag loaded : Word) (c : CassId), s.supply = true →
    (s.wall.takesNow servicePage x .countSet = true → loaded.toNat ≤ 3000 → (s.wall.cassettes.get c).state = .uncounted →
      ∃ t,
        t = { s with latch := none, wall := (s.wall.posted servicePage x .countSet tag [word c.val, loaded]).take servicePage x }
      ∧ exec (.countSet x tag (word c.val) loaded) s = .next (t.evaluatedFor 79)
        ∧ t.wall.cassettes.get c =
          { s.wall.cassettes.get c with
              state := testedState loaded.toNat (s.wall.lowThreshold c), loaded := loaded.toNat, drawn := 0, misses := 0, rejects := 0,
              passages := 0, doubt := false, tr := s.wall.noteThickness c }
        ∧ (∀ d, d ≠ c → t.wall.cassettes.get d = s.wall.cassettes.get d)
        ∧ (t.wall.slot servicePage x).state = .finished
        ∧ (t.wall.slot servicePage x).result = resultWords .done (s.wall.slot servicePage x).tooLate s.wall.port.seconds
            [word (testedState loaded.toNat (s.wall.lowThreshold c)).code, loaded]
        ∧ (∀ e, e = (if loaded = 0#16 then s.wall.post (.cassetteEmpty c) 1
            else if loaded.toNat ≤ s.wall.lowThreshold c then s.wall.post (.cassetteLow c) loaded.toNat
            else s.wall) → t.wall.board = e.board ∧ t.wall.lost = e.lost)
        ∧ t.wall.lanes = s.wall.lanes ∧ t.wall.bins = s.wall.bins ∧ t.wall.profile = s.wall.profile)
    ∧ (s.wall.takesNow servicePage x .cassetteClear = true →
      ∃ t,
        t = { s with latch := none, wall := (s.wall.posted servicePage x .cassetteClear tag [word c.val]).take servicePage x }
      ∧ exec (.cassetteClear x tag (word c.val)) s = .next (t.evaluatedFor 79)
        ∧ t.wall.cassettes.get c =
          (if (s.wall.cassettes.get c).state = .suspect then
            { s.wall.cassettes.get c with
                rejects := 0, state := testedState (s.wall.cassettes.get c).remaining (s.wall.lowThreshold c) }
          else s.wall.cassettes.get c)
        ∧ (∀ d, d ≠ c → t.wall.cassettes.get d = s.wall.cassettes.get d)
        ∧ (∀ e, e = (if (s.wall.cassettes.get c).state ≠ .suspect then s.wall
            else if (s.wall.cassettes.get c).remaining = 0 then s.wall.post (.cassetteEmpty c) 1
            else if (s.wall.cassettes.get c).remaining ≤ s.wall.lowThreshold c then
              s.wall.post (.cassetteLow c) (s.wall.cassettes.get c).remaining
            else s.wall) → t.wall.board = e.board ∧ t.wall.lost = e.lost)
        ∧ s.wall.finishedWith t.wall servicePage x .done
          [word (t.wall.cassettes.get c).state.code, word (s.wall.cassettes.get c).remaining]
        ∧ t.wall.lanes = s.wall.lanes ∧ t.wall.bins = s.wall.bins)
    ∧ ((s.wall.cassettes.get c).present = true →
      ∃ t, exec (.cassetteRemoval c) s = .next t
        ∧ t.wall.cassettes.get c = { s.wall.cassettes.get c with present := false, state := .absent }
        ∧ (∀ d, d ≠ c → t.wall.cassettes.get d = s.wall.cassettes.get d) ∧ t.wall.lanes = s.wall.lanes ∧ t.wall.pages = s.wall.pages
        ∧ ((s.wall.cassettes.get c).state ≠ .absent →
          (∀ e, e = s.wall.post (.cassetteRemoved c) (s.wall.cassettes.get c).remaining → t.wall.board = e.board ∧ t.wall.lost = e.lost)
          ∧ ∀ n k ty, s.wall.contextOf n = some k → s.wall.tallyOf n = some ty → t.wall.tallyOf n = some
            { ty with remixWait := ty.remixWait || (decide (0 < k.outstanding.get c) && !s.wall.endBegun n) }))
    ∧ ((s.wall.cassettes.get c).present = true → exec (.cassetteInsertion c) s = .next s)
    ∧ ((s.wall.cassettes.get c).present = false → exec (.cassetteRemoval c) s = .next s)
    ∧ ((s.wall.cassettes.get c).present = false →
      exec (.cassetteInsertion c) s = .next
        { s with wall := s.wall.modCassette c fun r =>
            { r with present := true, state := .uncounted, loaded := 0, drawn := 0, misses := 0, rejects := 0, passages := 0, doubt := false,
                     tr := s.wall.noteThickness c } })

/-- R119, R136, R89, R109: a BIN RESET of a serviced bin empties its record and ends. With the room in the deposit bin the timers of stranded HELD
pockets are loaded. With room in the reject bin or the retract bin a grant evaluation is made, and on an IDLE path without hold it brings the
oldest RETRACT request forward, held back or not: to the retract bin where that is not full, or else, the reject bin being the one emptied or
having room, to the reject bin with RETRACT DIVERTED. An order row is the host placing the order (the model's choice: log 2). -/
def Obligations.BinResets : Prop :=
  ∀ (s : State) (x : SlotId) (tag : Word) (k : BinId), s.supply = true → s.wall.takesNow servicePage x .binReset = true →
    (s.wall.bins.get k).door = true →
    ∃ u, u = (s.wall.posted servicePage x .binReset tag [word k.val]).emptyBin x k
      ∧ ∃ t, t = { s with latch := none, wall := (s.wall.posted servicePage x .binReset tag [word k.val]).take servicePage x }
      ∧ exec (.binReset x tag (word k.val)) s = .next (t.evaluatedFor 79)
      ∧ t.wall.bins.get k =
        { s.wall.bins.get k with count := 0, nearFull := false, full := false, door := false, restarted := false }
      ∧ (∀ j, j ≠ k → t.wall.bins.get j = s.wall.bins.get j) ∧ t.wall.depositTotal = s.wall.depositTotal
      ∧ (t.wall.slot servicePage x).state = .finished
      ∧ (t.wall.slot servicePage x).result = resultWords .done (s.wall.slot servicePage x).tooLate s.wall.port.seconds
          [word (s.wall.bins.get k).count, word (markBit 0 (s.wall.bins.get k).restarted)]
      ∧ u.transport = s.wall.transport ∧ u.lanes = s.wall.lanes ∧ u.gate = s.wall.gate ∧ u.engine = s.wall.engine
      ∧ u.board = s.wall.board ∧ u.lost = s.wall.lost ∧ u.port = s.wall.port
      ∧ (k = depositBin → t.wall.transport = s.wall.transport ∧ ∀ n, t.wall.lanes.get n =
          if (s.wall.bins.get k).full = true ∧ (s.wall.lanes.get n).pocket.state = .held ∧ (s.wall.lanes.get n).pocket.stranded = true then
            { s.wall.lanes.get n with
                pocket := { (s.wall.lanes.get n).pocket with holdMs := s.wall.holdLimitMs, timerRunning := true, stranded := false } }
          else s.wall.lanes.get n)
      ∧ (k ≠ depositBin → t.wall = u.transportGrant
        ∧ (s.wall.transport.state ≠ .idle ∨ s.wall.held = true ∨ s.wall.transport.queue = [] → t.wall = u)
        ∧ (s.wall.transport.state = .idle → s.wall.held = false →
          ∀ r, s.wall.transport.queue.find? (fun q => q.kind == .retract) = some r →
          t.wall.transport.state = .granted ∧ t.wall.transport.join = .retract r.lane
          ∧ (t.wall.lanes.get r.lane).bundle.phase = .sweeping
          ∧ (t.wall.lanes.get r.lane).bundle.dest =
            (if k = retractBin ∨ (s.wall.bins.get retractBin).full = false then .retractBin else .reject)
          ∧ (k = rejectBin → (s.wall.bins.get retractBin).full = true →
            ∀ e, e = s.wall.post (.retractDiverted r.lane) (s.wall.bins.get retractBin).count → t.wall.board = e.board ∧ t.wall.lost = e.lost)
          ∧ (k = retractBin ∨ (s.wall.bins.get retractBin).full = false → t.wall.board = s.wall.board ∧ t.wall.lost = s.wall.lost)
          ∧ ∀ m, m ≠ r.lane → t.wall.lanes.get m = s.wall.lanes.get m))

/-- R100, R99, R132, R20: a PATH RESET of the transport, of the conveyor and of a drawer. An order row is the host placing the order (the model's
choice: log 2). -/
def Obligations.PathResets : Prop :=
  ∀ (s : State) (x : SlotId) (tag : Word), s.supply = true → s.wall.takesNow servicePage x .pathReset = true →
    (s.wall.transport.join = .none → s.wall.transport.queue = [] → ∃ t,
        t = { s with latch := none, wall := (s.wall.posted servicePage x .pathReset tag [0#16]).take servicePage x }
      ∧ exec (.pathReset x tag 0#16) s = .next (t.evaluatedFor 79)
      ∧ t.wall.transport = { s.wall.transport with state := .clearing, join := .clearance, seen := 0, clearPulses := 4000, silentMs := 0 }
      ∧ t.wall.gate = { s.wall.gate with gapCounter := none, openPicks := [], lastPick := none }
      ∧ (t.wall.slot servicePage x).state = s.wall.workState ∧ t.wall.lanes = s.wall.lanes ∧ t.wall.conveyor = s.wall.conveyor)
    ∧ (s.wall.conveyor.carried = none → s.wall.conveyor.queue = [] → ∃ t,
        t = { s with latch := none, wall := (s.wall.posted servicePage x .pathReset tag [1#16]).take servicePage x }
      ∧ exec (.pathReset x tag 1#16) s = .next (t.evaluatedFor 79)
      ∧ t.wall.conveyor =
        { s.wall.conveyor with
            state := .clearing, seen := 0, clearMs := 10000, clearFromFault := s.wall.conveyor.state == .faulted }
      ∧ (t.wall.slot servicePage x).state = s.wall.workState ∧ t.wall.lanes = s.wall.lanes ∧ t.wall.transport = s.wall.transport)
    ∧ (∀ n : LaneId, (s.wall.lanes.get n).owner = none → (s.wall.lanes.get n).waiting = [] → ∃ t,
        t = { s with latch := none, wall := (s.wall.posted servicePage x .pathReset tag [word (2 + n.val)]).take servicePage x }
      ∧ exec (.pathReset x tag (word (2 + n.val))) s = .next (t.evaluatedFor 79)
      ∧ ((s.wall.lanes.get n).stowedSensor = true →
          (t.wall.lanes.get n).drawer = (if (s.wall.lanes.get n).itemSensor then .holding else .stowed) ∧ (t.wall.lanes.get n).bounce = 0
          ∧ (t.wall.slot servicePage x).state = .finished)
      ∧ ((s.wall.lanes.get n).stowedSensor = false →
          (t.wall.lanes.get n).drawer = .closing ∧ (t.wall.lanes.get n).travel = .inward ∧ (t.wall.lanes.get n).budgetMs = 4000
          ∧ (t.wall.slot servicePage x).state = s.wall.workState)
      ∧ (t.wall.lanes.get n).owner = none ∧ ∀ m, m ≠ n → t.wall.lanes.get m = s.wall.lanes.get m)

/-- R151, R152, R149: the three zone orders that pass their checks, each with the zone's state before and after in the result; a zone that leaves
ALARM posts ZONE CLEARED, detail 1 for a disarm and 2 for a reset, and the outputs are computed anew. An order row is the host placing the order (the
model's choice: log 2). -/
def Obligations.ZoneOrders : Prop :=
  ∀ (s : State) (x : SlotId) (tag : Word) (z : ZoneId), s.supply = true →
    (s.wall.takesNow servicePage x .zoneArm = true → (s.wall.zones.get z).mode = .armable → s.wall.activeMember z = none →
      ∃ t,
        t = { s with latch := none, wall := (s.wall.posted servicePage x .zoneArm tag [word z.val]).take servicePage x }
      ∧ exec (.zoneArm x tag (word z.val)) s = .next (t.evaluatedFor 79)
        ∧ t.wall.zones.get z =
          { s.wall.zones.get z with state := if (s.wall.zones.get z).state = .disarmed then .armed else (s.wall.zones.get z).state }
        ∧ (∀ y, y ≠ z → t.wall.zones.get y = s.wall.zones.get y) ∧ t.wall.points = s.wall.points ∧ t.wall.board = s.wall.board
        ∧ (t.wall.slot servicePage x).state = .finished
        ∧ (t.wall.slot servicePage x).result = resultWords .done (s.wall.slot servicePage x).tooLate s.wall.port.seconds
            [word (s.wall.zones.get z).state.code, word (t.wall.zones.get z).state.code])
    ∧ (s.wall.takesNow servicePage x .zoneDisarm = true → (s.wall.zones.get z).mode = .armable →
      ∃ t,
        t = { s with latch := none, wall := (s.wall.posted servicePage x .zoneDisarm tag [word z.val]).take servicePage x }
      ∧ exec (.zoneDisarm x tag (word z.val)) s = .next (t.evaluatedFor 79) ∧ (t.wall.zones.get z).state = .disarmed
        ∧ ((s.wall.zones.get z).state ≠ .disarmed → (t.wall.zones.get z).trigger = none ∧ (t.wall.zones.get z).entryMs = 0
          ∧ t.wall.alarm =
            { s.wall.alarm with siren := t.wall.sirenCalled, strobe := t.wall.strobeCalled, silent := t.wall.silentCalled })
        ∧ ((s.wall.zones.get z).state = .alarm → (t.wall.zones.get z).sirenMs = none
          ∧ t.wall.board = (s.wall.post (.zoneCleared z) 1).board ∧ t.wall.lost = (s.wall.post (.zoneCleared z) 1).lost)
        ∧ ((s.wall.zones.get z).state ≠ .alarm → t.wall.board = s.wall.board ∧ t.wall.lost = s.wall.lost)
        ∧ ((s.wall.zones.get z).state = .disarmed → t.wall.zones = s.wall.zones ∧ t.wall.alarm = s.wall.alarm)
        ∧ (∀ y, y ≠ z → t.wall.zones.get y = s.wall.zones.get y) ∧ t.wall.alarm.lockdown = s.wall.alarm.lockdown
        ∧ t.wall.points = s.wall.points ∧ (t.wall.slot servicePage x).state = .finished
        ∧ (t.wall.slot servicePage x).result = resultWords .done (s.wall.slot servicePage x).tooLate s.wall.port.seconds
            [word (s.wall.zones.get z).state.code, word ZoneState.disarmed.code])
    ∧ (s.wall.takesNow servicePage x .zoneReset = true → (s.wall.zones.get z).mode = .always → s.wall.activeMember z = none →
      (∀ p ∈ s.wall.members z, (s.wall.points.get p).alert = false) →
      ∃ t,
        t = { s with latch := none, wall := (s.wall.posted servicePage x .zoneReset tag [word z.val]).take servicePage x }
      ∧ exec (.zoneReset x tag (word z.val)) s = .next (t.evaluatedFor 79)
        ∧ (t.wall.zones.get z).state = (if (s.wall.zones.get z).state = .alarm then .armed else (s.wall.zones.get z).state)
        ∧ ((s.wall.zones.get z).state ≠ .alarm → t.wall.zones.get z = s.wall.zones.get z ∧ t.wall.board = s.wall.board
          ∧ t.wall.alarm = s.wall.alarm)
        ∧ ((s.wall.zones.get z).state = .alarm → (t.wall.zones.get z).trigger = none ∧ (t.wall.zones.get z).sirenMs = none
          ∧ t.wall.alarm =
            { s.wall.alarm with siren := t.wall.sirenCalled, strobe := t.wall.strobeCalled, silent := t.wall.silentCalled }
          ∧ t.wall.board = (s.wall.post (.zoneCleared z) 2).board ∧ t.wall.lost = (s.wall.post (.zoneCleared z) 2).lost)
        ∧ (∀ y, y ≠ z → t.wall.zones.get y = s.wall.zones.get y) ∧ t.wall.points = s.wall.points
        ∧ (t.wall.slot servicePage x).state = .finished
        ∧ (t.wall.slot servicePage x).result = resultWords .done (s.wall.slot servicePage x).tooLate s.wall.port.seconds
            [word (s.wall.zones.get z).state.code, word (t.wall.zones.get z).state.code])

/-- R155, R154, R18, R102, R127, R105, R16: a LOCKDOWN CLEAR that passes its check clears the flag and keeps the record of the last lockdown. The
entry of lockdown records its zone and start, posts LOCKDOWN ON, and goes over the lanes from 0 up (log 11). Of a lane: OPEN becomes CLOSING; an
OFFERED drawer with an owner and an OPENING one enter CLOSING with a fresh 4 s and the cause LOCKDOWN, timer and clear window stopped, and any
other drawer is as before (that a DEPOSIT or a DISPENSE that owns it is to close at each arrival is the field of log 43; that the travel's turn
clears the extended sensor is log 16). A waiting DEPOSIT finishes LOCKDOWN; one that owns its drawer takes its lockdown mark. A DISPENSE in DRAWER
WAIT or BUNDLE WAIT finishes LOCKDOWN, its request dropped and its reservation released; one in BUILDING picks no further and takes no further
note, and finishes LOCKDOWN at once where its path is settled and its stacker empty, with the grant evaluation before the lane's other effects; in
the other phases LOCKDOWN becomes its end cause; one whose end has begun keeps that end. LOCKDOWN OFF is posted with the seconds from the start,
saturating at 65535, where the flag was 1. An order row is the host placing the order (the model's choice: log 2). -/
def Obligations.LockdownClearAndEntry : Prop :=
  (∀ (s : State) (x : SlotId) (tag : Word), s.supply = true → s.wall.takesNow servicePage x .lockdownClear = true →
    (∀ z, (s.wall.zones.get z).lockdownAlarm = false) →
    ∃ t,
        t = { s with latch := none, wall := (s.wall.posted servicePage x .lockdownClear tag []).take servicePage x }
      ∧ exec (.lockdownClear x tag) s = .next (t.evaluatedFor 79) ∧ t.wall.alarm = { s.wall.alarm with lockdown := false }
      ∧ (s.wall.lockdown = true → ∀ e, e = s.wall.post .lockdownOff (min 65535 (s.wall.port.seconds - s.wall.alarm.lockdownStart).toNat) →
        t.wall.board = e.board ∧ t.wall.lost = e.lost)
      ∧ (s.wall.lockdown = false → t.wall.board = s.wall.board ∧ t.wall.lost = s.wall.lost)
      ∧ t.wall.lanes = s.wall.lanes ∧ t.wall.zones = s.wall.zones ∧ (t.wall.slot servicePage x).state = .finished
      ∧ (t.wall.slot servicePage x).result = resultWords .done (s.wall.slot servicePage x).tooLate s.wall.port.seconds
          [highWord s.wall.alarm.lockdownStart, lowWord s.wall.alarm.lockdownStart, noneWord s.wall.alarm.lockdownZone])
  ∧ (∀ (w : Wall) (z : ZoneId), w.lockdown = false →
    (w.enterLockdown z).alarm = { w.alarm with lockdown := true, lockdownZone := some z, lockdownStart := w.port.seconds }
    ∧ (w.transport.queue = [] → (w.enterLockdown z).board = (w.post .lockdownOn z.val).board
      ∧ (w.enterLockdown z).lost = (w.post .lockdownOn z.val).lost)
    ∧ (∀ n, ((w.enterLockdown z).lanes.get n).state = if (w.lanes.get n).state = .opened then .closing else (w.lanes.get n).state)
    ∧ ∀ v : Wall, v = { w with alarm := { w.alarm with lockdown := true, lockdownZone := some z, lockdownStart := w.port.seconds } } →
      w.enterLockdown z = laneIds.foldl (fun u n => u.lockdownLane n) (v.post .lockdownOn z.val))
  ∧ ∀ (w : Wall) (n : LaneId), ∃ t, t = w.lockdownLane n ∧ ∃ l, l = w.lanes.get n
    ∧ (t.lanes.get n).state = (if l.state = .opened then .closing else l.state) ∧ (t.lanes.get n).pocket = l.pocket
    ∧ t.conveyor = w.conveyor ∧ t.port = w.port ∧ t.profile = w.profile ∧ t.points = w.points ∧ t.zones = w.zones ∧ t.alarm = w.alarm
    ∧ t.bins = w.bins
    ∧ ((w.contextOf n).map DispenseContext.phase ≠ some .building → (∀ m, m ≠ n → t.lanes.get m = w.lanes.get m)
      ∧ t.gate = w.gate ∧ t.board = w.board ∧ t.lost = w.lost)
    ∧ ((∀ c, w.contextOf n = some c → c.phase ≠ .drawerWait ∧ c.phase ≠ .bundleWait ∧ c.phase ≠ .building) ∨ w.endBegun n = true →
      ((l.drawer = .offered ∧ l.owner ≠ none) ∨ l.drawer = .opening → t.lanes.get n =
        { l with
            state := if l.state = .opened then .closing else l.state, waiting := (t.lanes.get n).waiting, drawer := .closing,
            travel := .inward, budgetMs := 4000, timerMs := 0, window := none, closeCause := .lockdown, obstructed := false,
            extendedSensor := l.extendedSensor && w.held, ownerClose := if w.ownerLocks n then some .lockdown else l.ownerClose })
      ∧ (¬ (l.drawer = .offered ∧ l.owner ≠ none) → l.drawer ≠ .opening → t.lanes.get n =
        { l with
            state := if l.state = .opened then .closing else l.state, waiting := (t.lanes.get n).waiting,
            ownerClose := if l.drawer = .closing ∧ w.ownerLocks n = true then some .lockdown else l.ownerClose }))
    ∧ (w.orderOf n .dispense = none → w.orderOf n .deposit = none → t = { w with lanes := t.lanes } ∧ (t.lanes.get n).waiting = l.waiting)
    ∧ (∀ x, w.orderOf n .deposit = some x → w.engine.loaded.map Loaded.lane ≠ some n →
      (l.owner = some x → t.slot (lanePage n) x = { w.slot (lanePage n) x with lockdownMark := true })
      ∧ (l.owner ≠ some x → x ∉ (t.lanes.get n).waiting
        ∧ w.finishedWith t (lanePage n) x .lockdown (depositFields l.closeCause .none l.pocket.state)))
    ∧ (∀ x c ty, w.orderOf n .dispense = some x → w.contextOf n = some c → w.tallyOf n = some ty →
      (c.endCause ≠ .none ∨ ty.faulted = true ∨ c.phase = .purging →
        t.contextOf n = some c ∧ t.engine = w.engine ∧ t.transport = w.transport ∧ t.cassettes = w.cassettes
        ∧ t.slot (lanePage n) x = w.slot (lanePage n) x)
      ∧ (c.endCause = .none → ty.faulted = false → w.engine.loaded.map Loaded.lane ≠ some n → c.phase = .drawerWait ∨ c.phase = .bundleWait →
        w.finishedWith t (lanePage n) x .lockdown (tallyWords c ty (w.valueOf ty.presented) w.duressAlarm)
        ∧ (∀ k, (t.cassettes.get k).reserved = (w.cassettes.get k).reserved - c.outstanding.get k) ∧ t.tallyOf n = none
        ∧ (t.lanes.get n).owner ≠ some x ∧ x ∉ (t.lanes.get n).waiting
        ∧ t.transport =
          { w.transport with
              queue := if c.phase = .bundleWait then w.transport.queue.filter fun r => !(r.lane == n && r.kind == .bundle)
                       else w.transport.queue })
      ∧ (c.endCause = .none → ty.faulted = false → c.phase = .delivering ∨ c.phase = .inDrawer ∨ c.phase = .retracting →
        t.contextOf n = some { c with endCause := .lockdown } ∧ t.tallyOf n = some { ty with remixWait := false }
        ∧ t.transport = w.transport ∧ t.cassettes = w.cassettes ∧ (t.slot (lanePage n) x).state = (w.slot (lanePage n) x).state)
      ∧ (c.endCause = .none → ty.faulted = false → c.phase = .building → ∀ y, w.engine.loaded = some y → y.lane = n → y.slot = x →
        w.transport.join = .dispense n → w.transport.state = .granted →
        (w.pathSettled = false ∨ 0 < w.transport.stackerCount → t.contextOf n = some { c with endCause := .lockdown }
          ∧ t.tallyOf n = some { ty with remixWait := false } ∧ t.gate = { w.gate with acceptEnable := false } ∧ t.transport = w.transport
          ∧ t.cassettes = w.cassettes ∧ (t.slot (lanePage n) x).state = (w.slot (lanePage n) x).state)
        ∧ (w.pathSettled = true → w.transport.stackerCount = 0 →
          ∃ u, u = (((((w.modLane n fun l => { l with state := if l.state = .opened then .closing else l.state }).modContext n fun k =>
            { k with endCause := .lockdown }).modTally n fun k => { k with remixWait := false }).modGate fun g =>
            { g with acceptEnable := false }).endEmpty n)
          ∧ t = (u.transportGrant.lockdownDeposit n).closeByLockdown n
          ∧ w.finishedWith u (lanePage n) x .lockdown (tallyWords c ty (w.valueOf ty.presented) w.duressAlarm)
          ∧ (∀ k, (u.cassettes.get k).reserved = (w.cassettes.get k).reserved - c.outstanding.get k) ∧ u.tallyOf n = none
          ∧ u.transport = { w.transport with state := .idle, join := .none } ∧ u.gate = { w.gate with acceptEnable := false })))

/-- R175, R176, R33, R28, R7, R6, R19, R103, R89: hold comes into force by the line and by a HOLD WALL, and ends by the line and by a RELEASE WALL,
taken past a service order that is HELD too: the hold start, the slots, the order's result, and the news: HOLD ON with 1 for the line or 2 for the
order, HOLD OFF with the seconds of the hold, saturating at 65535. As hold ends, each drawer that it stopped resumes: a travel out goes on, a close
goes on, and one whose obstruction sensor is active counts it as an activation: a bounce with an owner, a stop without one, and at the fourth the
drawer jams, which posts DRAWER JAMMED after HOLD OFF and ends its owner and a PATH RESET. Then the transport's grant evaluation is made. While the
other cause is in force, or where a HOLD WALL finds the order cause set or a RELEASE WALL finds it clear, the cause alone takes its value and
nothing is posted. The model's choices: an order row is the host placing the order (log 2); the travel that resumes clears the sensor it leaves
(log 16); the bounce as hold ends frees the obstruction sensor, but for the fourth, which jams (log 26); a close that was granted in hold and never
moved waits for the sensor's report (log 46). -/
def Obligations.HoldCommands : Prop :=
  (∀ (w : Wall) (n : LaneId), w.held = false → ∃ u, u = w.holdReleased ∧ ∃ l, l = w.lanes.get n
    ∧ (l.drawer = .opening → u.lanes.get n = { l with stowedSensor := false, leaving := l.leaving || l.stowedSensor })
    ∧ (l.drawer ≠ .opening → w.drawerDriven n = false → u.lanes.get n = l)
    ∧ (l.drawer = .closing → w.drawerDriven n = true →
      (l.obstructionSensor = false → u.lanes.get n = { l with extendedSensor := false })
      ∧ (l.obstructionSensor = true → l.owner ≠ none → l.bounce < 3 → u.lanes.get n =
        { l with
            extendedSensor := false, obstructionSensor := false, bounce := l.bounce + 1, shortTimer := true, drawer := .opening,
            travel := .outward, budgetMs := 4000, stowedSensor := false, leaving := l.leaving || l.stowedSensor })
      ∧ (l.obstructionSensor = true → l.owner = none → l.bounce < 3 → u.lanes.get n =
        { l with extendedSensor := false, bounce := l.bounce + 1, obstructed := true })
      ∧ (l.obstructionSensor = true → 3 ≤ l.bounce →
        (u.lanes.get n).drawer = .jammed ∧ (u.lanes.get n).owner = none ∧ (u.lanes.get n).bounce = 4 ∧ (u.lanes.get n).travel = .none
        ∧ (u.lanes.get n).cycle = .none
        ∧ ((∀ m, m ≠ n → (w.lanes.get m).drawer = .closing → (w.lanes.get m).obstructionSensor = true → (w.lanes.get m).bounce < 3) →
          ∀ e, e = (w.post .holdOff (min 65535 (w.port.seconds - w.port.holdStart).toNat)).post (.drawerJammed n) l.travel.code →
          u.board = e.board ∧ u.lost = e.lost)
        ∧ (∀ y, w.pathReset (2 + n.val) = some y → (u.slot servicePage y).state = .finished
          ∧ (u.slot servicePage y).result = resultWords .drawerJammed (w.slot servicePage y).tooLate w.port.seconds [])
        ∧ ∀ x, l.owner = some x → w.waitsElsewhere n x →
          w.kindAt (lanePage n) x = some .deposit ∨ w.kindAt (lanePage n) x = some .returnEnvelope
            ∨ (w.orderOf n .dispense = some x ∧ w.contextOf n ≠ none ∧ (w.tallyOf n).map Tally.faulted = some false
              ∧ w.engine.loaded.map Loaded.lane ≠ some n) →
          (u.slot (lanePage n) x).state = .finished
          ∧ (u.slot (lanePage n) x).result.take 4 = resultWords .drawerJammed (w.slot (lanePage n) x).tooLate w.port.seconds []))
    ∧ u.port = w.port
    ∧ ((∀ m, (w.lanes.get m).drawer = .closing → (w.lanes.get m).obstructionSensor = true → (w.lanes.get m).bounce < 3) →
      (∀ e, e = w.post .holdOff (min 65535 (w.port.seconds - w.port.holdStart).toNat) → u.board = e.board ∧ u.lost = e.lost)
      ∧ (∀ p y, u.slot p y = { w.slot p y with state := if (w.slot p y).state = .held then .running else (w.slot p y).state })
      ∧ u = { w with board := u.board, lost := u.lost, pages := u.pages, lanes := u.lanes }))
  ∧ ∀ (s : State) (x : SlotId) (tag : Word), s.supply = true →
    (s.wall.held = false → ∃ t, t = { s with wall := s.wall.setHold true s.wall.port.orderCause }
      ∧ exec .holdLineOn s = .next t.evaluated
      ∧ t.wall.port = { s.wall.port with lineCause := true, holdStart := s.wall.port.seconds } ∧ t.wall.held = true
      ∧ t.wall.gate.cut = (s.wall.gate.cut || s.wall.gate.inPassage) ∧ t.wall.lanes = s.wall.lanes
      ∧ t.wall.board = (s.wall.post .holdOn 1).board ∧ t.wall.lost = (s.wall.post .holdOn 1).lost
      ∧ ∀ p y, (t.wall.slot p y).state = if (s.wall.slot p y).state = .running then .held else (s.wall.slot p y).state)
    ∧ (s.wall.takesNow servicePage x .holdWall = true → s.wall.held = false → ∃ t,
        t = { s with latch := none, wall := (s.wall.posted servicePage x .holdWall tag []).take servicePage x }
      ∧ exec (.holdWall x tag) s = .next (t.evaluatedFor 79)
      ∧ t.wall.port = { s.wall.port with orderCause := true, holdStart := s.wall.port.seconds } ∧ t.wall.held = true
      ∧ t.wall.board = (s.wall.post .holdOn 2).board ∧ t.wall.lost = (s.wall.post .holdOn 2).lost
      ∧ (t.wall.slot servicePage x).state = .finished ∧ t.wall.lanes = s.wall.lanes
      ∧ (t.wall.slot servicePage x).result = resultWords .done (s.wall.slot servicePage x).tooLate s.wall.port.seconds [1#16]
      ∧ ∀ p y, (p, y) ≠ (servicePage, x) →
          (t.wall.slot p y).state = if (s.wall.slot p y).state = .running then .held else (s.wall.slot p y).state)
    ∧ (s.wall.port.lineCause = true → s.wall.port.orderCause = false → s.wall.transport.queue = [] →
      (∀ n, (s.wall.lanes.get n).drawer ≠ .opening ∧ (s.wall.lanes.get n).drawer ≠ .closing) →
        ∃ t, t = { s with wall := s.wall.setHold false s.wall.port.orderCause }
      ∧ exec .holdLineOff s = .next t.evaluated
      ∧ t.wall.port = { s.wall.port with lineCause := false } ∧ t.wall.held = false ∧ t.wall.lanes = s.wall.lanes
      ∧ (∀ e, e = s.wall.post .holdOff (min 65535 (s.wall.port.seconds - s.wall.port.holdStart).toNat) →
        t.wall.board = e.board ∧ t.wall.lost = e.lost)
      ∧ ∀ p y, (t.wall.slot p y).state = if (s.wall.slot p y).state = .held then .running else (s.wall.slot p y).state)
    ∧ (s.wall.port.lineCause = true → s.wall.port.orderCause = false →
        ∃ u, u = (s.wall.modPort fun p => { p with lineCause := false }).holdReleased
      ∧ ∃ t, t = { s with wall := u.transportGrant }
      ∧ exec .holdLineOff s = .next t.evaluated ∧ t.wall.port = { s.wall.port with lineCause := false } ∧ t.wall.held = false
      ∧ (s.wall.transport.state ≠ .idle ∨ s.wall.transport.queue = [] → t.wall = u))
    ∧ (s.wall.takesNow servicePage x .releaseWall = true → s.wall.port.lineCause = false → s.wall.port.orderCause = true →
        ∃ u, u = ((s.wall.posted servicePage x .releaseWall tag []).modPort fun p => { p with orderCause := false }).holdReleased
      ∧ ∃ t, t = { s with latch := none, wall := u.transportGrant.finish servicePage x .done [0#16] }
      ∧ exec (.releaseWall x tag) s = .next (t.evaluatedFor 79) ∧ t.wall.port = { s.wall.port with orderCause := false }
      ∧ t.wall.held = false ∧ (t.wall.slot servicePage x).state = .finished
      ∧ (s.wall.transport.state ≠ .idle ∨ s.wall.transport.queue = [] → u.transportGrant = u))
    ∧ (s.wall.held = true → exec .holdLineOn s = .next
        (State.evaluated { s with wall := s.wall.modPort fun p => { p with lineCause := true } }))
    ∧ (s.wall.port.orderCause = true ∨ s.wall.port.lineCause = false → exec .holdLineOff s = .next
        (State.evaluated { s with wall := s.wall.modPort fun p => { p with lineCause := false } }))
    ∧ (s.wall.takesNow servicePage x .holdWall = true → s.wall.held = true → exec (.holdWall x tag) s = .next
        (State.evaluatedFor 79
          { s with latch := none,
                   wall := ((s.wall.posted servicePage x .holdWall tag []).modPort fun p => { p with orderCause := true }).finish
                     servicePage x .done [1#16] }))
    ∧ (s.wall.takesNow servicePage x .releaseWall = true → s.wall.port.lineCause = true ∨ s.wall.port.orderCause = false →
      exec (.releaseWall x tag) s = .next
        (State.evaluatedFor 79
          { s with latch := none,
                   wall := ((s.wall.posted servicePage x .releaseWall tag []).modPort fun p => { p with orderCause := false }).finish
                     servicePage x .done [word (markBit 0 s.wall.port.lineCause)] }))
    ∧ (s.wall.takesNow servicePage x .releaseWall = true → s.wall.port.lineCause = false → s.wall.port.orderCause = true →
      s.wall.transport.queue = [] → (∀ n, (s.wall.lanes.get n).drawer ≠ .opening ∧ (s.wall.lanes.get n).drawer ≠ .closing) →
      ∃ t,
        t = { s with latch := none, wall := (s.wall.posted servicePage x .releaseWall tag []).take servicePage x }
      ∧ exec (.releaseWall x tag) s = .next (t.evaluatedFor 79) ∧ t.wall.port = { s.wall.port with orderCause := false } ∧ t.wall.held = false
      ∧ (∀ e, e = s.wall.post .holdOff (min 65535 (s.wall.port.seconds - s.wall.port.holdStart).toNat) →
        t.wall.board = e.board ∧ t.wall.lost = e.lost)
      ∧ (t.wall.slot servicePage x).state = .finished ∧ t.wall.lanes = s.wall.lanes
      ∧ (t.wall.slot servicePage x).result = resultWords .done (s.wall.slot servicePage x).tooLate s.wall.port.seconds [0#16]
      ∧ ∀ p y, (p, y) ≠ (servicePage, x) →
          (t.wall.slot p y).state = if (s.wall.slot p y).state = .held then .running else (s.wall.slot p y).state)

/-- R174, R171, R172, R4, R64, R78, R120, R136, R148, R149, R154, R157: an accepted PROFILE COMMIT starts the 200 ms programming of a profile that
passes its check and in which each field of the layout is the image's, clamped, or under the freeze mark the stored one if it is frozen, with the counts
of each and the freeze flag; the grouping of unused bits into fields is log 31's. At the end of programming, which stands still in hold, the words are
stored, PROFILE CLAMPED is posted with the clamped count where one was clamped, the words are loaded and the commit's slot finishes DONE with its counts
and the check result. A PROFILE LOAD on a quiet wall loads the stored profile, or the defaults where it fails its check, and says which. Each load, of any
cause, posts PROFILE DEFAULTED with its cause where the check fails, and each block applies the new active profile: the remaining test and the clamp of
Tr at the cassettes, the capacities with their flags and news at the bins, the timers of the stranded pockets where the deposit bin is no longer full,
the settings of the points, a changed polarity with its stable time restarted, and those of the zones, of which one whose mode has changed leaves ALARM
with ZONE CLEARED, detail 3, for its starting state, and as a 24-HOUR zone with a live ACTIVE member goes into ALARM, the outputs, and the entry of
lockdown. Each load applies the lane lockout mask: an OPEN lane whose bit is set becomes CLOSING and settles into LOCKED OUT. The model's choices: a
stored mode of 3 reads as the default (log 9), the zones one by one and the lockdown of which zone (log 37), the order of BIN NEAR FULL and BIN FULL
(log 55), the order of the blocks' news (log 64). An order row is the host placing the order (log 2). -/
def Obligations.ProfileOrders : Prop :=
  (∀ p : ProfileStore,
    p.freezeMark = (decide (p.stored.get 63 = profileCheck p.stored) && decide (profileWord p.stored 62 % 2 = 1))
    ∧ p.commit.leftMs = 200 ∧ passesCheck p.commit.words = true
    ∧ (∀ f ∈ profileFields, f.get p.commit.words =
        if p.freezeMark = true ∧ f ∈ frozenFields then f.get p.stored else f.rule.apply (f.get p.image))
    ∧ profileWord p.commit.words 62 % 2 = (if p.freezeMark = true ∨ profileWord p.image 62 % 2 = 1 then 1 else 0)
    ∧ p.commit.clamped = (profileFields.filter fun f => f.rule.apply (f.get p.image) ≠ f.get p.image).length
    ∧ p.commit.frozen =
      if p.freezeMark then (frozenFields.filter fun f => f.rule.apply (f.get p.image) ≠ f.get p.stored).length else 0)
  ∧ (∀ (w : Wall) (cause : Nat), w.loadedBy ((w.load cause).applyProfile) cause)
  ∧ ∀ (s : State) (x : SlotId) (tag : Word), s.supply = true →
    (s.wall.takesNow servicePage x .profileCommit = true → s.wall.quiet = true → ∃ t,
        t = { s with latch := none, wall := (s.wall.posted servicePage x .profileCommit tag []).take servicePage x }
      ∧ exec (.profileCommit x tag) s = .next (t.evaluatedFor 79)
      ∧ (t.wall.slot servicePage x).state = s.wall.workState
      ∧ t.wall.profile = { s.wall.profile with programming := some s.wall.profile.commit }
      ∧ t.wall.lanes = s.wall.lanes ∧ t.wall.cassettes = s.wall.cassettes ∧ t.wall.board = s.wall.board)
    ∧ (∀ g, s.wall.profile.programming = some g → s.wall.held = false → ∃ t, t = { s with wall := s.wall.programmingEnds }
      ∧ exec .programmingEnd s = .next t.evaluated
      ∧ (∀ v, v = { s.wall with profile := { s.wall.profile with stored := g.words, programming := none } } →
        ∀ u, u = ((if 0 < g.clamped then v.post .profileClamped g.clamped else v).load 4).applyProfile →
          (s.wall.serviceOrder .profileCommit = none → t.wall = u)
          ∧ ∀ y, s.wall.serviceOrder .profileCommit = some y →
            t.wall = u.finish servicePage y .done [word g.clamped, word g.frozen, word (markBit 0 (!passesCheck g.words))])
      ∧ t.wall.profile.stored = g.words
      ∧ t.wall.profile.programming = none ∧ t.wall.profile.image = s.wall.profile.image
      ∧ t.wall.profile.active = (if passesCheck g.words then g.words else defaultProfile)
      ∧ (t.wall.alarm.lockdown = s.wall.alarm.lockdown → ∀ n, (t.wall.lanes.get n).state =
        if t.wall.lockedOut n then
          (if (s.wall.lanes.get n).state = .closed then .lockedOut else if (s.wall.lanes.get n).state = .opened then .closing
          else (s.wall.lanes.get n).state)
        else if (s.wall.lanes.get n).state = .lockedOut then .closed else (s.wall.lanes.get n).state)
      ∧ ∀ y, s.wall.serviceOrder .profileCommit = some y →
        (t.wall.slot servicePage y).state = .finished
        ∧ (t.wall.slot servicePage y).result = resultWords .done (s.wall.slot servicePage y).tooLate s.wall.port.seconds
            [word g.clamped, word g.frozen, word (markBit 0 (!passesCheck g.words))])
    ∧ (s.wall.held = true → exec .programmingEnd s = .next s.evaluated)
    ∧ (s.wall.takesNow servicePage x .profileLoad = true → s.wall.quiet = true → ∃ t,
        t = { s with latch := none, wall := (s.wall.posted servicePage x .profileLoad tag []).take servicePage x }
      ∧ exec (.profileLoad x tag) s = .next (t.evaluatedFor 79)
      ∧ t.wall = (((s.wall.posted servicePage x .profileLoad tag []).load 3).applyProfile).finish servicePage x .done
          [word (markBit 0 (!passesCheck s.wall.profile.stored))]
      ∧ t.wall.profile =
        { s.wall.profile with active := if passesCheck s.wall.profile.stored then s.wall.profile.stored else defaultProfile }
      ∧ (t.wall.slot servicePage x).state = .finished
      ∧ (t.wall.slot servicePage x).result = resultWords .done (s.wall.slot servicePage x).tooLate s.wall.port.seconds
          [word (markBit 0 (!passesCheck s.wall.profile.stored))]
      ∧ (t.wall.alarm.lockdown = s.wall.alarm.lockdown → ∀ n, (t.wall.lanes.get n).state =
        if t.wall.lockedOut n then
          (if (s.wall.lanes.get n).state = .closed then .lockedOut else if (s.wall.lanes.get n).state = .opened then .closing
          else (s.wall.lanes.get n).state)
        else if (s.wall.lanes.get n).state = .lockedOut then .closed else (s.wall.lanes.get n).state))
    ∧ (s.wall.takesNow servicePage x .profileLoad = true → s.wall.quiet = true →
      (∀ p y, (s.wall.slot p y).state ≠ .posted) → (∀ n, (s.wall.lanes.get n).waiting = []) →
      ∃ t, exec (.profileLoad x tag) s = .next t ∧ ∀ n, (t.wall.alarm.lockdown = s.wall.alarm.lockdown → (t.wall.lanes.get n).state =
        if t.wall.lockedOut n then .lockedOut else if (s.wall.lanes.get n).state = .opened then .opened else .closed))

/-- R179: a CLOCK SET gives wall seconds its parameter, restarts the second timer and answers the old value, its own finish seconds being the new one;
a second of the timer raises wall seconds by 1, wrapping. An order row is the host placing the order (the model's choice: log 2). -/
def Obligations.ClockCommands : Prop :=
  ∀ (s : State) (x : SlotId) (tag high low : Word), s.supply = true →
    (s.wall.takesNow servicePage x .clockSet = true → ∃ t,
        t = { s with latch := none, wall := (s.wall.posted servicePage x .clockSet tag [high, low]).take servicePage x }
      ∧ exec (.clockSet x tag high low) s = .next (t.evaluatedFor 79)
      ∧ t.wall.port = { s.wall.port with seconds := dword high low, secondMs := 0 }
      ∧ (t.wall.slot servicePage x).state = .finished
      ∧ (t.wall.slot servicePage x).result = resultWords .done (s.wall.slot servicePage x).tooLate (dword high low)
          [highWord s.wall.port.seconds, lowWord s.wall.port.seconds]
      ∧ t.wall.lanes = s.wall.lanes ∧ t.wall.board = s.wall.board ∧ t.wall.alarm = s.wall.alarm)
    ∧ exec .wallSecond s = .next { s with wall := s.wall.modPort fun p => { p with seconds := p.seconds + 1#32, secondMs := 0 } }

/-- R35, R55, R91, R11, R88, R89, R92: a DISPENSE that passes its checks reserves its mix, takes the STOWED drawer and queues its BUNDLE request,
and the transport's grant evaluation follows; with the path IDLE, no hold and no other request it is granted at once and its bundle is begun. An
order row is the host placing the order (the model's choice: log 2). -/
def Obligations.DispenseBegins : Prop :=
  ∀ (s : State) (n : LaneId) (x : SlotId) (tag mode amount c0 c1 c2 c3 : Word), s.supply = true →
    s.wall.takesNow (lanePage n) x .dispense = true →
    (s.wall.posted (lanePage n) x .dispense tag [mode, amount, c0, c1, c2, c3]).refusal (lanePage n) x = none →
    ∀ v, s.wall.orderMix { s.wall.slot (lanePage n) x with body := orderBody .dispense tag [mode, amount, c0, c1, c2, c3] } = some v →
    (s.wall.lanes.get n).drawer = .stowed → (s.wall.lanes.get n).forced = false → (s.wall.lanes.get n).owner = none →
    s.wall.engine.loaded.map Loaded.lane ≠ some n →
    (s.wall.transport.state ≠ .faulted → exec (.dispense n x tag mode amount c0 c1 c2 c3) s = .next
      (State.evaluatedFor 78
        { s with latch := none,
                 wall := ((s.wall.posted (lanePage n) x .dispense tag [mode, amount, c0, c1, c2, c3]).take (lanePage n) x).grantDrawer n x }))
    ∧ (s.wall.transport.state ≠ .idle ∨ s.wall.held = true → ∃ t,
        t = { s with latch := none,
                     wall := ((s.wall.posted (lanePage n) x .dispense tag [mode, amount, c0, c1, c2, c3]).take (lanePage n) x).grantDrawer n x }
      ∧ exec (.dispense n x tag mode amount c0 c1 c2 c3) s = .next (t.evaluatedFor 78)
      ∧ (∀ c, (t.wall.cassettes.get c).reserved = (s.wall.cassettes.get c).reserved + v.get c)
      ∧ (t.wall.lanes.get n).owner = some x ∧ (t.wall.slot (lanePage n) x).state = .accepted
      ∧ t.wall.transport = { s.wall.transport with queue := s.wall.transport.queue ++ [{ lane := n, kind := .bundle }] }
      ∧ t.wall.engine.acceptances = s.wall.engine.acceptances + 1
      ∧ (t.wall.contextOf n).map DispenseContext.phase = some .bundleWait
      ∧ (t.wall.contextOf n).map DispenseContext.outstanding = some v ∧ (t.wall.tallyOf n).map Tally.chosen = some v
      ∧ ∀ m, m ≠ n → t.wall.lanes.get m = s.wall.lanes.get m)
    ∧ (s.wall.transport.state = .idle → s.wall.held = false → s.wall.transport.queue = [] → ∃ t,
        t = { s with latch := none,
                     wall := ((s.wall.posted (lanePage n) x .dispense tag [mode, amount, c0, c1, c2, c3]).take (lanePage n) x).grantDrawer n x }
      ∧ exec (.dispense n x tag mode amount c0 c1 c2 c3) s = .next (t.evaluatedFor 78)
      ∧ (∀ c, (t.wall.cassettes.get c).reserved = (s.wall.cassettes.get c).reserved + v.get c)
      ∧ (t.wall.lanes.get n).owner = some x ∧ (t.wall.slot (lanePage n) x).state = .running
      ∧ t.wall.transport.state = .granted ∧ t.wall.transport.join = .dispense n ∧ t.wall.transport.queue = []
      ∧ t.wall.gate.acceptEnable = true ∧ t.wall.gate.gapCounter = none ∧ t.wall.engine.routedInBundle = 0
      ∧ (t.wall.contextOf n).map DispenseContext.phase = some .building
      ∧ (t.wall.contextOf n).map DispenseContext.target = some (min s.wall.bundleLimit (Counts.total v))
      ∧ (t.wall.contextOf n).map DispenseContext.outstanding = some v ∧ (t.wall.tallyOf n).map Tally.chosen = some v
      ∧ ∀ m, m ≠ n → t.wall.lanes.get m = s.wall.lanes.get m)

/-- R89, R109, R85, R91, R92, R107, R108, R110, R114: the transport's grant evaluation, and a RETRACT. The evaluation does nothing unless the path is
IDLE and hold is not in force. It grants the oldest RETRACT request where a bin has room, to the retract bin or else to the reject bin with RETRACT
DIVERTED; with both full every RETRACT request is held back, each with a BIN FULL post. Where no retract is granted and lockdown is not in force it
grants the oldest BUNDLE request, whose bundle begins. A RETRACT of an ownerless HOLDING drawer takes the drawer and queues its request, the rest of
the bundle record kept until the grant (log 54), and the evaluation follows (where the request finds the path IDLE and the queue empty, what comes of
it is said in full). An order row is the host placing the order (the model's choice: log 2). -/
def Obligations.RetractBegins : Prop :=
  (∀ w : Wall,
    (w.transport.state ≠ .idle ∨ w.held = true → w.transportGrant = w)
    ∧ (w.transport.state = .idle → w.held = false →
      ((∀ q ∈ w.transport.queue, q.kind = .bundle) → w.lockdown = true ∨ w.transport.queue = [] → w.transportGrant = w)
      ∧ (∀ r, w.transport.queue.find? (fun q => q.kind == .retract) = some r →
        (w.bins.get retractBin).full = false ∨ (w.bins.get rejectBin).full = false → ∃ t, t = w.transportGrant
        ∧ t.transport =
          { w.transport with
              state := .granted, join := .retract r.lane, quiet := 0, sweepFound := .none, silentMs := 0,
              queue := w.transport.queue.filter fun q => !(q.lane == r.lane && q.kind == .retract) }
        ∧ t.gate = { w.gate with gapCounter := none, openPicks := [], lastPick := none }
        ∧ t.lanes.get r.lane =
          { w.lanes.get r.lane with
              bundle := { (w.lanes.get r.lane).bundle with
                            phase := .sweeping, dest := if (w.bins.get retractBin).full then .reject else .retractBin, pieces := 0,
                            retracted := 0, foreign := 0, toRetract := 0, toReject := 0, stalled := none } }
        ∧ (∀ m, m ≠ r.lane → t.lanes.get m = w.lanes.get m)
        ∧ ((w.bins.get retractBin).full = false → t.board = w.board ∧ t.lost = w.lost)
        ∧ ((w.bins.get retractBin).full = true → ∀ e, e = w.post (.retractDiverted r.lane) (w.bins.get retractBin).count →
          t.board = e.board ∧ t.lost = e.lost)
        ∧ t = { w with transport := t.transport, gate := t.gate, lanes := t.lanes, board := t.board, lost := t.lost })
      ∧ ((w.bins.get retractBin).full = true → (w.bins.get rejectBin).full = true → ∃ t, t = w.transportGrant
        ∧ (∀ n, t.lanes.get n =
          if { lane := n, kind := .retract } ∈ w.transport.queue then
            { w.lanes.get n with bundle := { (w.lanes.get n).bundle with phase := .heldBack } }
          else w.lanes.get n)
        ∧ (∀ e, e = (w.transport.queue.filter fun q => q.kind == .retract).foldl
            (fun v _ => v.post (.binFull retractBin) (w.bins.get retractBin).count) w → t.board = e.board ∧ t.lost = e.lost)
        ∧ t.bins = w.bins ∧ t.cassettes = w.cassettes
        ∧ (w.lockdown = true ∨ (∀ q ∈ w.transport.queue, q.kind = .retract) →
          t = { w with lanes := t.lanes, board := t.board, lost := t.lost }))
      ∧ (w.lockdown = false →
        (∀ q ∈ w.transport.queue, q.kind = .bundle) ∨ ((w.bins.get retractBin).full = true ∧ (w.bins.get rejectBin).full = true) →
        ∀ r, w.transport.queue.find? (fun q => q.kind == .bundle) = some r → ∀ x c, w.orderOf r.lane .dispense = some x →
        (w.slot (lanePage r.lane) x).context = some c → ∃ t, t = w.transportGrant
        ∧ t.transport =
          { w.transport with
              state := .granted, join := .dispense r.lane, silentMs := 0,
              queue := w.transport.queue.filter fun q => !(q.lane == r.lane && q.kind == .bundle) }
        ∧ t.gate = { w.gate with gapCounter := none, openPicks := [], lastPick := none, acceptEnable := true }
        ∧ t.engine =
          { w.engine with
              loaded := some
                { lane := r.lane, slot := x,
                  context := { c with phase := .building, target := min w.bundleLimit (Counts.total c.outstanding) } },
              routedInBundle := 0, lastRelease := none, sinceRelease := 0 }
        ∧ t.slot (lanePage r.lane) x =
          { w.slot (lanePage r.lane) x with
              state := if (w.slot (lanePage r.lane) x).state = .accepted then .running else (w.slot (lanePage r.lane) x).state }
        ∧ (∀ p y, (p, y) ≠ (lanePage r.lane, x) → t.slot p y = w.slot p y) ∧ t.cassettes = w.cassettes ∧ t.bins = w.bins)))
  ∧ ∀ (s : State) (n : LaneId) (x : SlotId) (tag : Word), s.supply = true → s.wall.takesNow (lanePage n) x .retract = true →
    (s.wall.lanes.get n).drawer = .holding → (s.wall.lanes.get n).owner = none → (s.wall.lanes.get n).forced = false →
    s.wall.transport.state ≠ .faulted →
    exec (.retract n x tag) s = .next
      (State.evaluatedFor 78
        { s with latch := none,
                 wall := ((s.wall.posted (lanePage n) x .retract tag []).take (lanePage n) x).grantDrawer n x })
    ∧ (s.wall.transport.state ≠ .idle ∨ s.wall.held = true → ∃ t,
        t = { s with latch := none, wall := ((s.wall.posted (lanePage n) x .retract tag []).take (lanePage n) x).grantDrawer n x }
      ∧ exec (.retract n x tag) s = .next (t.evaluatedFor 78)
      ∧ (t.wall.lanes.get n).owner = some x ∧ (t.wall.slot (lanePage n) x).state = s.wall.workState
      ∧ (t.wall.lanes.get n).drawer = .holding ∧ (t.wall.lanes.get n).bundle = { (s.wall.lanes.get n).bundle with phase := .queued }
      ∧ t.wall.transport = { s.wall.transport with queue := s.wall.transport.queue ++ [{ lane := n, kind := .retract }] }
      ∧ ∀ m, m ≠ n → t.wall.lanes.get m = s.wall.lanes.get m)
    ∧ (s.wall.transport.state = .idle → s.wall.held = false → s.wall.transport.queue = [] → (s.wall.bins.get retractBin).full = false →
      ∃ t,
        t = { s with latch := none, wall := ((s.wall.posted (lanePage n) x .retract tag []).take (lanePage n) x).grantDrawer n x }
      ∧ exec (.retract n x tag) s = .next (t.evaluatedFor 78)
      ∧ (t.wall.lanes.get n).owner = some x ∧ (t.wall.slot (lanePage n) x).state = .running
      ∧ t.wall.transport.state = .granted ∧ t.wall.transport.join = .retract n ∧ t.wall.transport.queue = []
      ∧ t.wall.transport.quiet = 0 ∧ (t.wall.lanes.get n).bundle.phase = .sweeping ∧ (t.wall.lanes.get n).bundle.dest = .retractBin
      ∧ (t.wall.lanes.get n).bundle.pieces = 0 ∧ t.wall.board = s.wall.board ∧ t.wall.lost = s.wall.lost
      ∧ ∀ m, m ≠ n → t.wall.lanes.get m = s.wall.lanes.get m)
    ∧ (s.wall.transport.state = .idle → s.wall.held = false → s.wall.transport.queue = [] → (s.wall.bins.get retractBin).full = true →
      (s.wall.bins.get rejectBin).full = false → ∃ t,
        t = { s with latch := none, wall := ((s.wall.posted (lanePage n) x .retract tag []).take (lanePage n) x).grantDrawer n x }
      ∧ exec (.retract n x tag) s = .next (t.evaluatedFor 78)
      ∧ (t.wall.lanes.get n).owner = some x ∧ (t.wall.slot (lanePage n) x).state = .running
      ∧ t.wall.transport.state = .granted ∧ t.wall.transport.join = .retract n ∧ t.wall.transport.queue = []
      ∧ t.wall.transport.quiet = 0 ∧ (t.wall.lanes.get n).bundle.phase = .sweeping ∧ (t.wall.lanes.get n).bundle.dest = .reject
      ∧ (t.wall.lanes.get n).bundle.pieces = 0
      ∧ (∀ e, e = s.wall.post (.retractDiverted n) (s.wall.bins.get retractBin).count → t.wall.board = e.board ∧ t.wall.lost = e.lost)
      ∧ ∀ m, m ≠ n → t.wall.lanes.get m = s.wall.lanes.get m)
    ∧ (s.wall.transport.state = .idle → s.wall.held = false → s.wall.transport.queue = [] → (s.wall.bins.get retractBin).full = true →
      (s.wall.bins.get rejectBin).full = true → ∃ t,
        t = { s with latch := none, wall := ((s.wall.posted (lanePage n) x .retract tag []).take (lanePage n) x).grantDrawer n x }
      ∧ exec (.retract n x tag) s = .next (t.evaluatedFor 78)
      ∧ (t.wall.lanes.get n).owner = some x ∧ (t.wall.slot (lanePage n) x).state = .running ∧ (t.wall.lanes.get n).drawer = .holding
      ∧ t.wall.transport = { s.wall.transport with queue := [{ lane := n, kind := .retract }] }
      ∧ (t.wall.lanes.get n).bundle = { (s.wall.lanes.get n).bundle with phase := .heldBack }
      ∧ (∀ e, e = s.wall.post (.binFull retractBin) (s.wall.bins.get retractBin).count → t.wall.board = e.board ∧ t.wall.lost = e.lost)
      ∧ ∀ m, m ≠ n → t.wall.lanes.get m = s.wall.lanes.get m)

/-- R36, R124, R11, R17, R133, R134, R9: a DEPOSIT that passes its checks is granted the STOWED drawer at once, and its deposit cycle, with the late
mark 0 (1.11, step 16), sends the drawer out. A CAPTURE that passes its checks claims the pocket, stops its timer and queues the lane, and stays
ACCEPTED. A RETURN that passes its checks claims the pocket, is granted the STOWED drawer at once and starts its lift to the drawer. Each before the
evaluations that follow. An order row is the host placing the order (the model's choice: log 2). -/
def Obligations.EnvelopeOrdersBegin : Prop :=
  (∀ (s : State) (n : LaneId) (x : SlotId) (tag : Word), s.supply = true → s.wall.takesNow (lanePage n) x .deposit = true →
    s.wall.lockdown = false → (s.wall.lanes.get n).state = .opened → (s.wall.lanes.get n).pocket.state = .empty →
    (s.wall.bins.get depositBin).count < (s.wall.bins.get depositBin).capacity →
    (s.wall.lanes.get n).drawer = .stowed → (s.wall.lanes.get n).forced = false → (s.wall.lanes.get n).owner = none →
    ∃ t,
        t = { s with latch := none, wall := ((s.wall.posted (lanePage n) x .deposit tag []).take (lanePage n) x).grantDrawer n x }
      ∧ exec (.deposit n x tag) s = .next (t.evaluatedFor 78) ∧ (t.wall.slot (lanePage n) x).state = s.wall.workState
      ∧ (t.wall.lanes.get n).owner = some x ∧ (t.wall.lanes.get n).waiting = []
      ∧ (t.wall.lanes.get n).drawer = .opening ∧ (t.wall.lanes.get n).travel = .outward ∧ (t.wall.lanes.get n).budgetMs = 4000
      ∧ (t.wall.lanes.get n).cycle = .deposit ∧ (t.wall.lanes.get n).result = .none ∧ (t.wall.lanes.get n).late = false
      ∧ (t.wall.lanes.get n).pocket = (s.wall.lanes.get n).pocket ∧ t.wall.transport = s.wall.transport
      ∧ t.wall.conveyor = s.wall.conveyor ∧ ∀ m, m ≠ n → t.wall.lanes.get m = s.wall.lanes.get m)
  ∧ ∀ (s : State) (n : LaneId) (x : SlotId) (tag : Word), s.supply = true → (s.wall.lanes.get n).pocket.state = .held →
    (s.wall.takesNow (lanePage n) x .capture = true → (s.wall.bins.get depositBin).count < (s.wall.bins.get depositBin).capacity →
      s.wall.conveyor.state ≠ .faulted →
      ∃ t,
        t = { s with latch := none, wall := (s.wall.posted (lanePage n) x .capture tag []).take (lanePage n) x }
      ∧ exec (.capture n x tag) s = .next (t.evaluatedFor 79) ∧ (t.wall.slot (lanePage n) x).state = .accepted
        ∧ t.wall.lanes.get n =
          { s.wall.lanes.get n with
              pocket := { (s.wall.lanes.get n).pocket with
                            state := .captureWait, owner := some x, holdMs := 0, timerRunning := false, stranded := false } }
        ∧ t.wall.conveyor = { s.wall.conveyor with queue := s.wall.conveyor.queue ++ [n] }
        ∧ t.wall.bins = s.wall.bins ∧ ∀ m, m ≠ n → t.wall.lanes.get m = s.wall.lanes.get m)
    ∧ (s.wall.takesNow (lanePage n) x .returnEnvelope = true → (s.wall.lanes.get n).drawer = .stowed →
      (s.wall.lanes.get n).forced = false → (s.wall.lanes.get n).owner = none →
      ∃ t,
        t = { s with latch := none, wall := ((s.wall.posted (lanePage n) x .returnEnvelope tag []).take (lanePage n) x).grantDrawer n x }
      ∧ exec (.returnOrder n x tag) s = .next (t.evaluatedFor 78) ∧ (t.wall.slot (lanePage n) x).state = s.wall.workState
        ∧ (t.wall.lanes.get n).owner = some x ∧ (t.wall.lanes.get n).waiting = []
        ∧ (t.wall.lanes.get n).drawer = .lifting ∧ (t.wall.lanes.get n).travel = .liftToDrawer ∧ (t.wall.lanes.get n).budgetMs = 3000
        ∧ (t.wall.lanes.get n).pocket =
          { (s.wall.lanes.get n).pocket with
              state := .returning, owner := some x, holdMs := 0, timerRunning := false, stranded := false }
        ∧ t.wall.conveyor = s.wall.conveyor ∧ ∀ m, m ≠ n → t.wall.lanes.get m = s.wall.lanes.get m)

/-! ### The lanes (chapters 1 and 7) -/

/-- R6, R14, R17, R7, R16, R18: at the extended sensor a drawer in OPENING closes at once under lockdown with an owner, or where its order has closed
it (for the close cause that then shows, log 43), and is OFFERED otherwise, with the timer of its cycle or the 10 s of a bounce. A drawer in another
state takes the change of its sensors alone (the model's choice: log 20 for the drawer, log 16 for the stowed sensor). In hold the report is believed
as in any other state (the model's choice: log 21). -/
def Obligations.ExtendedSensor : Prop :=
  ∀ (s : State) (n : LaneId), s.supply = true → ∃ t, exec (.extendedSensorReached n) s = .next t
    ∧ (∀ m, m ≠ n → t.wall.lanes.get m = s.wall.lanes.get m) ∧ t = { s with wall := { s.wall with lanes := t.wall.lanes } }
    ∧ (t.wall.lanes.get n).owner = (s.wall.lanes.get n).owner ∧ (t.wall.lanes.get n).cycle = (s.wall.lanes.get n).cycle
    ∧ ((s.wall.lanes.get n).drawer ≠ .opening →
        t.wall.lanes.get n = { s.wall.lanes.get n with extendedSensor := true, stowedSensor := false, leaving := false })
    ∧ ((s.wall.lanes.get n).drawer = .opening → s.wall.lockdown = true → (s.wall.lanes.get n).owner ≠ none →
        (t.wall.lanes.get n).drawer = .closing ∧ (t.wall.lanes.get n).travel = .inward ∧ (t.wall.lanes.get n).budgetMs = 4000
        ∧ (t.wall.lanes.get n).closeCause = .lockdown ∧ (t.wall.lanes.get n).ownerClose = (s.wall.lanes.get n).ownerClose)
    ∧ (∀ c, (s.wall.lanes.get n).drawer = .opening → s.wall.lockdown = false ∨ (s.wall.lanes.get n).owner = none →
        (s.wall.lanes.get n).ownerClose = some c →
        (t.wall.lanes.get n).drawer = .closing ∧ (t.wall.lanes.get n).travel = .inward ∧ (t.wall.lanes.get n).budgetMs = 4000
        ∧ (t.wall.lanes.get n).timerMs = 0 ∧ (t.wall.lanes.get n).closeCause = c ∧ (t.wall.lanes.get n).ownerClose = some c)
    ∧ ((s.wall.lanes.get n).drawer = .opening → s.wall.lockdown = false ∨ (s.wall.lanes.get n).owner = none →
        (s.wall.lanes.get n).ownerClose = none →
        (t.wall.lanes.get n).drawer = .offered ∧ (t.wall.lanes.get n).travel = .none
        ∧ (t.wall.lanes.get n).timerMs =
          (if (s.wall.lanes.get n).shortTimer then 10000
          else if (s.wall.lanes.get n).cycle = .deposit then s.wall.depositTimeMs else s.wall.takeTimeMs)
        ∧ (t.wall.lanes.get n).window =
          if (s.wall.lanes.get n).cycle = .take ∧ (s.wall.lanes.get n).itemSensor = false then some 2000 else none)

/-- R6, R15, R17, R20, R124, R126, R96, R109, R105, R134, R135: a close that reaches the stowed sensor: an ownerless one rests by its item sensor
and finishes its PATH RESET; a DEPOSIT lifts an item and ends without one, and a cancel pending on it is answered TOO LATE with an item and
accepted without one; a RETURN ends RETURNED, or lifts what was left; a DISPENSE whose bundle was left requests its retract, and one whose bundle
was taken counts it and requests its next bundle, or finishes with its tally where its end has begun, it is final, or it owes nothing, and under
lockdown. Either request joins the queue, and the transport's grant evaluation follows: on an IDLE path without hold and with no other request a
retract goes to the retract bin where that has room, else to the reject bin with RETRACT DIVERTED, and with both full is held back with BIN FULL.
On a FAULTED path either ends the order TRANSPORT FAULT. The lane may be CLOSING, as lockdown leaves it: the evaluations then settle it once its
last order has ended (R3). The orders that wait for the drawer stay in its list, and where the owner has released it the evaluations grant it to
the first whose condition holds (1.11, step 16). The model's choices: the bundle record of a left bundle otherwise kept until the grant (log 54);
the outcome, its second and its duress mark are the finish's, also where the end began earlier (log 61); in hold the report is believed as in any
other state (log 21). -/
def Obligations.StowedSensor : Prop :=
  ∀ (s : State) (n : LaneId), s.supply = true → (s.wall.lanes.get n).drawer = .closing →
    (s.wall.lanes.get n).forced = false → (s.wall.points.get 14).live = s.wall.anyForced →
    ∃ t, t = { s with wall := s.wall.stowedAsserts n }
      ∧ exec (.stowedSensorReached n) s = .next t.evaluated
    ∧ (∀ m, m ≠ n → t.wall.lanes.get m = { s.wall.lanes.get m with bundle := (t.wall.lanes.get m).bundle }
      ∧ (s.wall.transport.state ≠ .idle ∨ s.wall.held = true ∨ s.wall.transport.queue = [] → t.wall.lanes.get m = s.wall.lanes.get m))
    ∧ (t.wall.lanes.get n).stowedSensor = true ∧ t.wall.conveyor = s.wall.conveyor ∧ t.wall.points = s.wall.points
    ∧ (t.wall.lanes.get n).state = (s.wall.lanes.get n).state
    ∧ ((∀ x, (s.wall.lanes.get n).owner = some x → x ∉ (s.wall.lanes.get n).waiting) →
        (t.wall.lanes.get n).waiting = (s.wall.lanes.get n).waiting)
    ∧ (∀ y later earlier, (t.wall.lanes.get n).owner = none → (t.wall.lanes.get n).waiting = earlier ++ y :: later →
        (∀ z ∈ earlier, t.wall.grantable n z = false) → t.wall.grantable n y = true → (∀ m, t.wall.settles m = false) →
        (∀ m, m < n → (t.wall.lanes.get m).waiting = []) →
        exec (.stowedSensorReached n) s = .next (State.evaluatedFor 79 { t with wall := t.wall.grantDrawer n y }))
    ∧ ((∀ m, m < n → t.wall.settles m = false) → (s.wall.lanes.get n).state = .closing →
        (∀ y, (t.wall.slot (lanePage n) y).state.inProgress = true → t.wall.kindAt (lanePage n) y = some .laneClose) →
        exec (.stowedSensorReached n) s = .next (State.evaluatedFor 79 { t with wall := t.wall.settleLane n }))
    ∧ ((s.wall.lanes.get n).cycle = .none →
        t.wall.lanes.get n =
          { s.wall.lanes.get n with
              stowedSensor := true, extendedSensor := false, leaving := false, drawer := (s.wall.lanes.get n).restState,
              travel := .none, budgetMs := 0,
              bounce := 0, obstructed := false, shortTimer := false }
        ∧ (s.wall.pathReset (2 + n.val) = none → t.wall = { s.wall with lanes := t.wall.lanes })
        ∧ ∀ x, s.wall.pathReset (2 + n.val) = some x → (t.wall.slot servicePage x).state = .finished
          ∧ (t.wall.slot servicePage x).result = resultWords .done (s.wall.slot servicePage x).tooLate s.wall.port.seconds [])
    ∧ (∀ x, (s.wall.lanes.get n).owner = some x → s.wall.kindAt (lanePage n) x = some .deposit → (s.wall.lanes.get n).cycle = .deposit →
        (s.wall.slot (lanePage n) x).cancelPending = false →
        ((s.wall.lanes.get n).itemSensor = true →
          (t.wall.lanes.get n).drawer = .lifting ∧ (t.wall.lanes.get n).travel = .liftToPocket ∧ (t.wall.lanes.get n).budgetMs = 3000
          ∧ (t.wall.lanes.get n).result = .itemIn ∧ (t.wall.lanes.get n).owner = some x
          ∧ t.wall = { s.wall with lanes := t.wall.lanes })
        ∧ ((s.wall.lanes.get n).itemSensor = false →
          (t.wall.lanes.get n).drawer = .stowed ∧ (t.wall.lanes.get n).owner = none ∧ (t.wall.slot (lanePage n) x).state = .finished
          ∧ (t.wall.slot (lanePage n) x).result =
            resultWords (if (s.wall.slot (lanePage n) x).lockdownMark then .lockdown else .noItem) (s.wall.slot (lanePage n) x).tooLate
              s.wall.port.seconds (depositFields (s.wall.lanes.get n).closeCause .noItem (s.wall.lanes.get n).pocket.state)))
    ∧ (∀ x, (s.wall.lanes.get n).owner = some x → s.wall.kindAt (lanePage n) x = some .deposit → (s.wall.lanes.get n).cycle = .deposit →
        (s.wall.slot (lanePage n) x).cancelPending = true →
        ((s.wall.lanes.get n).itemSensor = true →
          (t.wall.lanes.get n).drawer = .lifting ∧ (t.wall.lanes.get n).travel = .liftToPocket ∧ (t.wall.lanes.get n).budgetMs = 3000
          ∧ (t.wall.lanes.get n).result = .itemIn ∧ (t.wall.lanes.get n).owner = some x
          ∧ t.wall.slot (lanePage n) x = { s.wall.slot (lanePage n) x with tooLate := true, cancelPending := false }
          ∧ t.wall.flags = tabMod s.wall.flags 0 fun f => f &&& ~~~(1#16 <<< (4 * n.val + x.val)))
        ∧ ((s.wall.lanes.get n).itemSensor = false →
          (t.wall.lanes.get n).drawer = .stowed ∧ (t.wall.lanes.get n).owner = none ∧ (t.wall.slot (lanePage n) x).state = .finished
          ∧ (t.wall.slot (lanePage n) x).result =
            resultWords (if (s.wall.slot (lanePage n) x).lockdownMark then .lockdown else .cancelled) (s.wall.slot (lanePage n) x).tooLate
              s.wall.port.seconds (depositFields (s.wall.lanes.get n).closeCause .noItem (s.wall.lanes.get n).pocket.state)
          ∧ t.wall.flags = tabMod s.wall.flags 0 fun f => f &&& ~~~(1#16 <<< (4 * n.val + x.val))))
    ∧ (∀ x, (s.wall.lanes.get n).owner = some x → s.wall.kindAt (lanePage n) x = some .returnEnvelope →
        (s.wall.lanes.get n).cycle = .take → (s.wall.lanes.get n).itemSensor = true →
        (t.wall.lanes.get n).drawer = .lifting ∧ (t.wall.lanes.get n).travel = .liftToPocket ∧ (t.wall.lanes.get n).budgetMs = 3000
        ∧ (t.wall.lanes.get n).result = .left ∧ (t.wall.lanes.get n).owner = some x
        ∧ (t.wall.lanes.get n).pocket = (s.wall.lanes.get n).pocket ∧ t.wall = { s.wall with lanes := t.wall.lanes })
    ∧ (∀ x, (s.wall.lanes.get n).owner = some x → s.wall.kindAt (lanePage n) x = some .returnEnvelope →
        (s.wall.lanes.get n).cycle = .take → (s.wall.lanes.get n).itemSensor = false →
        (t.wall.lanes.get n).drawer = .stowed ∧ (t.wall.lanes.get n).owner = none ∧ (t.wall.lanes.get n).pocket.state = .empty
        ∧ (t.wall.slot (lanePage n) x).state = .finished
        ∧ (t.wall.slot (lanePage n) x).result =
          resultWords .returned (s.wall.slot (lanePage n) x).tooLate s.wall.port.seconds
            (s.wall.returnFields (if (s.wall.lanes.get n).late then .takenLate else .taken)))
    ∧ (∀ x, (s.wall.lanes.get n).owner = some x → s.wall.orderOf n .dispense = some x →
        ∀ c, (s.wall.slot (lanePage n) x).context = some c → s.wall.engine.loaded.map Loaded.lane ≠ some n →
        (s.wall.lanes.get n).cycle = .take → (s.wall.lanes.get n).itemSensor = true →
        s.wall.transport.state ≠ .faulted → s.wall.transport.state ≠ .idle ∨ s.wall.held = true →
        (t.wall.lanes.get n).drawer = .holding ∧ (t.wall.lanes.get n).result = .left ∧ (t.wall.lanes.get n).owner = some x
        ∧ (t.wall.lanes.get n).bundle = { (s.wall.lanes.get n).bundle with phase := .queued }
        ∧ t.wall.transport = { s.wall.transport with queue := s.wall.transport.queue ++ [{ lane := n, kind := .retract }] }
        ∧ (t.wall.slot (lanePage n) x).context = some { c with phase := .retracting, outstanding := Counts.zero }
        ∧ ∀ k, (t.wall.cassettes.get k).reserved = (s.wall.cassettes.get k).reserved - c.outstanding.get k)
    ∧ (∀ x, (s.wall.lanes.get n).owner = some x → s.wall.orderOf n .dispense = some x →
        ∀ c, (s.wall.slot (lanePage n) x).context = some c → s.wall.engine.loaded.map Loaded.lane ≠ some n → (s.wall.lanes.get n).cycle = .take →
        (s.wall.lanes.get n).itemSensor = true → s.wall.transport.state ≠ .faulted →
        t.wall = ((((((s.wall.modLane n fun l =>
          { l with
              stowedSensor := true, extendedSensor := false, leaving := false, drawer := .holding, travel := .none, budgetMs := 0,
              bounce := 0, obstructed := false, shortTimer := false, cycle := .none, result := .left, ownerClose := none }).releaseOutstanding
          n).modTally n fun ty => { ty with bundleLeft := true, remixWait := false }).modContext n fun k =>
          { k with phase := .retracting }).queueRetract n).transportGrant))
    ∧ (∀ x, (s.wall.lanes.get n).owner = some x → s.wall.orderOf n .dispense = some x →
        ∀ c, (s.wall.slot (lanePage n) x).context = some c → s.wall.engine.loaded.map Loaded.lane ≠ some n → (s.wall.lanes.get n).cycle = .take →
        (s.wall.lanes.get n).itemSensor = true → s.wall.transport.state = .idle → s.wall.held = false → s.wall.transport.queue = [] →
        (s.wall.bins.get retractBin).full = true →
        ((s.wall.bins.get rejectBin).full = false →
          t.wall.transport.state = .granted ∧ t.wall.transport.join = .retract n ∧ t.wall.transport.queue = []
          ∧ (t.wall.lanes.get n).owner = some x ∧ (t.wall.lanes.get n).bundle.phase = .sweeping ∧ (t.wall.lanes.get n).bundle.dest = .reject
          ∧ (∀ e, e = s.wall.post (.retractDiverted n) (s.wall.bins.get retractBin).count → t.wall.board = e.board ∧ t.wall.lost = e.lost)
          ∧ (t.wall.slot (lanePage n) x).context = some { c with phase := .retracting, outstanding := Counts.zero })
        ∧ ((s.wall.bins.get rejectBin).full = true →
          t.wall.transport = { s.wall.transport with queue := [{ lane := n, kind := .retract }] }
          ∧ (t.wall.lanes.get n).owner = some x
          ∧ (t.wall.lanes.get n).bundle = { (s.wall.lanes.get n).bundle with phase := .heldBack }
          ∧ (∀ e, e = s.wall.post (.binFull retractBin) (s.wall.bins.get retractBin).count → t.wall.board = e.board ∧ t.wall.lost = e.lost)
          ∧ (t.wall.slot (lanePage n) x).context = some { c with phase := .retracting, outstanding := Counts.zero }))
    ∧ (∀ x, (s.wall.lanes.get n).owner = some x → s.wall.orderOf n .dispense = some x →
        ∀ c, (s.wall.slot (lanePage n) x).context = some c → s.wall.engine.loaded.map Loaded.lane ≠ some n → (s.wall.lanes.get n).cycle = .take →
        (s.wall.lanes.get n).itemSensor = true → s.wall.transport.state = .idle → s.wall.held = false → s.wall.transport.queue = [] →
        (s.wall.bins.get retractBin).full = false →
        (t.wall.lanes.get n).drawer = .holding ∧ (t.wall.lanes.get n).result = .left ∧ (t.wall.lanes.get n).owner = some x
        ∧ t.wall.transport.state = .granted ∧ t.wall.transport.join = .retract n ∧ t.wall.transport.queue = []
        ∧ (t.wall.lanes.get n).bundle.phase = .sweeping ∧ (t.wall.lanes.get n).bundle.dest = .retractBin
        ∧ (t.wall.slot (lanePage n) x).context = some { c with phase := .retracting, outstanding := Counts.zero })
    ∧ (∀ x, (s.wall.lanes.get n).owner = some x → s.wall.orderOf n .dispense = some x →
        ∀ c ty, (s.wall.slot (lanePage n) x).context = some c → s.wall.tallyOf n = some ty → s.wall.engine.loaded.map Loaded.lane ≠ some n →
        (s.wall.lanes.get n).cycle = .take → (s.wall.lanes.get n).itemSensor = true → s.wall.transport.state = .faulted →
        (t.wall.lanes.get n).drawer = .holding ∧ (t.wall.lanes.get n).result = .left ∧ (t.wall.lanes.get n).owner = none
        ∧ t.wall.tallyOf n = none ∧ t.wall.bins = s.wall.bins ∧ (t.wall.slot (lanePage n) x).state = .finished
        ∧ (t.wall.slot (lanePage n) x).result =
          resultWords .transportFault (s.wall.slot (lanePage n) x).tooLate s.wall.port.seconds
            (tallyWords c { ty with unresolved := ty.unresolved + c.inDrawer } (s.wall.valueOf ty.presented) s.wall.duressAlarm))
    ∧ (∀ x, (s.wall.lanes.get n).owner = some x → s.wall.orderOf n .dispense = some x →
        ∀ c ty, (s.wall.slot (lanePage n) x).context = some c → s.wall.tallyOf n = some ty → s.wall.engine.loaded.map Loaded.lane ≠ some n →
        (s.wall.lanes.get n).cycle = .take → (s.wall.lanes.get n).itemSensor = false → c.phase = .inDrawer → c.endCause = .none →
        c.final = false → 0 < Counts.total c.outstanding → s.wall.lockdown = true ∨ s.wall.transport.state = .faulted →
        (t.wall.lanes.get n).drawer = .stowed ∧ (t.wall.lanes.get n).owner = none ∧ t.wall.tallyOf n = none
        ∧ t.wall.transport = s.wall.transport
        ∧ (∀ k, (t.wall.cassettes.get k).reserved = (s.wall.cassettes.get k).reserved - c.outstanding.get k)
        ∧ (t.wall.slot (lanePage n) x).state = .finished
        ∧ (t.wall.slot (lanePage n) x).result =
          resultWords (if s.wall.lockdown = true ∧ ty.faulted = false then .lockdown else .transportFault)
            (s.wall.slot (lanePage n) x).tooLate s.wall.port.seconds
            (tallyWords c { ty with taken := ty.taken + c.inDrawer } (s.wall.valueOf ty.presented) s.wall.duressAlarm))
    ∧ (∀ x, (s.wall.lanes.get n).owner = some x → s.wall.orderOf n .dispense = some x →
        ∀ c ty, (s.wall.slot (lanePage n) x).context = some c → s.wall.tallyOf n = some ty → s.wall.engine.loaded = none →
        (s.wall.lanes.get n).cycle = .take → (s.wall.lanes.get n).itemSensor = false → c.endCause = .none → c.final = false →
        0 < Counts.total c.outstanding → s.wall.lockdown = false → s.wall.transport.state = .idle → s.wall.held = false →
        s.wall.transport.queue = [] →
        (t.wall.lanes.get n).owner = some x ∧ t.wall.cassettes = s.wall.cassettes ∧ t.wall.transport.state = .granted
        ∧ t.wall.transport.join = .dispense n ∧ t.wall.transport.queue = [] ∧ t.wall.gate.acceptEnable = true
        ∧ t.wall.engine.loaded = some
          { lane := n, slot := x,
            context := { c with
                           phase := .building, takenLate := c.takenLate || (s.wall.lanes.get n).late,
                           target := min s.wall.bundleLimit (Counts.total c.outstanding) } }
        ∧ t.wall.tallyOf n = some { ty with taken := ty.taken + c.inDrawer })
    ∧ (∀ x, (s.wall.lanes.get n).owner = some x → s.wall.orderOf n .dispense = some x →
        ∀ c ty, (s.wall.slot (lanePage n) x).context = some c → s.wall.tallyOf n = some ty → s.wall.engine.loaded.map Loaded.lane ≠ some n →
        (s.wall.lanes.get n).cycle = .take → (s.wall.lanes.get n).itemSensor = false →
        (t.wall.lanes.get n).drawer = .stowed ∧ (t.wall.lanes.get n).result = (if (s.wall.lanes.get n).late then .takenLate else .taken)
        ∧ (c.endCause = .none → c.final = false → 0 < Counts.total c.outstanding → s.wall.lockdown = false →
          s.wall.transport.state ≠ .faulted → t.wall = ((((s.wall.modLane n fun l =>
          { l with
              stowedSensor := true, extendedSensor := false, leaving := false, drawer := .stowed, travel := .none, budgetMs := 0,
              bounce := 0, obstructed := false, shortTimer := false, cycle := .none,
              result := if l.late then .takenLate else .taken, ownerClose := none }).modTally n fun ty =>
          { ty with taken := ty.taken + c.inDrawer }).modContext n fun k =>
          { k with takenLate := k.takenLate || (s.wall.lanes.get n).late }).queueBundle n).transportGrant)
        ∧ (c.endCause = .none → c.final = false → 0 < Counts.total c.outstanding → s.wall.lockdown = false →
          s.wall.transport.state ≠ .faulted → s.wall.transport.state ≠ .idle ∨ s.wall.held = true →
          (t.wall.lanes.get n).owner = some x ∧ t.wall.cassettes = s.wall.cassettes ∧ t.wall.bins = s.wall.bins
          ∧ t.wall.transport = { s.wall.transport with queue := s.wall.transport.queue ++ [{ lane := n, kind := .bundle }] }
          ∧ (t.wall.slot (lanePage n) x).context = some
            { c with phase := .bundleWait, takenLate := c.takenLate || (s.wall.lanes.get n).late }
          ∧ t.wall.tallyOf n = some { ty with taken := ty.taken + c.inDrawer })
        ∧ (c.endCause ≠ .none ∨ c.final = true ∨ Counts.total c.outstanding = 0 →
          (t.wall.lanes.get n).owner = none ∧ t.wall.tallyOf n = none ∧ t.wall.transport = s.wall.transport
          ∧ (∀ k, (t.wall.cassettes.get k).reserved = (s.wall.cassettes.get k).reserved - c.outstanding.get k)
          ∧ (t.wall.slot (lanePage n) x).state = .finished
          ∧ (t.wall.slot (lanePage n) x).result =
            resultWords
              (if ty.faulted then .transportFault else if c.endCause = .rejectLimit then .rejectLimit
              else if c.endCause = .lockdown then .lockdown else if c.endCause = .cancel then .cancelled else if c.final then .partialEnd
              else if ty.bundleLeft then .retracted else if c.takenLate || (s.wall.lanes.get n).late then .takenLate else .taken)
              (s.wall.slot (lanePage n) x).tooLate s.wall.port.seconds
              (tallyWords c { ty with taken := ty.taken + c.inDrawer } (s.wall.valueOf ty.presented) s.wall.duressAlarm)))

/-- R7, R8, R6, R19, R20, R104, R125, R134: the first three obstructions of a close reverse an owned drawer with a fresh travel out, and stop an
ownerless one; the fourth jams it and posts DRAWER JAMMED with the travel in progress, IN, as its detail: a running PATH RESET of that drawer and
each order that waits for it end DRAWER JAMMED, and an owning DISPENSE, DEPOSIT or RETURN does, the notes of a DISPENSE's bundle in the drawer
unresolved; an obstruction of a drawer that is not in CLOSING, or that stands still, changes the sensor alone; an ownerless close resumes when the
sensor has been inactive. That a reversal frees the obstruction sensor is log 26's choice, that it takes the drawer off the stowed sensor log 16's,
that a close standing still for an obstruction counts no further one log 45's. -/
def Obligations.Obstructions : Prop :=
  ∀ (s : State) (n : LaneId), s.supply = true →
    exec (.obstructionCleared n) s = .next { s with wall := s.wall.modLane n fun l => { l with obstructionSensor := false, obstructed := false } }
    ∧ ((s.wall.lanes.get n).drawer ≠ .closing ∨ s.wall.drawerDriven n = false → exec (.drawerObstruction n) s = .next
      (State.evaluated { s with wall := s.wall.modLane n fun l => { l with obstructionSensor := true } }))
    ∧ ((s.wall.lanes.get n).drawer = .closing → s.wall.drawerDriven n = true →
      ((s.wall.lanes.get n).owner ≠ none → (s.wall.lanes.get n).bounce < 3 → exec (.drawerObstruction n) s = .next
        (State.evaluated
          { s with wall := s.wall.modLane n fun l =>
                     { l with obstructionSensor := false, bounce := l.bounce + 1, shortTimer := true, drawer := .opening, travel := .outward,
                              budgetMs := 4000, stowedSensor := false, leaving := l.leaving || l.stowedSensor } }))
      ∧ ((s.wall.lanes.get n).owner = none → (s.wall.lanes.get n).bounce < 3 → exec (.drawerObstruction n) s = .next
        (State.evaluated
          { s with wall := s.wall.modLane n fun l =>
                     { l with obstructionSensor := true, bounce := l.bounce + 1, obstructed := true } }))
      ∧ (3 ≤ (s.wall.lanes.get n).bounce → ∃ t, t = { s with wall := s.wall.obstruction n }
      ∧ exec (.drawerObstruction n) s = .next t.evaluated
        ∧ (t.wall.lanes.get n).drawer = .jammed ∧ (t.wall.lanes.get n).owner = none ∧ (t.wall.lanes.get n).bounce = 4
        ∧ (t.wall.lanes.get n).travel = .none ∧ (t.wall.lanes.get n).cycle = .none ∧ (t.wall.lanes.get n).timerMs = 0
        ∧ (∀ e, e = s.wall.post (.drawerJammed n) (s.wall.lanes.get n).travel.code → t.wall.board = e.board ∧ t.wall.lost = e.lost)
        ∧ ((s.wall.lanes.get n).travel = .inward → (s.wall.lanes.get n).travel.code = 2)
        ∧ (∀ m, m ≠ n → t.wall.lanes.get m = s.wall.lanes.get m)
        ∧ ((s.wall.lanes.get n).owner = none → (s.wall.lanes.get n).waiting = [] → s.wall.pathReset (2 + n.val) = none →
          t.wall.pages = s.wall.pages)
        ∧ (∀ y, s.wall.pathReset (2 + n.val) = some y → s.wall.finishedWith t.wall servicePage y .drawerJammed [])
        ∧ (∀ y ∈ (s.wall.lanes.get n).waiting, (s.wall.lanes.get n).waiting.Nodup → (s.wall.lanes.get n).owner ≠ some y →
          s.wall.kindAt (lanePage n) y = some .deposit ∨ s.wall.kindAt (lanePage n) y = some .returnEnvelope
            ∨ s.wall.kindAt (lanePage n) y = some .retract
            ∨ (s.wall.kindAt (lanePage n) y = some .dispense ∧ s.wall.orderOf n .dispense = some y ∧ s.wall.contextOf n ≠ none
              ∧ (s.wall.tallyOf n).map Tally.faulted = some false) →
          (t.wall.slot (lanePage n) y).state = .finished ∧ y ∉ (t.wall.lanes.get n).waiting
          ∧ (t.wall.slot (lanePage n) y).result.take 4 =
            resultWords .drawerJammed (s.wall.slot (lanePage n) y).tooLate s.wall.port.seconds [])
        ∧ (∀ x, (s.wall.lanes.get n).owner = some x → s.wall.waitsElsewhere n x →
          s.wall.kindAt (lanePage n) x = some .deposit ∨ s.wall.kindAt (lanePage n) x = some .returnEnvelope
            ∨ (s.wall.orderOf n .dispense = some x ∧ s.wall.contextOf n ≠ none
              ∧ (s.wall.tallyOf n).map Tally.faulted = some false ∧ s.wall.engine.loaded.map Loaded.lane ≠ some n) →
          (t.wall.slot (lanePage n) x).state = .finished
          ∧ (t.wall.slot (lanePage n) x).result.take 4 =
            resultWords .drawerJammed (s.wall.slot (lanePage n) x).tooLate s.wall.port.seconds [])
        ∧ (∀ x c ty, (s.wall.lanes.get n).owner = some x → s.wall.waitsElsewhere n x → s.wall.orderOf n .dispense = some x →
          s.wall.contextOf n = some c → s.wall.tallyOf n = some ty → ty.faulted = false → s.wall.engine.loaded.map Loaded.lane ≠ some n →
          t.wall.tallyOf n = none
          ∧ (∀ k, (t.wall.cassettes.get k).reserved = (s.wall.cassettes.get k).reserved - c.outstanding.get k)
          ∧ (t.wall.slot (lanePage n) x).result =
            resultWords .drawerJammed (s.wall.slot (lanePage n) x).tooLate s.wall.port.seconds
              (tallyWords c
                { ty with
                    unresolved := ty.unresolved + (if c.phase = .inDrawer ∨ c.phase = .retracting then c.inDrawer else 0) }
                (s.wall.valueOf ty.presented) s.wall.duressAlarm))
        ∧ (∀ x, (s.wall.lanes.get n).owner = some x → s.wall.waitsElsewhere n x → s.wall.kindAt (lanePage n) x = some .deposit →
          (s.wall.lanes.get n).travel = .inward →
          (t.wall.slot (lanePage n) x).result =
            resultWords .drawerJammed (s.wall.slot (lanePage n) x).tooLate s.wall.port.seconds
              (depositFields (s.wall.lanes.get n).closeCause (s.wall.lanes.get n).result (s.wall.lanes.get n).pocket.state))
        ∧ (∀ x, (s.wall.lanes.get n).owner = some x → s.wall.waitsElsewhere n x → s.wall.kindAt (lanePage n) x = some .returnEnvelope →
          (s.wall.lanes.get n).travel = .inward → (t.wall.lanes.get n).pocket.state = .empty
          ∧ (t.wall.slot (lanePage n) x).result =
            resultWords .drawerJammed (s.wall.slot (lanePage n) x).tooLate s.wall.port.seconds
              (s.wall.returnFields (s.wall.lanes.get n).result))))

/-- R5, R14, R15, R17, R19: a press of the call button sets the lane's bit of F3 alone; a press of the send button closes a drawer that is OFFERED in
a deposit cycle with an item, and does nothing else; the item sensor starts and stops the clear window; the window, the take timer and the deposit
timer close an OFFERED drawer with their close cause; in hold they stand still, and an expiry in another cycle or another drawer state does nothing
(the model's choice: log 20). -/
def Obligations.ButtonsItemSensorAndTimers : Prop :=
  ∀ (s : State) (n : LaneId), s.supply = true →
    (∃ t, exec (.callButtonPress n) s = .next t ∧ (t.wall.flags.get 3).getLsbD n.val = true
      ∧ (∀ i, i ≠ n.val → (t.wall.flags.get 3).getLsbD i = (s.wall.flags.get 3).getLsbD i)
      ∧ (∀ k, k ≠ 3 → t.wall.flags.get k = s.wall.flags.get k) ∧ t = { s with wall := { s.wall with flags := t.wall.flags } })
    ∧ ((s.wall.lanes.get n).drawer = .offered → (s.wall.lanes.get n).cycle = .deposit → (s.wall.lanes.get n).itemSensor = true →
      ∃ t, exec (.sendButtonPress n) s = .next t ∧ (t.wall.lanes.get n).drawer = .closing ∧ (t.wall.lanes.get n).travel = .inward
      ∧ (t.wall.lanes.get n).budgetMs = 4000 ∧ (t.wall.lanes.get n).timerMs = 0 ∧ (t.wall.lanes.get n).closeCause = .send
      ∧ (t.wall.lanes.get n).owner = (s.wall.lanes.get n).owner ∧ (t.wall.lanes.get n).pocket = (s.wall.lanes.get n).pocket
      ∧ (∀ m, m ≠ n → t.wall.lanes.get m = s.wall.lanes.get m) ∧ t = { s with wall := { s.wall with lanes := t.wall.lanes } })
    ∧ ((s.wall.lanes.get n).drawer ≠ .offered ∨ (s.wall.lanes.get n).cycle ≠ .deposit ∨ (s.wall.lanes.get n).itemSensor = false →
      exec (.sendButtonPress n) s = .next s)
    ∧ (∀ b, ∃ t, exec (.itemSensorChange n b) s = .next t ∧ (t.wall.lanes.get n).itemSensor = b
      ∧ (t.wall.lanes.get n).window =
        (if (s.wall.lanes.get n).drawer = .offered ∧ (s.wall.lanes.get n).cycle = .take ∧ (s.wall.lanes.get n).itemSensor ≠ b then
          (if b then none else some 2000)
        else (s.wall.lanes.get n).window)
      ∧ (t.wall.lanes.get n).drawer = (s.wall.lanes.get n).drawer ∧ (t.wall.lanes.get n).timerMs = (s.wall.lanes.get n).timerMs
      ∧ (∀ m, m ≠ n → t.wall.lanes.get m = s.wall.lanes.get m) ∧ t = { s with wall := { s.wall with lanes := t.wall.lanes } })
    ∧ (s.wall.offering n .take = true → (s.wall.lanes.get n).window ≠ none →
      exec (.clearWindowExpiry n) s = .next { s with wall := s.wall.startClose n .customer })
    ∧ (s.wall.offering n .take = true → (s.wall.lanes.get n).itemSensor = false → (s.wall.lanes.get n).window ≠ none →
      exec (.takeTimerExpiry n) s = .next { s with wall := s.wall.startClose n .customer })
    ∧ (s.wall.offering n .take = true → (s.wall.lanes.get n).itemSensor = true ∨ (s.wall.lanes.get n).window = none →
      exec (.takeTimerExpiry n) s = .next { s with wall := (s.wall.modLane n fun l => { l with late := true }).startClose n .expiry })
    ∧ (s.wall.offering n .deposit = true → exec (.depositTimerExpiry n) s = .next { s with wall := s.wall.startClose n .expiry })
    ∧ (s.wall.offering n .take = false → exec (.clearWindowExpiry n) s = .next s ∧ exec (.takeTimerExpiry n) s = .next s)
    ∧ (s.wall.offering n .deposit = false → exec (.depositTimerExpiry n) s = .next s)

/-- R6, R9, R20, R104, R124, R125, R134, R135: a travel or a lift that overruns its budget leaves the drawer JAMMED without an owner and its cycle
ended, posts DRAWER JAMMED with the travel as its detail, a lift as well as a travel, and ends DRAWER JAMMED a running PATH RESET of that drawer,
each order that waits for it (the pocket of a RETURN HELD again) and the owning order, the notes of a DISPENSE's bundle in the drawer unresolved,
the pocket of a RETURN empty; after a jammed lift the pocket is what its envelope sensor shows, and a DEPOSIT reports it; where a RETURN's lift
back to the pocket jams with the envelope in the pocket it is HELD with its hold-limit timer loaded. The model's choices: a DEPOSIT that jams
before any close reports the close cause its drawer record holds (log 56), and a RETURN that jams in its lift to the drawer the cycle result NONE
(log 30); with no travel driven, or no lift whose budget runs, the two commands change nothing (log 20). -/
def Obligations.DrawerJams : Prop :=
  ∀ (s : State) (n : LaneId), s.supply = true →
    (s.wall.drawerDriven n = true → (s.wall.lanes.get n).owner = none → (s.wall.lanes.get n).waiting = [] →
      s.wall.pathReset (2 + n.val) = none → exec (.travelBudgetOverrun n) s = .next
      (State.evaluated
        { s with wall := (s.wall.modLane n fun l =>
                   { l with drawer := .jammed, timerMs := 0, cycle := .none, travel := .none, budgetMs := 0, window := none, obstructed := false,
                            shortTimer := false, ownerClose := none }).post (.drawerJammed n) (s.wall.lanes.get n).travel.code }))
    ∧ (s.wall.drawerDriven n = true → ∃ t, t = { s with wall := s.wall.travelOverrun n }
      ∧ exec (.travelBudgetOverrun n) s = .next t.evaluated ∧ (t.wall.lanes.get n).drawer = .jammed ∧ (t.wall.lanes.get n).owner = none
      ∧ (t.wall.lanes.get n).cycle = .none ∧ (t.wall.lanes.get n).travel = .none ∧ (t.wall.lanes.get n).timerMs = 0
      ∧ (∀ e, e = s.wall.post (.drawerJammed n) (s.wall.lanes.get n).travel.code → t.wall.board = e.board ∧ t.wall.lost = e.lost)
      ∧ (∀ y, s.wall.pathReset (2 + n.val) = some y → s.wall.finishedWith t.wall servicePage y .drawerJammed [])
      ∧ (∀ m, m ≠ n → t.wall.lanes.get m = s.wall.lanes.get m)
      ∧ ∀ y ∈ (s.wall.lanes.get n).waiting, (s.wall.lanes.get n).waiting.Nodup → (s.wall.lanes.get n).owner ≠ some y →
        (s.wall.kindAt (lanePage n) y = some .deposit ∨ s.wall.kindAt (lanePage n) y = some .returnEnvelope
            ∨ s.wall.kindAt (lanePage n) y = some .retract
            ∨ (s.wall.kindAt (lanePage n) y = some .dispense ∧ s.wall.orderOf n .dispense = some y ∧ s.wall.contextOf n ≠ none
              ∧ (s.wall.tallyOf n).map Tally.faulted = some false) →
          (t.wall.slot (lanePage n) y).state = .finished ∧ y ∉ (t.wall.lanes.get n).waiting
          ∧ (t.wall.slot (lanePage n) y).result.take 4 =
            resultWords .drawerJammed (s.wall.slot (lanePage n) y).tooLate s.wall.port.seconds [])
        ∧ (s.wall.kindAt (lanePage n) y = some .returnEnvelope →
          (∀ o, (s.wall.lanes.get n).owner = some o → (s.wall.kindAt (lanePage n) o).map Kind.track ≠ some .envelope) →
          (t.wall.lanes.get n).pocket.state = .held ∧ (t.wall.lanes.get n).pocket.owner = none))
    ∧ (s.wall.drawerDriven n = false → exec (.travelBudgetOverrun n) s = .next s.evaluated)
    ∧ (∀ envelope item, (s.wall.lanes.get n).drawer ≠ .lifting ∨ s.wall.held = true ∨ (s.wall.lanes.get n).forced = true →
      exec (.liftOverrun n envelope item) s = .next s.evaluated)
    ∧ (∀ envelope item, (s.wall.lanes.get n).drawer = .lifting → s.wall.held = false → (s.wall.lanes.get n).forced = false →
      ∃ t, t = { s with wall := s.wall.liftOverrun n envelope item }
      ∧ exec (.liftOverrun n envelope item) s = .next t.evaluated ∧ (t.wall.lanes.get n).drawer = .jammed ∧ (t.wall.lanes.get n).owner = none
      ∧ (t.wall.lanes.get n).cycle = .none ∧ (t.wall.lanes.get n).travel = .none ∧ (t.wall.lanes.get n).timerMs = 0
      ∧ (t.wall.lanes.get n).envelopeSensor = envelope ∧ (t.wall.lanes.get n).itemSensor = item
      ∧ (∀ e, e = s.wall.post (.drawerJammed n) (s.wall.lanes.get n).travel.code → t.wall.board = e.board ∧ t.wall.lost = e.lost)
      ∧ (∀ y, s.wall.pathReset (2 + n.val) = some y → s.wall.finishedWith t.wall servicePage y .drawerJammed [])
      ∧ (∀ m, m ≠ n → t.wall.lanes.get m = s.wall.lanes.get m)
      ∧ ∀ y ∈ (s.wall.lanes.get n).waiting, (s.wall.lanes.get n).waiting.Nodup → (s.wall.lanes.get n).owner ≠ some y →
        (s.wall.kindAt (lanePage n) y = some .deposit ∨ s.wall.kindAt (lanePage n) y = some .returnEnvelope
            ∨ s.wall.kindAt (lanePage n) y = some .retract
            ∨ (s.wall.kindAt (lanePage n) y = some .dispense ∧ s.wall.orderOf n .dispense = some y ∧ s.wall.contextOf n ≠ none
              ∧ (s.wall.tallyOf n).map Tally.faulted = some false) →
          (t.wall.slot (lanePage n) y).state = .finished ∧ y ∉ (t.wall.lanes.get n).waiting
          ∧ (t.wall.slot (lanePage n) y).result.take 4 =
            resultWords .drawerJammed (s.wall.slot (lanePage n) y).tooLate s.wall.port.seconds [])
        ∧ (s.wall.kindAt (lanePage n) y = some .returnEnvelope →
          (∀ o, (s.wall.lanes.get n).owner = some o → (s.wall.kindAt (lanePage n) o).map Kind.track ≠ some .envelope) →
          (t.wall.lanes.get n).pocket.state = .held ∧ (t.wall.lanes.get n).pocket.owner = none))
    ∧ (∀ x, s.wall.drawerDriven n = true → (s.wall.lanes.get n).owner = some x → s.wall.waitsElsewhere n x →
      s.wall.kindAt (lanePage n) x = some .deposit →
      (s.wall.lanes.get n).travel = .outward ∨ (s.wall.lanes.get n).travel = .inward →
      ∃ t, t = { s with wall := s.wall.travelOverrun n }
      ∧ exec (.travelBudgetOverrun n) s = .next t.evaluated ∧ (t.wall.lanes.get n).drawer = .jammed ∧ (t.wall.lanes.get n).owner = none
      ∧ (t.wall.lanes.get n).cycle = .none ∧ (t.wall.lanes.get n).pocket = (s.wall.lanes.get n).pocket
      ∧ (t.wall.slot (lanePage n) x).state = .finished
      ∧ (t.wall.slot (lanePage n) x).result = resultWords .drawerJammed (s.wall.slot (lanePage n) x).tooLate s.wall.port.seconds
          (depositFields (s.wall.lanes.get n).closeCause (s.wall.lanes.get n).result (s.wall.lanes.get n).pocket.state)
      ∧ ∀ m, m ≠ n → t.wall.lanes.get m = s.wall.lanes.get m)
    ∧ (∀ x c ty, s.wall.drawerDriven n = true → (s.wall.lanes.get n).owner = some x → s.wall.waitsElsewhere n x →
      s.wall.orderOf n .dispense = some x → s.wall.contextOf n = some c → s.wall.tallyOf n = some ty → ty.faulted = false →
      s.wall.engine.loaded.map Loaded.lane ≠ some n →
      ∃ t, t = { s with wall := s.wall.travelOverrun n }
      ∧ exec (.travelBudgetOverrun n) s = .next t.evaluated ∧ (t.wall.lanes.get n).drawer = .jammed ∧ (t.wall.lanes.get n).owner = none
      ∧ (t.wall.lanes.get n).cycle = .none ∧ t.wall.tallyOf n = none ∧ t.wall.bins = s.wall.bins
      ∧ (∀ k, (t.wall.cassettes.get k).reserved = (s.wall.cassettes.get k).reserved - c.outstanding.get k)
      ∧ (t.wall.slot (lanePage n) x).state = .finished
      ∧ (t.wall.slot (lanePage n) x).result =
        resultWords .drawerJammed (s.wall.slot (lanePage n) x).tooLate s.wall.port.seconds
          (tallyWords c
            { ty with unresolved := ty.unresolved + (if c.phase = .inDrawer ∨ c.phase = .retracting then c.inDrawer else 0) }
            (s.wall.valueOf ty.presented) s.wall.duressAlarm)
      ∧ ∀ m, m ≠ n → t.wall.lanes.get m = s.wall.lanes.get m)
    ∧ (∀ x, s.wall.drawerDriven n = true → (s.wall.lanes.get n).owner = some x → s.wall.waitsElsewhere n x →
      s.wall.kindAt (lanePage n) x = some .returnEnvelope →
      (s.wall.lanes.get n).travel = .outward ∨ (s.wall.lanes.get n).travel = .inward →
      ∃ t, t = { s with wall := s.wall.travelOverrun n }
      ∧ exec (.travelBudgetOverrun n) s = .next t.evaluated ∧ (t.wall.lanes.get n).drawer = .jammed ∧ (t.wall.lanes.get n).owner = none
      ∧ (t.wall.lanes.get n).cycle = .none ∧ (t.wall.lanes.get n).pocket.state = .empty ∧ (t.wall.lanes.get n).pocket.owner = none
      ∧ (t.wall.slot (lanePage n) x).state = .finished
      ∧ (t.wall.slot (lanePage n) x).result = resultWords .drawerJammed (s.wall.slot (lanePage n) x).tooLate s.wall.port.seconds
          (s.wall.returnFields (s.wall.lanes.get n).result)
      ∧ ∀ m, m ≠ n → t.wall.lanes.get m = s.wall.lanes.get m)
    ∧ (∀ x envelope item, (s.wall.lanes.get n).drawer = .lifting → (s.wall.lanes.get n).travel = .liftToPocket → s.wall.held = false →
      (s.wall.lanes.get n).forced = false → (s.wall.lanes.get n).owner = some x → s.wall.waitsElsewhere n x →
      s.wall.kindAt (lanePage n) x = some .deposit →
      ∃ t, t = { s with wall := s.wall.liftOverrun n envelope item }
      ∧ exec (.liftOverrun n envelope item) s = .next t.evaluated ∧ (t.wall.lanes.get n).drawer = .jammed ∧ (t.wall.lanes.get n).owner = none
      ∧ (t.wall.lanes.get n).pocket.state = (if envelope then .held else .empty) ∧ (t.wall.lanes.get n).itemSensor = item
      ∧ (∀ e, e = s.wall.post (.drawerJammed n) Travel.liftToPocket.code → t.wall.board = e.board ∧ t.wall.lost = e.lost)
      ∧ (t.wall.slot (lanePage n) x).state = .finished
      ∧ (t.wall.slot (lanePage n) x).result = resultWords .drawerJammed (s.wall.slot (lanePage n) x).tooLate s.wall.port.seconds
          (depositFields (s.wall.lanes.get n).closeCause (s.wall.lanes.get n).result (if envelope then .held else .empty))
      ∧ ∀ m, m ≠ n → t.wall.lanes.get m = s.wall.lanes.get m)
    ∧ (∀ x envelope item, (s.wall.lanes.get n).drawer = .lifting → (s.wall.lanes.get n).travel = .liftToPocket → s.wall.held = false →
      (s.wall.lanes.get n).forced = false → (s.wall.lanes.get n).owner = some x → s.wall.waitsElsewhere n x →
      s.wall.kindAt (lanePage n) x = some .returnEnvelope →
      ∃ t, t = { s with wall := s.wall.liftOverrun n envelope item }
      ∧ exec (.liftOverrun n envelope item) s = .next t.evaluated ∧ (t.wall.lanes.get n).drawer = .jammed ∧ (t.wall.lanes.get n).owner = none
      ∧ (t.wall.lanes.get n).pocket.state = (if envelope then .held else .empty) ∧ (t.wall.lanes.get n).pocket.owner = none
      ∧ (t.wall.lanes.get n).pocket.abandoned = false
      ∧ (envelope = true → (t.wall.lanes.get n).pocket.holdMs = s.wall.holdLimitMs ∧ (t.wall.lanes.get n).pocket.timerRunning = true)
      ∧ (t.wall.lanes.get n).itemSensor = item ∧ t.wall.conveyor = s.wall.conveyor
      ∧ (t.wall.slot (lanePage n) x).state = .finished
      ∧ (t.wall.slot (lanePage n) x).result = resultWords .drawerJammed (s.wall.slot (lanePage n) x).tooLate s.wall.port.seconds
          (s.wall.returnFields (s.wall.lanes.get n).result)
      ∧ (∀ e, e = s.wall.post (.drawerJammed n) Travel.liftToPocket.code → t.wall.board = e.board ∧ t.wall.lost = e.lost)
      ∧ ∀ m, m ≠ n → t.wall.lanes.get m = s.wall.lanes.get m)
    ∧ (∀ x envelope item, (s.wall.lanes.get n).drawer = .lifting → (s.wall.lanes.get n).travel = .liftToDrawer → s.wall.held = false →
      (s.wall.lanes.get n).forced = false → (s.wall.lanes.get n).owner = some x → s.wall.waitsElsewhere n x →
      s.wall.kindAt (lanePage n) x = some .returnEnvelope →
      ∃ t, t = { s with wall := s.wall.liftOverrun n envelope item }
      ∧ exec (.liftOverrun n envelope item) s = .next t.evaluated ∧ (t.wall.lanes.get n).drawer = .jammed ∧ (t.wall.lanes.get n).owner = none
      ∧ (t.wall.lanes.get n).pocket.state = (if envelope then .held else .empty) ∧ (t.wall.lanes.get n).itemSensor = item
      ∧ (∀ e, e = s.wall.post (.drawerJammed n) Travel.liftToDrawer.code → t.wall.board = e.board ∧ t.wall.lost = e.lost)
      ∧ (t.wall.slot (lanePage n) x).state = .finished
      ∧ (t.wall.slot (lanePage n) x).result =
        resultWords .drawerJammed (s.wall.slot (lanePage n) x).tooLate s.wall.port.seconds (s.wall.returnFields .none)
      ∧ ∀ m, m ≠ n → t.wall.lanes.get m = s.wall.lanes.get m)

/-- R9, R16, R18, R124, R134, R135: a completed lift: a DEPOSIT's envelope is HELD and the order ends IN ESCROW; a RETURN's untaken envelope is queued
for capture and the drawer released; a RETURN's envelope in the drawer starts its take cycle, which a close asked for in the lift closes at once, and
which lockdown ends at once with the result LEFT and the lift back to the pocket. While the drawer is forced a lift stands where it is (R10) and does
not complete; in hold the end of a lift is believed as in any other state (the model's choice: log 21). -/
def Obligations.LiftsComplete : Prop :=
  ∀ (s : State) (n : LaneId) (x : SlotId), s.supply = true → (s.wall.lanes.get n).drawer = .lifting →
    (s.wall.lanes.get n).owner = some x →
    ((s.wall.lanes.get n).forced = true → exec (.liftComplete n) s = .next s.evaluated)
    ∧ ((s.wall.lanes.get n).forced = false → (s.wall.lanes.get n).travel = .liftToPocket → s.wall.kindAt (lanePage n) x = some .deposit →
      ∃ t, t = { s with wall := s.wall.liftEnds n }
      ∧ exec (.liftComplete n) s = .next t.evaluated
      ∧ (t.wall.lanes.get n).drawer = .stowed ∧ (t.wall.lanes.get n).owner = none ∧ (t.wall.lanes.get n).itemSensor = false
      ∧ (t.wall.lanes.get n).pocket.state = .held ∧ (t.wall.lanes.get n).pocket.owner = none
      ∧ (t.wall.lanes.get n).pocket.holdMs = s.wall.holdLimitMs ∧ (t.wall.lanes.get n).pocket.timerRunning = true
      ∧ (t.wall.slot (lanePage n) x).state = .finished
      ∧ (t.wall.slot (lanePage n) x).result = resultWords .inEscrow (s.wall.slot (lanePage n) x).tooLate s.wall.port.seconds
          (depositFields (s.wall.lanes.get n).closeCause (s.wall.lanes.get n).result .held)
      ∧ t.wall.conveyor = s.wall.conveyor ∧ ∀ m, m ≠ n → t.wall.lanes.get m = s.wall.lanes.get m)
    ∧ ((s.wall.lanes.get n).forced = false → (s.wall.lanes.get n).travel = .liftToPocket →
      s.wall.kindAt (lanePage n) x = some .returnEnvelope → ∃ t, t = { s with wall := s.wall.liftEnds n }
      ∧ exec (.liftComplete n) s = .next t.evaluated
      ∧ (t.wall.lanes.get n).drawer = .stowed ∧ (t.wall.lanes.get n).owner = none ∧ (t.wall.lanes.get n).pocket.state = .captureWait
      ∧ (t.wall.lanes.get n).pocket.owner = some x ∧ (t.wall.lanes.get n).pocket.abandoned = true
      ∧ t.wall.conveyor = { s.wall.conveyor with queue := s.wall.conveyor.queue ++ [n] } ∧ t.wall.pages = s.wall.pages
      ∧ ∀ m, m ≠ n → t.wall.lanes.get m = s.wall.lanes.get m)
    ∧ ((s.wall.lanes.get n).forced = false → (s.wall.lanes.get n).travel = .liftToDrawer → s.wall.lockdown = false →
      ∃ t, t = { s with wall := s.wall.liftEnds n }
      ∧ exec (.liftComplete n) s = .next t.evaluated
      ∧ ((s.wall.lanes.get n).ownerClose = none →
        (t.wall.lanes.get n).drawer = .opening ∧ (t.wall.lanes.get n).travel = .outward ∧ (t.wall.lanes.get n).ownerClose = none)
      ∧ (∀ c, (s.wall.lanes.get n).ownerClose = some c →
        (t.wall.lanes.get n).drawer = .closing ∧ (t.wall.lanes.get n).travel = .inward ∧ (t.wall.lanes.get n).closeCause = c
        ∧ (t.wall.lanes.get n).ownerClose = some c)
      ∧ (t.wall.lanes.get n).budgetMs = 4000
      ∧ (t.wall.lanes.get n).cycle = .take ∧ (t.wall.lanes.get n).result = .none ∧ (t.wall.lanes.get n).itemSensor = true
      ∧ (t.wall.lanes.get n).envelopeSensor = false ∧ (t.wall.lanes.get n).owner = some x ∧ t.wall.pages = s.wall.pages
      ∧ ∀ m, m ≠ n → t.wall.lanes.get m = s.wall.lanes.get m)
    ∧ ((s.wall.lanes.get n).forced = false → (s.wall.lanes.get n).travel = .liftToDrawer → s.wall.lockdown = true →
      s.wall.kindAt (lanePage n) x = some .returnEnvelope → ∃ t, t = { s with wall := s.wall.liftEnds n }
      ∧ exec (.liftComplete n) s = .next t.evaluated
      ∧ (t.wall.lanes.get n).drawer = .lifting ∧ (t.wall.lanes.get n).travel = .liftToPocket ∧ (t.wall.lanes.get n).budgetMs = 3000
      ∧ (t.wall.lanes.get n).cycle = .none ∧ (t.wall.lanes.get n).result = .left ∧ (t.wall.lanes.get n).itemSensor = true
      ∧ (t.wall.lanes.get n).envelopeSensor = false ∧ (t.wall.lanes.get n).owner = some x
      ∧ (t.wall.lanes.get n).pocket = (s.wall.lanes.get n).pocket ∧ t.wall.pages = s.wall.pages ∧ t.wall.conveyor = s.wall.conveyor
      ∧ ∀ m, m ≠ n → t.wall.lanes.get m = s.wall.lanes.get m)

/-- R10, R79, R141: a stowed sensor that clears while the motor does not drive the drawer forces it and makes point 14 ACTIVE; where point 14's
zone is SUPERVISORY nothing else changes, and where it is not no other point does. The sensor asserting again clears the mark: a STOWED or HOLDING
drawer rests by its item sensor, a CLOSING one without a cycle or a PATH RESET ends its travel there and rests so, and in the other states the
sensors and the mark alone change; FORCED_MARK_CLEARED leaves a drawer that is not forced as it is, for the command acts only where its event can
occur (the model's choice: log 20). Point 14 follows the four marks. The time without a pulse begins
anew where the belt stood. The model's choice (log 16): the drawer record keeps, beside the stowed sensor's level, the mark of a level that the
start of a travel out has cleared and no report has confirmed since. The start of a travel sets it, a jam keeps it, and the forced drawer's sensor
clears it. A drawer with that mark is forced as one whose level is still 1; while the motor drives the drawer the report changes the level and the
mark alone, and with neither it changes nothing. -/
def Obligations.ForcedMark : Prop :=
  (∀ (s : State) (n : LaneId), s.supply = true →
    ((s.wall.lanes.get n).stowedSensor = true ∨ (s.wall.lanes.get n).leaving = true → s.wall.drawerDriven n = false →
      ∃ t, t = { s with wall := s.wall.stowedClears n }
      ∧ exec (.drawerForced n) s = .next t.evaluated ∧ (t.wall.lanes.get n).forced = true ∧ (t.wall.lanes.get n).stowedSensor = false
      ∧ (t.wall.points.get 14).live = true ∧ ∀ p, p ≠ 14 → t.wall.points.get p = s.wall.points.get p)
    ∧ ((s.wall.lanes.get n).forced = true → (s.wall.lanes.get n).drawer ≠ .stowed → (s.wall.lanes.get n).drawer ≠ .holding →
      (s.wall.lanes.get n).drawer ≠ .closing → s.wall.anyForced = (s.wall.points.get 14).live →
      ∃ t, t = { s with wall := s.wall.forcedEnds n }
      ∧ exec (.forcedMarkCleared n) s = .next t.evaluated
      ∧ t.wall.lanes.get n =
        { s.wall.lanes.get n with stowedSensor := true, extendedSensor := false, forced := false, leaving := false }
      ∧ (t.wall.points.get 14).live = laneIds.any (fun m => decide (m ≠ n) && (s.wall.lanes.get m).forced)
      ∧ (∀ m, m ≠ n → t.wall.lanes.get m = s.wall.lanes.get m) ∧ (∀ p, p ≠ 14 → t.wall.points.get p = s.wall.points.get p)
      ∧ t.wall.zones = s.wall.zones ∧ t.wall.pages = s.wall.pages)
    ∧ ((s.wall.lanes.get n).forced = true → (s.wall.lanes.get n).drawer = .closing → (s.wall.lanes.get n).cycle = .none →
      s.wall.pathReset (2 + n.val) = none → s.wall.anyForced = (s.wall.points.get 14).live →
      ∃ t, t = { s with wall := s.wall.forcedEnds n }
      ∧ exec (.forcedMarkCleared n) s = .next t.evaluated
      ∧ t.wall.lanes.get n =
        { s.wall.lanes.get n with
            stowedSensor := true, extendedSensor := false, forced := false, leaving := false, drawer := (s.wall.lanes.get n).restState,
            travel := .none, budgetMs := 0, bounce := 0, obstructed := false, shortTimer := false }
      ∧ ∀ m, m ≠ n → t.wall.lanes.get m = s.wall.lanes.get m)
    ∧ ((s.wall.lanes.get n).forced = false → exec (.forcedMarkCleared n) s = .next s.evaluated))
  ∧ ∀ (s : State) (n : LaneId), s.supply = true → s.wall.supervised 14 →
    ((s.wall.lanes.get n).stowedSensor = true ∨ (s.wall.lanes.get n).leaving = true → s.wall.drawerDriven n = false →
      ∃ t, t = { s with wall := s.wall.stowedClears n }
      ∧ exec (.drawerForced n) s = .next t.evaluated
      ∧ t.wall.lanes.get n = { s.wall.lanes.get n with stowedSensor := false, leaving := false, forced := true }
      ∧ (t.wall.points.get 14).live = true
      ∧ (∀ m, m ≠ n → t.wall.lanes.get m = s.wall.lanes.get m) ∧ (∀ p, p ≠ 14 → t.wall.points.get p = s.wall.points.get p)
      ∧ t = { s with wall := { s.wall with lanes := t.wall.lanes, points := t.wall.points } })
    ∧ ((s.wall.lanes.get n).stowedSensor = true ∨ (s.wall.lanes.get n).leaving = true → s.wall.drawerDriven n = true →
      exec (.drawerForced n) s = .next
        (State.evaluated { s with wall := s.wall.modLane n fun l => { l with stowedSensor := false, leaving := false } }))
    ∧ ((s.wall.lanes.get n).stowedSensor = false → (s.wall.lanes.get n).leaving = false → exec (.drawerForced n) s = .next s.evaluated)
    ∧ (∀ w : Wall, (w.lanes.get n).stowedSensor = true → ((w.startOpen n).lanes.get n).leaving = true)
    ∧ (∀ x, (s.wall.lanes.get n).leaving = true → (s.wall.lanes.get n).drawer = .opening → s.wall.drawerDriven n = true →
      (s.wall.lanes.get n).owner = some x → ((s.wall.travelOverrun n).lanes.get n).drawer = .jammed
        ∧ ((s.wall.travelOverrun n).lanes.get n).leaving = true)
    ∧ ((s.wall.lanes.get n).forced = true → (s.wall.lanes.get n).drawer = .stowed ∨ (s.wall.lanes.get n).drawer = .holding →
      ∃ t, t = { s with wall := s.wall.forcedEnds n }
      ∧ exec (.forcedMarkCleared n) s = .next t.evaluated
      ∧ t.wall.lanes.get n =
        { s.wall.lanes.get n with
            stowedSensor := true, extendedSensor := false, forced := false, leaving := false,
            drawer := (s.wall.lanes.get n).restState }
      ∧ (t.wall.points.get 14).live = laneIds.any (fun m => decide (m ≠ n) && (s.wall.lanes.get m).forced)
      ∧ (∀ m, m ≠ n → t.wall.lanes.get m = s.wall.lanes.get m) ∧ (∀ p, p ≠ 14 → t.wall.points.get p = s.wall.points.get p)
      ∧ t.wall.transport =
        { s.wall.transport with silentMs := if s.wall.beltDriven then s.wall.transport.silentMs else 0 }
      ∧ t = { s with wall := { s.wall with lanes := t.wall.lanes, points := t.wall.points, transport := t.wall.transport } })

/-- R123: the expiry of a running hold-limit timer: an unattended capture, or a stranded pocket with its board entry. Where the timer does not run
HOLD_LIMIT_EXPIRY changes nothing: the command acts only where its event can occur (the model's choice: log 20). -/
def Obligations.HoldLimitExpires : Prop :=
  ∀ (s : State) (n : LaneId), s.supply = true →
    (s.wall.holdLimitRuns n = false → exec (.holdLimitExpiry n) s = .next s)
    ∧ (s.wall.holdLimitRuns n = true → (s.wall.bins.get depositBin).full = false → s.wall.conveyor.state ≠ .faulted →
      ∃ t, exec (.holdLimitExpiry n) s = .next t
      ∧ t.wall.lanes.get n =
        { s.wall.lanes.get n with
            pocket := { (s.wall.lanes.get n).pocket with
                          state := .captureWait, owner := none, holdMs := 0, timerRunning := false, stranded := false, unattended := true } }
      ∧ t.wall.conveyor = { s.wall.conveyor with queue := s.wall.conveyor.queue ++ [n] }
      ∧ (∀ m, m ≠ n → t.wall.lanes.get m = s.wall.lanes.get m)
      ∧ t = { s with wall := { s.wall with lanes := t.wall.lanes, conveyor := t.wall.conveyor } })
    ∧ (s.wall.holdLimitRuns n = true → (s.wall.bins.get depositBin).full = true ∨ s.wall.conveyor.state = .faulted →
      exec (.holdLimitExpiry n) s = .next
        { s with wall := (s.wall.modPocket n fun p =>
                   { p with owner := none, holdMs := 0, timerRunning := false, unattended := false, stranded := true }).post
                     (.escrowStranded n) (if (s.wall.bins.get depositBin).full then 1 else 2) })

/-! ### The note gate (chapter 4) -/

/-- R67, R68, R69, R70, R90, R110, R74, R76, R81: a leading edge takes the next sequence number, the gap and the source of its join, matches the
oldest open pick whose window has not closed, and joins the exit watch and the in-flight list; past every window, or with no open pick, it is
charged to the last pick source. The trailing edge decides the passage and writes the route latch; a passage that hold has cut goes to the reject
bin whatever its source (the model's reading of R81 against R74 and R109: log 66). The trailing edge of a piece whose front the diverter has
already met writes no latch: the piece settles there and then as a rejected one and is traced, and one that has left the exit as well is credited
to the reject bin, and to its retract's two counts, of which the one of pieces to the reject bin stops at 65535 (the model's choice: log 73). One with no passage in the gate, of a piece whose passage a fault or a reset closed, starts the
gap counter alone. -/
def Obligations.GateEdges : Prop :=
  ∀ (s : State), s.supply = true →
    (s.wall.gate.inPassage = false → ∃ t, exec .leadingEdge s = .next t ∧ t.wall.gate.inPassage = true ∧ t.wall.gate.presence = true
      ∧ t.wall.gate.nextSeq = (s.wall.gate.nextSeq + 1) % 65536 ∧ t.wall.gate.gap = s.wall.gate.gapCounter.getD 4095
      ∧ t.wall.gate.runLength = 0 ∧ t.wall.gate.runPeak = 0 ∧ t.wall.gate.cut = s.wall.held
      ∧ t.wall.transport =
        { s.wall.transport with
            watch := t.wall.transport.watch, quiet := 0, silentMs := if s.wall.beltDriven then s.wall.transport.silentMs else 0 }
      ∧ t.wall.transport.watch =
        s.wall.transport.watch ++ [{ seq := s.wall.gate.nextSeq, source := t.wall.gate.source, settled := none, travel := 0 }]
      ∧ t.wall.gate.inFlight.map Passage.seq = s.wall.gate.inFlight.map Passage.seq ++ [s.wall.gate.nextSeq]
      ∧ (∀ n, s.wall.transport.join = .retract n → t.wall.gate.source = .retract n ∧ t.wall.gate.openPicks = s.wall.gate.openPicks)
      ∧ (s.wall.transport.join = .clearance → t.wall.gate.source = .clearance ∧ t.wall.gate.openPicks = s.wall.gate.openPicks)
      ∧ (∀ n, s.wall.transport.join = .dispense n → ∀ late p later, s.wall.gate.openPicks = late ++ p :: later → p.travel ≤ 400 →
          (∀ q ∈ late, 400 < q.travel) → t.wall.gate.source = .cassette p.cassette ∧ t.wall.gate.openPicks = late ++ later)
      ∧ (∀ n c, s.wall.transport.join = .dispense n → (∀ q ∈ s.wall.gate.openPicks, 400 < q.travel) → s.wall.gate.lastPick = some c →
          t.wall.gate.source = .cassette c ∧ t.wall.gate.openPicks = s.wall.gate.openPicks)
      ∧ (∀ n, s.wall.transport.join = .dispense n → (∀ q ∈ s.wall.gate.openPicks, 400 < q.travel) → s.wall.gate.lastPick = none →
          t.wall.gate.source = .clearance ∧ t.wall.gate.openPicks = s.wall.gate.openPicks)
      ∧ t = { s with wall := { s.wall with gate := t.wall.gate, transport := t.wall.transport } })
    ∧ (∀ older x younger, s.wall.gate.current = some (older, x, younger) → x.reached = false → s.wall.transport.watch ≠ [] →
      ∃ m, m = s.wall.measurePassage x.source (s.wall.gate.cut || s.wall.gate.lossSeen) x.gap s.wall.gate.runLength
          s.wall.gate.runPeak
      ∧ exec .trailingEdge s = .next
        (State.evaluated
          { s with wall := s.wall.modGate fun g =>
                     { g with inPassage := false, presence := false, gapCounter := some 0,
                              passages := older ++ { x with measure := some { m with route := if g.cut then .reject else m.route } } :: younger,
                              latch := some (if g.cut then .reject else m.route, x.seq) } }))
    ∧ (∀ older x younger, s.wall.gate.current = some (older, x, younger) → x.reached = true →
      (s.wall.transport.watch ≠ [] ∨ s.wall.transport.state ≠ .granted ∨ ∀ n c, s.wall.transport.join = .dispense n →
        s.wall.contextOf n = some c → c.phase ≠ .building ∨ 0 < s.wall.transport.stackerCount
          ∨ (c.endCause = .none ∧ c.final = false ∧ c.rejects < s.wall.rejectLimit)) →
      ∃ m, m = s.wall.measurePassage x.source (s.wall.gate.cut || s.wall.gate.lossSeen) x.gap s.wall.gate.runLength s.wall.gate.runPeak
      ∧ ∃ t, t = { s with wall := s.wall.trailing } ∧ exec .trailingEdge s = .next t.evaluated
      ∧ t.wall.gate.inPassage = false ∧ t.wall.gate.presence = false ∧ t.wall.gate.gapCounter = some 0
      ∧ t.wall.gate.passages = older ++ younger ∧ t.wall.gate.latch = s.wall.gate.latch
      ∧ t.wall.gate.flapStacker = s.wall.gate.flapStacker ∧ s.wall.tracedReject t.wall x m m.cls
      ∧ (∀ c, x.source = .cassette c → s.wall.rejectedPick t.wall c m.cls m.estimate)
      ∧ ((∀ c, x.source ≠ .cassette c) → t.wall.cassettes = s.wall.cassettes ∧ t.wall.engine = s.wall.engine)
      ∧ (x.seq ∉ s.wall.transport.exitedEarly → t.wall.bins = s.wall.bins ∧ t.wall.lanes = s.wall.lanes
        ∧ t.wall.transport =
          { s.wall.transport with
              watch := s.wall.transport.watch.map fun e => if e.seq = x.seq then { e with settled := some (m.estimate, .reject) } else e }
        ∧ ∀ c, x.source = .cassette c → ∀ e, e = s.wall.passageNews c m.cls m.estimate → t.wall.board = e.board ∧ t.wall.lost = e.lost)
      ∧ (x.seq ∈ s.wall.transport.exitedEarly →
        (t.wall.bins.get rejectBin).count = min 65535 ((s.wall.bins.get rejectBin).count + m.estimate)
        ∧ (∀ k, k ≠ rejectBin → t.wall.bins.get k = s.wall.bins.get k)
        ∧ t.wall.transport = { s.wall.transport with exitedEarly := s.wall.transport.exitedEarly.filter fun q => q ≠ x.seq }
        ∧ ∀ n, t.wall.lanes.get n =
          if x.source = .retract n ∧ s.wall.transport.join = .retract n then
            { s.wall.lanes.get n with
                bundle := { (s.wall.lanes.get n).bundle with
                              pieces := min 65535 ((s.wall.lanes.get n).bundle.pieces + m.estimate),
                              toReject := min 65535 ((s.wall.lanes.get n).bundle.toReject + m.estimate) } }
          else s.wall.lanes.get n))
    ∧ (s.wall.gate.inPassage = false → s.wall.transport.state ≠ .granted → exec .trailingEdge s = .next
        (State.evaluated { s with wall := s.wall.modGate fun g => { g with presence := false, gapCounter := some 0 } }))

/-- R71, R72, R73, R74: the class and the estimate of a passage, by the first test that applies, each with its range, and its route by the table of
R74, before the exception for a passage that hold has cut (which Obligations.GateEdges states): STACKER exactly for a measured pick within the
length tolerance, at most at the double threshold and at least at the thin limit, with a gap of at least the gap settle and accept enable 1; a
retract's destination for a piece of a retract; REJECT for every other. An estimate is the half-up rounding of R72 and R73 where its divisor is not
0 (over 0: log 4). -/
def Obligations.ClassesAndRoutes : Prop :=
  ∀ (w : Wall) (src : Source) (unmeasured : Bool) (gap l t : Nat) (m : Measure), m = w.measurePassage src unmeasured gap l t →
    m.length = l ∧ m.thickness = t
    ∧ (∀ c, w.doubleThreshold c = min 1023 ((w.cassettes.get c).tr * (16 + w.doubleMargin c) / 16))
    ∧ (∀ c, src = .cassette c →
      (unmeasured = true → m.cls = .unmeasured ∧ m.estimate = 1)
      ∧ (unmeasured = false →
        (w.noteLength c + w.lengthTolerance c < l → m.cls = .long ∧ 1 ≤ m.estimate ∧ m.estimate ≤ 4
          ∧ (0 < w.noteLength c → m.estimate = max 1 (min 4 ((2 * l + w.noteLength c) / (2 * w.noteLength c)))))
        ∧ (l + w.lengthTolerance c < w.noteLength c → m.cls = .short ∧ m.estimate = 1)
        ∧ (l ≤ w.noteLength c + w.lengthTolerance c → w.noteLength c ≤ l + w.lengthTolerance c →
          (w.doubleThreshold c < t → m.cls = .double ∧ 2 ≤ m.estimate ∧ m.estimate ≤ 4
            ∧ (0 < (w.cassettes.get c).tr →
              m.estimate = max 2 (min 4 ((2 * t + (w.cassettes.get c).tr) / (2 * (w.cassettes.get c).tr)))))
          ∧ (t ≤ w.doubleThreshold c → t < (w.cassettes.get c).tr / 2 → m.cls = .thin ∧ m.estimate = 1)
          ∧ (t ≤ w.doubleThreshold c → (w.cassettes.get c).tr / 2 ≤ t → m.estimate = 1
            ∧ m.cls = if gap < w.gapSettle c then .close else .single))))
    ∧ ((∀ c, src ≠ .cassette c) →
      (unmeasured = true → m.cls = .unmeasured ∧ m.estimate = 1)
      ∧ (unmeasured = false → m.cls = .retractPiece ∧ 1 ≤ m.estimate ∧ m.estimate ≤ 8
        ∧ (0 < w.shortestNote → m.estimate = max 1 (min 8 ((2 * l + w.shortestNote) / (2 * w.shortestNote))))))
    ∧ ((∃ c, 0 < w.denomination c) → (∃ c, 0 < w.denomination c ∧ w.shortestNote = w.noteLength c)
      ∧ ∀ c, 0 < w.denomination c → w.shortestNote ≤ w.noteLength c)
    ∧ ((∀ c, w.denomination c = 0) → w.shortestNote = 624)
    ∧ (∀ n, src = .retract n → m.route = if (w.lanes.get n).bundle.dest = .retractBin then .retractBin else .reject)
    ∧ ((∀ n, src ≠ .retract n) → m.route = .stacker ∨ m.route = .reject)
    ∧ (m.route = .stacker ↔
      ∃ c, src = .cassette c ∧ unmeasured = false ∧ l ≤ w.noteLength c + w.lengthTolerance c ∧ w.noteLength c ≤ l + w.lengthTolerance c
        ∧ t ≤ w.doubleThreshold c ∧ (w.cassettes.get c).tr / 2 ≤ t ∧ w.gapSettle c ≤ gap ∧ w.gate.acceptEnable = true)

/-- R75, R76, R55, R51, R53, R94, R58, R77, R82, R92, R90: a piece whose number the latch holds with STACKER, met with accept enable 1, swings the
flap, settles as an accepted single and is traced, counted, learned. Any other piece leaves the flap at REJECT, and one whose trailing edge has
passed settles: a rejected pick with the class the gate gave it, or CLOSE where another piece's latch met a SINGLE, is traced with the route
REJECT, raises its cassette's drawn count by its estimate, its passages and its consecutive rejects, at the limit of which the cassette becomes
SUSPECT with its post, and the rejected pieces and the rejects of the order that holds the join (the model's reading of a piece picked for an
earlier order: log 67), which ends REJECT LIMIT or waits for a re-mix as R94 and R58 say. A piece of a retract or of a clearance changes no
cassette and no order. One that an exit has seen before is credited to its bin now, and to its retract. A piece still in the gate is marked as met.
A trailing edge at the diverter returns the flap. The order's count comes before the cassette's (the model's reading: log 14). In hold an edge is
believed as in any other state (the model's choice: log 21). -/
def Obligations.DiverterEdges : Prop :=
  ∀ (s : State), s.supply = true →
    exec .diverterTrailingEdge s = .next { s with wall := s.wall.modGate fun g => { g with flapStacker := false } }
    ∧ (s.wall.transport.watch ≠ [] →
      ∀ older x younger, splitAtFirst (fun y => !y.reached) s.wall.gate.passages = some (older, x, younger) →
      (∀ m, x.measure = some m → m.cls = .single → m.estimate = 1 → x.seq ∉ s.wall.transport.exitedEarly → ∀ n c y, x.source = .cassette c →
        s.wall.gate.latch = some (.stacker, x.seq) → s.wall.gate.acceptEnable = true → s.wall.transport.join = .dispense n →
        s.wall.orderOf n .dispense = some y → ∀ l, s.wall.engine.loaded = some l → l.lane = n →
        ∃ t, t = { s with wall := s.wall.diverterLeading.checkEnding }
      ∧ exec .diverterLeadingEdge s = .next t.evaluated ∧ t.wall.gate.flapStacker = true ∧ t.wall.gate.latch = none
        ∧ t.wall.gate.passages = older ++ younger ∧ t.wall.gate.passageTotal = min 4294967295 (s.wall.gate.passageTotal + 1)
        ∧ t.wall.gate.trace.get s.wall.gate.traceNext = some
          { seq := x.seq, source := .cassette c, cls := .single, length := m.length, thickness := m.thickness, gap := x.gap, estimate := 1,
            route := .stacker, cut := false }
        ∧ t.wall.engine.routedInBundle = s.wall.engine.routedInBundle + 1
        ∧ t.wall.gate.acceptEnable = decide (s.wall.engine.routedInBundle + 1 ≠ l.context.target)
        ∧ t.wall.engine.loaded = some
          { l with context :=
                     { l.context with
                         outstanding := tabMod l.context.outstanding c (· - 1), routed := tabMod l.context.routed c (· + 1) } }
        ∧ (t.wall.cassettes.get c).reserved = (s.wall.cassettes.get c).reserved - (if 0 < l.context.outstanding.get c then 1 else 0)
        ∧ (t.wall.cassettes.get c).drawn = min 65535 ((s.wall.cassettes.get c).drawn + 1)
        ∧ (t.wall.cassettes.get c).passages = min 65535 ((s.wall.cassettes.get c).passages + 1)
        ∧ (t.wall.cassettes.get c).misses = 0 ∧ (t.wall.cassettes.get c).rejects = 0
        ∧ (t.wall.cassettes.get c).tr = learnedTr (s.wall.noteThickness c) (s.wall.cassettes.get c).tr m.thickness
        ∧ (∀ d, d ≠ c → t.wall.cassettes.get d = s.wall.cassettes.get d) ∧ t.wall.bins = s.wall.bins ∧ t.wall.lanes = s.wall.lanes)
      ∧ (s.wall.gate.latch ≠ some (.stacker, x.seq) ∨ s.wall.gate.acceptEnable = false →
        ∃ t, t = { s with wall := s.wall.diverterLeading.checkEnding }
      ∧ exec .diverterLeadingEdge s = .next t.evaluated ∧ t.wall.gate.flapStacker = false
        ∧ (x.seq ∉ s.wall.transport.exitedEarly → t.wall.lanes = s.wall.lanes)
        ∧ (s.wall.gate.latch.map Prod.snd = some x.seq → t.wall.gate.latch = none)
        ∧ (s.wall.gate.latch.map Prod.snd ≠ some x.seq → t.wall.gate.latch = s.wall.gate.latch)
        ∧ (x.measure = none → t.wall = { s.wall with gate := t.wall.gate }
          ∧ t.wall.gate.passages = older ++ { x with reached := true } :: younger)
        ∧ (∀ m, x.measure = some m → m.route ≠ .retractBin → ∀ c, x.source = .cassette c →
          ∀ cls, cls = (if s.wall.gate.latch ≠ none ∧ s.wall.gate.latch.map Prod.snd ≠ some x.seq ∧ m.route = .stacker then .close else m.cls) →
          t.wall.gate.passages = older ++ younger ∧ s.wall.tracedReject t.wall x m cls ∧ s.wall.rejectedPick t.wall c cls m.estimate
          ∧ (x.seq ∉ s.wall.transport.exitedEarly → t.wall.bins = s.wall.bins
            ∧ (∀ e, e = s.wall.passageNews c cls m.estimate → t.wall.board = e.board ∧ t.wall.lost = e.lost)
            ∧ t.wall.transport =
              { s.wall.transport with
                  watch := s.wall.transport.watch.map fun e => if e.seq = x.seq then { e with settled := some (m.estimate, .reject) } else e })
          ∧ (x.seq ∈ s.wall.transport.exitedEarly →
            t.wall.transport = { s.wall.transport with exitedEarly := s.wall.transport.exitedEarly.filter fun q => q ≠ x.seq }
            ∧ t.wall.lanes = s.wall.lanes
            ∧ (t.wall.bins.get rejectBin).count = min 65535 ((s.wall.bins.get rejectBin).count + m.estimate)
            ∧ ∀ k, k ≠ rejectBin → t.wall.bins.get k = s.wall.bins.get k))
        ∧ (∀ m, x.measure = some m → (∀ c, x.source ≠ .cassette c) →
          ∀ r, r = (if s.wall.gate.latch.map Prod.snd = some x.seq ∧ m.route = .retractBin then Route.retractBin else .reject) →
          t.wall.gate.passages = older ++ younger ∧ t.wall.cassettes = s.wall.cassettes ∧ t.wall.engine = s.wall.engine
          ∧ (x.seq ∉ s.wall.transport.exitedEarly → t.wall.bins = s.wall.bins ∧ t.wall.board = s.wall.board
            ∧ t.wall.transport =
              { s.wall.transport with
                  watch := s.wall.transport.watch.map fun e => if e.seq = x.seq then { e with settled := some (m.estimate, r) } else e })
          ∧ (x.seq ∈ s.wall.transport.exitedEarly →
            t.wall.transport = { s.wall.transport with exitedEarly := s.wall.transport.exitedEarly.filter fun q => q ≠ x.seq }
            ∧ (∀ n, x.source = .retract n → s.wall.transport.join = .retract n →
              (t.wall.lanes.get n).bundle.pieces = min 65535 ((s.wall.lanes.get n).bundle.pieces + m.estimate))
            ∧ ∀ k, (t.wall.bins.get k).count =
              if k = (if r = .retractBin then retractBin else rejectBin) then min 65535 ((s.wall.bins.get k).count + m.estimate)
              else (s.wall.bins.get k).count))))

/-- R67, R68, R70, R79, R90, R93, R99, R110, R111, R81, R103, R112: a rising edge lengthens the passage or the gap, as presence stands (log 44 for
presence), and moves every open pick and watched piece; in hold, and while a retract stands for its forced drawer, it moves nothing (log 21). Each
such edge tests the sweep in progress: with the tray clear and a quiet distance of 800 it finds the sweep ended, with an item and 2000 it finds it
stalled, and what it found stands until the sweep's end or stall is taken (the model's reading: log 72). The first edge after an encoder loss,
reported as an edge or as the loss's end (log 24), ends it and makes point 15 NORMAL. ENCODER_RESTORED with no loss in force changes nothing (the
model's choice: log 20). -/
def Obligations.EncoderEdges : Prop :=
  ∀ (s : State), s.supply = true →
    (∀ sample, s.wall.gate.loss = false → s.wall.held = true ∨ (∃ n, s.wall.transport.join = .retract n ∧ (s.wall.lanes.get n).forced = true) →
      exec (.encoderRisingEdge sample) s = .next s)
    ∧ (∀ sample, s.wall.gate.loss = false → s.wall.held = false → (∀ n, s.wall.transport.join = .retract n → (s.wall.lanes.get n).forced = false) →
      ∃ t, exec (.encoderRisingEdge sample) s = .next t
      ∧ t.wall.gate = { s.wall.gate with
                          runLength := t.wall.gate.runLength, runPeak := t.wall.gate.runPeak, gapCounter := t.wall.gate.gapCounter,
                          openPicks := t.wall.gate.openPicks }
      ∧ (s.wall.gate.presence = true → t.wall.gate.runLength = min 4095 (s.wall.gate.runLength + 1)
          ∧ t.wall.gate.runPeak = max s.wall.gate.runPeak sample.toNat ∧ t.wall.gate.gapCounter = s.wall.gate.gapCounter)
      ∧ (s.wall.gate.presence = false → t.wall.gate.runLength = s.wall.gate.runLength ∧ t.wall.gate.runPeak = s.wall.gate.runPeak
          ∧ t.wall.gate.gapCounter = s.wall.gate.gapCounter.map fun k => min 4095 (k + 1))
      ∧ t.wall.gate.openPicks = s.wall.gate.openPicks.map (fun p => { p with travel := p.travel + 1 })
      ∧ t.wall.transport =
        { s.wall.transport with
            watch := s.wall.transport.watch.map fun e => { e with travel := e.travel + 1 }, quiet := s.wall.transport.quiet + 1,
            clearPulses := s.wall.transport.clearPulses - 1, silentMs := 0, sweepFound := t.wall.transport.sweepFound }
      ∧ (∀ n, s.wall.transport.join = .retract n → s.wall.transport.state = .granted → (s.wall.lanes.get n).bundle.phase = .sweeping →
        s.wall.transport.sweepFound = .none →
        t.wall.transport.sweepFound =
          if (s.wall.lanes.get n).itemSensor = false ∧ 800 ≤ s.wall.transport.quiet + 1 then .clear
          else if (s.wall.lanes.get n).itemSensor = true ∧ 2000 ≤ s.wall.transport.quiet + 1 then .lodged else .none)
      ∧ ((∀ n, s.wall.transport.join = .retract n → s.wall.transport.state = .granted → (s.wall.lanes.get n).bundle.phase ≠ .sweeping)
          ∨ s.wall.transport.sweepFound ≠ .none →
        t.wall.transport.sweepFound = s.wall.transport.sweepFound)
      ∧ t.wall.engine = { s.wall.engine with sinceRelease := s.wall.engine.sinceRelease + 1 }
      ∧ t = { s with wall := { s.wall with gate := t.wall.gate, transport := t.wall.transport, engine := t.wall.engine } })
    ∧ (∀ c, c = .encoderRestored ∨ (∃ sample, c = .encoderRisingEdge sample) → s.wall.gate.loss = true → ∃ t, exec c s = .next t
      ∧ t.wall.gate.loss = false ∧ (t.wall.points.get 15).live = false ∧ t.wall.transport.silentMs = 0
      ∧ (∀ p, p ≠ 15 → t.wall.points.get p = s.wall.points.get p) ∧ t.wall.lanes = s.wall.lanes ∧ t.wall.pages = s.wall.pages
      ∧ t.wall.zones = s.wall.zones)
    ∧ (s.wall.gate.loss = false → exec .encoderRestored s = .next s)

/-- R93, R91, R57, R60, R69, R70, R52, R53, R58: the order that holds the path picks exactly where the transport is GRANTED without hold and lockdown,
the order is building, its end has not begun, no re-mix waits and it is not final, the notes routed and pending are below the target, and the encoder
has run the last released note's length, its gap settle and 100 pulses more since its release; it picks from the first cassette of its listing that is
usable and owes the order more than is pending from it. The listing holds the usable cassettes for an AMOUNT order and those with a count for a MIX
order, a greater denomination first and of equal ones the lower position. No other release happens: PICK_RELEASE with none due changes nothing, so in
lockdown, in hold and outside GRANTED. A release opens a pick and paces the next, and at four open picks it makes the oldest a miss first, whatever
that has travelled; a miss that is due closes the oldest open pick. A miss counts against its cassette: the third in a row of one that is IN SERVICE or
LOW makes it EMPTY, doubts a count that said notes were left, posts CASSETTE EMPTY with detail 2, and lets each order that it owes notes to wait for a
re-mix unless its end has begun; a miss that finds the count at 3 already does the same (the model's reading: log 59). With no miss due MISS changes
nothing: the command acts only where the counts say that it is due (the model's choices: logs 22 and 20, and for PICK_RELEASE log 20). -/
def Obligations.PicksAndMisses : Prop :=
  (∀ (w : Wall) (x : Slot),
    (∀ c, c ∈ w.pickListing x ↔ if x.param 0 = 0 then w.usable c = true else 0 < x.mixCounts.get c)
    ∧ (w.pickListing x).Pairwise fun a b => w.denomination b < w.denomination a ∨ (w.denomination a = w.denomination b ∧ a < b))
  ∧ ∀ (s : State), s.supply = true →
    (∀ c, s.wall.readyPick = some c ↔
      ∃ n k ty x, s.wall.transport.join = .dispense n ∧ s.wall.contextOf n = some k ∧ s.wall.tallyOf n = some ty
        ∧ s.wall.orderOf n .dispense = some x ∧ s.wall.transport.state = .granted ∧ s.wall.held = false ∧ s.wall.lockdown = false
        ∧ k.phase = .building ∧ k.endCause = .none ∧ ty.faulted = false ∧ ty.remixWait = false ∧ k.final = false
        ∧ s.wall.engine.routedInBundle + (s.wall.gate.openPicks.length + (s.wall.gate.passages.filter Passage.fromPick).length) < k.target
        ∧ (∀ d, s.wall.engine.lastRelease = some d → s.wall.noteLength d + s.wall.gapSettle d + 100 ≤ s.wall.engine.sinceRelease)
        ∧ ∃ earlier later, s.wall.pickListing (s.wall.slot (lanePage n) x) = earlier ++ c :: later
          ∧ s.wall.usable c = true ∧ s.wall.gate.pendingFrom c < k.outstanding.get c
          ∧ ∀ d ∈ earlier, s.wall.usable d = false ∨ k.outstanding.get d ≤ s.wall.gate.pendingFrom d)
    ∧ (s.wall.readyPick = none → exec .pickRelease s = .next s)
    ∧ (s.wall.lockdown = true ∨ s.wall.held = true ∨ s.wall.transport.state ≠ .granted → exec .pickRelease s = .next s)
    ∧ (∀ c, s.wall.readyPick = some c → s.wall.usable c = true
      ∧ (s.wall.gate.openPicks.length < 4 → exec .pickRelease s = .next
        { s with wall := { s.wall with
                             gate := { s.wall.gate with
                                         openPicks := s.wall.gate.openPicks ++ [{ cassette := c, travel := 0 }], lastPick := some c },
                             engine := { s.wall.engine with lastRelease := some c, sinceRelease := 0 } } })
      ∧ ∀ p rest, s.wall.gate.openPicks = p :: rest → 4 ≤ s.wall.gate.openPicks.length →
        ∃ t, t = { s with wall := s.wall.releasePick c } ∧ exec .pickRelease s = .next t ∧ s.wall.missedPick t.wall p.cassette
        ∧ t.wall.gate = { s.wall.gate with openPicks := rest ++ [{ cassette := c, travel := 0 }], lastPick := some c }
        ∧ t.wall.engine = { s.wall.engine with lastRelease := some c, sinceRelease := 0, tallies := t.wall.engine.tallies }
        ∧ t = { s with wall := { s.wall with gate := t.wall.gate, engine := t.wall.engine, cassettes := t.wall.cassettes,
                                             board := t.wall.board, lost := t.wall.lost } })
    ∧ (∀ p rest, s.wall.gate.openPicks = p :: rest → 400 < p.travel →
      (s.wall.transport.watch ≠ [] ∨ rest ≠ [] ∨ s.wall.transport.state ≠ .granted ∨ ∀ n c, s.wall.transport.join = .dispense n →
        s.wall.contextOf n = some c → c.phase ≠ .building ∨ 0 < s.wall.transport.stackerCount ∨ (c.endCause = .none ∧ c.final = false)) →
      ∃ t, t = { s with wall := s.wall.missed } ∧ exec .miss s = .next t.evaluated ∧ s.wall.missedPick t.wall p.cassette
      ∧ t.wall.gate = { s.wall.gate with openPicks := rest }
      ∧ t.wall.engine = { s.wall.engine with tallies := t.wall.engine.tallies }
      ∧ t = { s with wall := { s.wall with gate := t.wall.gate, engine := t.wall.engine, cassettes := t.wall.cassettes,
                                           board := t.wall.board, lost := t.wall.lost } })
    ∧ (s.wall.gate.missDue = false → exec .miss s = .next s.evaluated)


/-- R98, R80, R79, R90, R95, R103, R112, R141, R144, R154: a jam is declared exactly where a piece on the exit watch has travelled 1200 pulses,
outside hold and but while a retract stands for its forced drawer. A jam, an overrun delivery, a stray piece outside a clearance (in IDLE, UNKNOWN,
PURGING or FAULTED too: log 38) and an encoder loss make the transport FAULTED with nothing held, and make their internal point ACTIVE, whose zone,
of any mode and in any state, then acts as it does on any change (what they end and post: FaultEndings; when the zone acts among a fault's own
effects: log 74). In hold, and while a retract stands for its forced drawer, no jam and no stray piece is declared (log 21). TRANSPORT_JAM with no
piece overdue (the piece named: log 22) and ENCODER_LOSS while the belt is not driven change nothing (the model's choice: log 20). -/
def Obligations.TransportFaults : Prop :=
  ∀ (s : State), s.supply = true →
    (s.wall.transport.overdue = true ↔ ∃ e ∈ s.wall.transport.watch, 1200 ≤ e.travel)
    ∧ (s.wall.jamDue = true ↔ s.wall.transport.overdue = true ∧ s.wall.held = false
      ∧ ∀ n, s.wall.transport.join = .retract n → (s.wall.lanes.get n).forced = false)
    ∧ (s.wall.transport.overdue = true → s.wall.held = false → (∀ n, s.wall.transport.join = .retract n → (s.wall.lanes.get n).forced = false) →
      ∃ t, t = { s with wall := s.wall.transportFault true }
      ∧ exec .transportJam s = .next t.evaluated ∧ t.wall.faultedAndClear ∧ s.wall.madeActive t.wall 12
      ∧ t.wall.conveyor = s.wall.conveyor ∧ t.wall.profile = s.wall.profile)
    ∧ (∀ n item, s.wall.deliveringLane = some n → s.wall.held = false → (s.wall.lanes.get n).forced = false →
      ∃ t, t = { s with wall := (s.wall.modLane n fun l => { l with itemSensor := item }).transportFault true }
      ∧ exec (.deliveryOverrun item) s = .next t.evaluated ∧ t.wall.faultedAndClear ∧ s.wall.madeActive t.wall 12
      ∧ t.wall.transport.composition = Counts.zero ∧ (t.wall.lanes.get n).itemSensor = item
      ∧ t.wall.conveyor = s.wall.conveyor ∧ t.wall.profile = s.wall.profile)
    ∧ (s.wall.transport.watch = [] → s.wall.transport.state ≠ .clearing → s.wall.held = false →
      (∀ n, s.wall.transport.join = .retract n → (s.wall.lanes.get n).forced = false) → ∃ t, t = { s with wall := s.wall.transportFault true }
      ∧ exec .exitLeadingEdge s = .next t.evaluated ∧ t.wall.faultedAndClear ∧ s.wall.madeActive t.wall 12
      ∧ t.wall.conveyor = s.wall.conveyor)
    ∧ (s.wall.beltDriven = true → ∃ t, t = { s with wall := s.wall.transportFault false }
      ∧ exec .encoderLoss s = .next t.evaluated ∧ t.wall.faultedAndClear ∧ t.wall.gate.loss = true ∧ s.wall.madeActive t.wall 15
      ∧ t.wall.conveyor = s.wall.conveyor)
    ∧ (s.wall.jamDue = false → exec .transportJam s = .next s)
    ∧ (s.wall.transport.watch = [] → s.wall.transport.state ≠ .clearing →
      s.wall.held = true ∨ (∃ n, s.wall.transport.join = .retract n ∧ (s.wall.lanes.get n).forced = true) →
      exec .exitLeadingEdge s = .next s.evaluated)
    ∧ (s.wall.beltDriven = false → exec .encoderLoss s = .next s.evaluated)

/-- R98, R80, R79, R99, R100, R105, R108, R113, R114, R97, R95, R102: what a fault, a jam or an encoder loss, leaves and ends. A jam posts TRANSPORT
FAULT with the join's number, an encoder loss ENCODER LOSS with the number of open picks dropped. The unaccounted count takes the estimates of the
pieces on the exit watch, that of a piece still in flight as the gate settles it at the fault. The DISPENSE that holds the path finishes TRANSPORT
FAULT, at once where the stacker is empty or the fault reached its delivery, whose notes are then presented and unresolved, and else at the end of
the stacker's dump. A granted retract ends with the pieces counted so far: a RETRACT finishes TRANSPORT FAULT, or DRAWER JAMMED as decided at its
stall, a DISPENSE TRANSPORT FAULT with the rest of its bundle unresolved. A clearance ends: the transport is ready for taking, and a PATH RESET
finishes TRANSPORT FAULT with a dumped count of 0. Each request in the queue ends its order TRANSPORT FAULT, a queued bundle in the drawer
unresolved; a queued RETRACT reports the destination NONE and counts of 0. The internal point of the fault goes ACTIVE, 12 at a jam and 15 at an
encoder loss, and its zone, of any mode and in any state, acts as on any change, before the fault posts its own news and before the orders end: where
that takes the wall into lockdown, an order whose BUNDLE request waits ends LOCKDOWN by it (the model's choice: log 74), and one that holds the path
still ends TRANSPORT FAULT. The model's other choices: a purge's running dump keeps its remaining time as
the fault's dump (log 17); a fault in DELIVERING leaves the bundles delivered as they are (log 28); after a stall a RETRACT ends with the stall's
outcome and second and a DISPENSE TRANSPORT FAULT, decided at the fault (log 29); a clearance's dump ends with nothing counted as dumped (log 51);
the report of a RETRACT never granted (log 68). -/
def Obligations.FaultEndings : Prop :=
  ∀ (w : Wall) (jam : Bool), ∀ q : PointId, q = (if jam = true then 12 else 15) → ∃ t, t = w.transportFault jam ∧ t.faultedAndClear
    ∧ w.madeActive t q
    ∧ (w.gate.inPassage = false → w.gate.passages = [] →
      ∀ e, e = (if jam = true then
          (w.pointNews q).post .transportFault (match w.transport.join with
            | .dispense n => 1 + n.val
            | .retract n => 5 + n.val
            | _ => 0)
        else (w.pointNews q).post .encoderLoss w.gate.openPicks.length) →
      ((∀ n, w.transport.join ≠ .retract n) → t.board = e.board ∧ t.lost = e.lost)
      ∧ (∀ n x, w.transport.join = .retract n → w.orderOf n .dispense = none → w.orderOf n .retract = some x →
        (0 < (w.lanes.get n).bundle.pieces →
          t.board = (e.post (.foreignPieces n) (w.lanes.get n).bundle.pieces).board
          ∧ t.lost = (e.post (.foreignPieces n) (w.lanes.get n).bundle.pieces).lost)
        ∧ ((w.lanes.get n).bundle.pieces = 0 → t.board = e.board ∧ t.lost = e.lost)))
    ∧ ((w.gate.passages.map Passage.seq).Nodup → (∀ e ∈ w.transport.watch, e.seq ∉ w.transport.exitedEarly) →
      (∀ x ∈ w.gate.passages, x.measure ≠ none → x.reached = false) →
      (∀ x ∈ w.gate.passages, x.measure = none → w.gate.inPassage = true ∧ ∀ y ∈ w.gate.passages, y.measure = none → y = x) →
      t.transport.unaccounted = min 65535 (w.transport.unaccounted + (w.transport.watch.map fun e =>
        match w.gate.passages.find? fun x => x.seq == e.seq with
        | some x => (x.measure.map Measure.estimate).getD 1
        | none => (e.settled.map Prod.fst).getD 0).sum))
    ∧ (∀ n x ty, w.transport.join = .dispense n → w.orderOf n .dispense = some x → w.tallyOf n = some ty →
      ∀ l, w.engine.loaded = some l → l.lane = n → l.slot = x → (∀ r ∈ w.transport.queue, r.lane ≠ n) →
      t.gate.acceptEnable = false ∧ t.engine.loaded = none
      ∧ (w.transport.stackerCount = 0 ∨ l.context.phase = .delivering → t.transport.dump = none ∧ t.transport.composition = Counts.zero
        ∧ (t.slot (lanePage n) x).state = .finished ∧ t.tallyOf n = none ∧ (t.lanes.get n).owner ≠ some x
        ∧ (t.slot (lanePage n) x).result.take 4 = resultWords .transportFault (w.slot (lanePage n) x).tooLate w.port.seconds [])
      ∧ (l.context.phase = .delivering → w.gate.inPassage = false → w.gate.passages = [] →
        (w.pointLocks q = false ∨ ((w.lanes.get n).drawer ≠ .offered ∧ (w.lanes.get n).drawer ≠ .opening) →
          (t.lanes.get n).drawer = if (w.lanes.get n).itemSensor then .holding else (w.lanes.get n).drawer)
        ∧ w.finishedWith t (lanePage n) x .transportFault
          (tallyWords l.context
            { ty with
                presented := addCounts ty.presented w.transport.composition, unresolved := ty.unresolved + w.transport.stackerCount }
            (w.valueOf (addCounts ty.presented w.transport.composition)) t.duressAlarm)
        ∧ (w.transport.queue = [] → w.pointLocks q = false →
          ∀ k, (t.cassettes.get k).reserved = (w.cassettes.get k).reserved - l.context.outstanding.get k))
      ∧ (0 < w.transport.stackerCount → l.context.phase ≠ .delivering → (∀ d, w.transport.dump = some d → d.purpose = .tenure) →
        t.transport.dump = some { purpose := .fault (some n), leftMs := (w.transport.dump.map Dump.leftMs).getD 1500 }
        ∧ t.transport.composition = w.transport.composition ∧ (t.slot (lanePage n) x).state = (w.slot (lanePage n) x).state
        ∧ (t.tallyOf n).map Tally.faulted = some true))
    ∧ (∀ n, w.transport.join = .retract n → w.gate.inPassage = false → w.gate.passages = [] → (∀ r ∈ w.transport.queue, r.lane ≠ n) →
      (t.lanes.get n).drawer =
        (if (w.lanes.get n).drawer = .jammed then .jammed else if (w.lanes.get n).itemSensor then .holding else .stowed)
      ∧ (∀ x, w.orderOf n .dispense = none → w.orderOf n .retract = some x → (t.lanes.get n).owner ≠ some x
        ∧ (t.slot (lanePage n) x).state = .finished
        ∧ (t.slot (lanePage n) x).result =
          resultWords (if (w.lanes.get n).bundle.stalled.isSome then .drawerJammed else .transportFault) (w.slot (lanePage n) x).tooLate
            (((w.lanes.get n).bundle.stalled.map Decision.seconds).getD w.port.seconds)
            [word (w.lanes.get n).bundle.pieces, word (w.lanes.get n).bundle.pieces, word (w.lanes.get n).bundle.dest.code,
              word (w.lanes.get n).bundle.toRetract, word (w.lanes.get n).bundle.toReject])
      ∧ (∀ x c ty, w.orderOf n .dispense = some x → w.contextOf n = some c → w.tallyOf n = some ty →
        w.pointLocks q = false ∨ c.phase = .retracting → w.engine.loaded.map Loaded.lane ≠ some n → ∀ back, back = min (w.lanes.get n).bundle.pieces c.inDrawer →
        (t.lanes.get n).owner ≠ some x ∧ t.tallyOf n = none
        ∧ w.finishedWith t (lanePage n) x .transportFault
          (tallyWords c
            { ty with
                retracted := ty.retracted + back, foreign := ty.foreign + ((w.lanes.get n).bundle.pieces - back),
                unresolved := ty.unresolved + (c.inDrawer - back) }
            (w.valueOf ty.presented) t.duressAlarm)))
    ∧ (w.transport.join = .clearance → t.port.transportReady = true
      ∧ ∀ y, w.pathReset 0 = some y →
        w.finishedWith t servicePage y .transportFault [word w.transport.seen, word t.transport.unaccounted, 0#16])
    ∧ (∀ n x ty, { lane := n, kind := .bundle } ∈ w.transport.queue → w.orderOf n .dispense = some x → w.tallyOf n = some ty →
      (∀ r ∈ w.transport.queue, r.lane = n → r.kind = .bundle) → w.transport.join ≠ .dispense n → w.transport.join ≠ .retract n →
      ∀ c, (w.slot (lanePage n) x).context = some c → w.engine.loaded.map Loaded.lane ≠ some n →
      (w.pointLocks q = true → c.phase = .bundleWait → c.endCause = .none → ty.faulted = false →
        (t.lanes.get n).owner ≠ some x ∧ t.tallyOf n = none
        ∧ w.finishedWith t (lanePage n) x .lockdown (tallyWords c ty (w.valueOf ty.presented) t.duressAlarm))
      ∧ (w.pointLocks q = false →
        (t.lanes.get n).owner ≠ some x ∧ t.tallyOf n = none
        ∧ w.finishedWith t (lanePage n) x .transportFault (tallyWords c ty (w.valueOf ty.presented) t.duressAlarm)
        ∧ ∀ k, w.gate.inPassage = false → w.gate.passages = [] → (∀ m, w.transport.join ≠ .dispense m) →
          (∀ r ∈ w.transport.queue, r.lane = n) → (∀ m, w.transport.join = .retract m → w.orderOf m .dispense = none) →
          (t.cassettes.get k).reserved = (w.cassettes.get k).reserved - c.outstanding.get k))
    ∧ ∀ n, { lane := n, kind := .retract } ∈ w.transport.queue → (∀ r ∈ w.transport.queue, r.lane = n → r.kind = .retract) →
      w.transport.join ≠ .dispense n → w.transport.join ≠ .retract n → w.engine.loaded.map Loaded.lane ≠ some n →
      w.pointLocks q = false ∨ ((w.lanes.get n).drawer ≠ .offered ∧ (w.lanes.get n).drawer ≠ .opening
        ∧ ∀ c, w.contextOf n = some c → c.phase = .retracting) →
      (∀ x, w.orderOf n .dispense = none → w.orderOf n .retract = some x → (t.lanes.get n).owner ≠ some x
        ∧ (t.lanes.get n).drawer = (w.lanes.get n).drawer
        ∧ w.finishedWith t (lanePage n) x .transportFault [0#16, 0#16, 0#16, 0#16, 0#16])
      ∧ (∀ x c ty, w.orderOf n .dispense = some x → (w.slot (lanePage n) x).context = some c → w.tallyOf n = some ty →
        (t.lanes.get n).owner ≠ some x ∧ t.tallyOf n = none ∧ (t.lanes.get n).drawer = (w.lanes.get n).drawer
        ∧ w.finishedWith t (lanePage n) x .transportFault
          (tallyWords c { ty with unresolved := ty.unresolved + c.inDrawer } (w.valueOf ty.presented) t.duressAlarm))

/-- R90, R94, R99, R105, R114, R115, R116: a piece at an exit leaves the watch and is credited by its route: to the stacker, or to its bin by its
estimate, and a retract's own piece to its P and to its count of the bin, which two counts stop at 65535 as P does (the model's choice: log 73); a
clearance counts it seen, and counts a piece that no watch entry expects into the reject bin. A piece that has not settled leaves the watch
uncredited, and its credit comes with its settlement (Obligations.GateEdges and Obligations.DiverterEdges). It may be the last piece the watch
expects: where the order that holds the path is building, has begun its end or is final, and no pick is pending and the stacker is empty, that edge
ends the tenure and the order's outcome is written, and the transport's grant evaluation follows; else nothing but the credit happens. In hold an
edge that the watch expects, or that a clearance meets, is believed as in any other state (the model's choice: log 21). -/
def Obligations.ExitEdges : Prop :=
  ∀ (s : State), s.supply = true →
    (∀ e rest, s.wall.transport.watch = e :: rest → ∀ estimate route, e.settled = some (estimate, route) →
      (rest ≠ [] ∨ s.wall.transport.state ≠ .granted ∨ ∀ n c, s.wall.transport.join = .dispense n → s.wall.contextOf n = some c →
        c.phase ≠ .building ∨ (c.endCause = .none ∧ c.final = false) ∨ 0 < s.wall.gate.pendingPicks ∨ 0 < s.wall.transport.stackerCount
          ∨ (route = .stacker ∧ ∃ k, e.source = .cassette k)) → ∃ t, t = { s with wall := s.wall.exitEdge }
      ∧ exec .exitLeadingEdge s = .next t.evaluated ∧ t.wall.transport.watch = rest
      ∧ t.wall.transport.seen =
        (if s.wall.transport.state = .clearing then min 65535 (s.wall.transport.seen + 1) else s.wall.transport.seen)
      ∧ (∀ c n, route = .stacker → e.source = .cassette c → s.wall.transport.join = .dispense n →
          t.wall.transport.composition = tabMod s.wall.transport.composition c (· + 1) ∧ t.wall.bins = s.wall.bins
          ∧ t.wall.tallyOf n = (s.wall.tallyOf n).map fun y => { y with accepted := y.accepted + 1 })
      ∧ (route = .reject → (t.wall.bins.get rejectBin).count = min 65535 ((s.wall.bins.get rejectBin).count + estimate)
          ∧ (∀ k, k ≠ rejectBin → t.wall.bins.get k = s.wall.bins.get k)
          ∧ t.wall.transport.composition = s.wall.transport.composition)
      ∧ (route = .retractBin → (t.wall.bins.get retractBin).count = min 65535 ((s.wall.bins.get retractBin).count + estimate)
          ∧ (∀ k, k ≠ retractBin → t.wall.bins.get k = s.wall.bins.get k)
          ∧ t.wall.transport.composition = s.wall.transport.composition)
      ∧ (∀ n, s.wall.transport.join = .retract n → e.source = .retract n → route ≠ .stacker →
          (t.wall.lanes.get n).bundle.pieces = min 65535 ((s.wall.lanes.get n).bundle.pieces + estimate)
          ∧ (t.wall.lanes.get n).bundle.toRetract =
            (if route = .retractBin then min 65535 ((s.wall.lanes.get n).bundle.toRetract + estimate)
            else (s.wall.lanes.get n).bundle.toRetract)
          ∧ (t.wall.lanes.get n).bundle.toReject =
            if route = .retractBin then (s.wall.lanes.get n).bundle.toReject
            else min 65535 ((s.wall.lanes.get n).bundle.toReject + estimate))
      ∧ t.wall.gate = s.wall.gate ∧ t.wall.pages = s.wall.pages ∧ t.wall.cassettes = s.wall.cassettes)
    ∧ (∀ e rest, s.wall.transport.watch = e :: rest → e.settled = none →
      (rest ≠ [] ∨ s.wall.transport.state ≠ .granted ∨ ∀ n c, s.wall.transport.join = .dispense n → s.wall.contextOf n = some c →
        c.phase ≠ .building ∨ (c.endCause = .none ∧ c.final = false) ∨ 0 < s.wall.gate.pendingPicks ∨ 0 < s.wall.transport.stackerCount) →
      exec .exitLeadingEdge s = .next
        (State.evaluated
          { s with wall :=
                     { s.wall with
                         transport :=
                           { s.wall.transport with
                               watch := rest, exitedEarly := s.wall.transport.exitedEarly ++ [e.seq],
                               seen :=
                                 if s.wall.transport.state = .clearing then min 65535 (s.wall.transport.seen + 1)
                                 else s.wall.transport.seen } } }))
    ∧ (∀ e, s.wall.transport.watch = [e] → ∀ estimate route, e.settled = some (estimate, route) → route ≠ .stacker →
      s.wall.transport.state = .granted → ∀ n x ty, s.wall.transport.join = .dispense n → s.wall.orderOf n .dispense = some x →
      s.wall.tallyOf n = some ty → ∀ l, s.wall.engine.loaded = some l → l.lane = n → l.slot = x → l.context.phase = .building →
      l.context.endCause ≠ .none ∨ l.context.final = true → s.wall.gate.pendingPicks = 0 → s.wall.transport.stackerCount = 0 →
      ∃ u, u = ((s.wall.modTransport fun k => { k with watch := [] }).creditExit e.source estimate route).endEmpty n
      ∧ ∃ t, t = { s with wall := s.wall.exitEdge } ∧ exec .exitLeadingEdge s = .next t.evaluated ∧ t.wall = u.transportGrant
      ∧ u.transport = { s.wall.transport with state := .idle, join := .none, watch := [] }
      ∧ u.gate = { s.wall.gate with acceptEnable := false } ∧ u.engine.loaded = none ∧ u.tallyOf n = none
      ∧ (∀ k, (u.bins.get k).count =
        if k = (if route = .retractBin then retractBin else rejectBin) then min 65535 ((s.wall.bins.get k).count + estimate)
        else (s.wall.bins.get k).count)
      ∧ (∀ k, (u.cassettes.get k).reserved = (s.wall.cassettes.get k).reserved - l.context.outstanding.get k)
      ∧ s.wall.finishedWith u (lanePage n) x (dispenseOutcome false l.context ty)
        (tallyWords l.context ty (s.wall.valueOf ty.presented) s.wall.duressAlarm)
      ∧ (s.wall.transport.queue = [] → t.wall = u))
    ∧ (s.wall.transport.watch = [] → s.wall.transport.state = .clearing → ∃ t, t = { s with wall := s.wall.exitEdge }
      ∧ exec .exitLeadingEdge s = .next t.evaluated
      ∧ t.wall.transport = { s.wall.transport with seen := min 65535 (s.wall.transport.seen + 1) }
      ∧ (t.wall.bins.get rejectBin).count = min 65535 ((s.wall.bins.get rejectBin).count + 1)
      ∧ (∀ k, k ≠ rejectBin → t.wall.bins.get k = s.wall.bins.get k) ∧ t.wall.gate = s.wall.gate ∧ t.wall.pages = s.wall.pages)

/-- R58, R59, R60, R55, R61, R105: an order's re-mix is run once a cassette it owes notes to has triggered it, its end has not begun and, where it is
building, no pick is pending; where more than one order's is, in the order of their acceptance. The re-mix of an AMOUNT order releases its outstanding counts and reserves the mix it finds for what is still to
be routed; without one, and for every MIX order, the order becomes final: with a bundle out it goes on; waiting for the drawer or for the transport
it ends PARTIAL at once; building it takes no further note, and ends PARTIAL at once where the path is settled and the stacker empty, and the
transport's grant evaluation follows. An order whose routed notes are worth more than its value, or are more than the note limit, has no mix. The
model's choices: a REMIX with none due changes nothing (log 20); an outstanding amount of 0, which R59 calls impossible, takes the zero mix (log
48); a mix found in DELIVERING leaves the target as it is (log 60); a final order has accept enable 0 from its mark on (log 36). -/
def Obligations.Remixes : Prop :=
  (∀ (s : State), s.supply = true → s.wall.nextRemix = none → exec .remix s = .next s.evaluated)
  ∧ (∀ (w : Wall) (n : LaneId),
    (w.remixReady n = true ↔ ∃ k ty, w.contextOf n = some k ∧ w.tallyOf n = some ty ∧ ty.remixWait = true ∧ k.endCause = .none
      ∧ ty.faulted = false ∧ (k.phase = .building → w.gate.openPicks = [] ∧ ∀ y ∈ w.gate.passages, y.fromPick = false))
    ∧ (w.nextRemix = none ↔ ∀ m, w.remixReady m = false)
    ∧ (w.nextRemix = some n → w.remixReady n = true
      ∧ ∀ m k j, w.remixReady m = true → w.contextOf n = some k → w.contextOf m = some j → k.acceptance ≤ j.acceptance))
  ∧ (∀ (s : State) (n : LaneId), s.supply = true → s.wall.nextRemix = some n →
    exec .remix s = .next { s with wall := (s.wall.remixLane n).evaluate })
  ∧ ∀ (w : Wall) (n : LaneId) (x : SlotId) (c : DispenseContext) (ty : Tally), w.remixReady n = true → w.orderOf n .dispense = some x →
    w.contextOf n = some c → w.tallyOf n = some ty →
    (∀ v, (w.slot (lanePage n) x).param 0 = 0 → w.valueOf c.routed ≤ (w.slot (lanePage n) x).param 1 → Counts.total c.routed ≤ w.noteLimit →
      (w.releaseOutstanding n).chooseMix ((w.slot (lanePage n) x).param 1 - w.valueOf c.routed) (w.noteLimit - Counts.total c.routed) = some v →
      ∃ t, t = w.remixLane n
      ∧ (t.contextOf n).map DispenseContext.outstanding = some v ∧ (t.contextOf n).map DispenseContext.remixes = some (c.remixes + 1)
      ∧ (t.contextOf n).map DispenseContext.target =
        some (if c.phase = .building then min w.bundleLimit (w.engine.routedInBundle + Counts.total v) else c.target)
      ∧ t.gate.acceptEnable =
        (if c.phase = .building ∧ w.engine.routedInBundle < min w.bundleLimit (w.engine.routedInBundle + Counts.total v) then true
        else w.gate.acceptEnable)
      ∧ t.tallyOf n = some { ty with chosen := addCounts c.routed v, remixWait := false }
      ∧ (∀ k, (t.cassettes.get k).reserved = (w.cassettes.get k).reserved - c.outstanding.get k + v.get k)
      ∧ t.lanes = w.lanes ∧ t.bins = w.bins
      ∧ t.transport = { w.transport with silentMs := if w.beltDriven then w.transport.silentMs else 0 })
    ∧ ((w.slot (lanePage n) x).param 0 ≠ 0 ∨ (w.slot (lanePage n) x).param 1 < w.valueOf c.routed ∨ w.noteLimit < Counts.total c.routed
        ∨ (w.releaseOutstanding n).chooseMix ((w.slot (lanePage n) x).param 1 - w.valueOf c.routed) (w.noteLimit - Counts.total c.routed)
          = none → ∃ t, t = w.remixLane n
      ∧ (∀ k, (t.cassettes.get k).reserved = (w.cassettes.get k).reserved - c.outstanding.get k)
      ∧ (c.phase = .inDrawer ∨ c.phase = .delivering ∨ c.phase = .retracting →
        t.contextOf n = some { c with final := true, outstanding := Counts.zero }
        ∧ t.tallyOf n = some { ty with chosen := c.routed, remixWait := false }
        ∧ t.lanes = w.lanes ∧ t.transport = w.transport ∧ t.bins = w.bins)
      ∧ (c.phase = .drawerWait ∨ c.phase = .bundleWait → w.engine.loaded.map Loaded.lane ≠ some n →
        (t.slot (lanePage n) x).state = .finished
        ∧ (t.slot (lanePage n) x).result.take 4 = resultWords .partialEnd (w.slot (lanePage n) x).tooLate w.port.seconds []
        ∧ (t.lanes.get n).owner ≠ some x ∧ (t.lanes.get n).waiting = (w.lanes.get n).waiting.filter (fun y => y ≠ x)
        ∧ t.tallyOf n = none
        ∧ (c.phase = .bundleWait →
          t.transport = { w.transport with queue := w.transport.queue.filter fun r => !(r.lane == n && r.kind == .bundle) }))
      ∧ (c.phase = .building → ∀ l, w.engine.loaded = some l → l.lane = n → l.slot = x → w.transport.join = .dispense n →
        w.transport.state = .granted →
        (w.pathSettled = false ∨ 0 < w.transport.stackerCount →
          t.contextOf n = some { c with final := true, outstanding := Counts.zero }
          ∧ t.tallyOf n = some { ty with chosen := c.routed, remixWait := false }
          ∧ t.gate = { w.gate with acceptEnable := false } ∧ t.transport = w.transport ∧ t.lanes = w.lanes)
        ∧ (w.pathSettled = true → w.transport.stackerCount = 0 → t = ((((((w.releaseOutstanding n).modContext n fun k =>
            { k with final := true }).modTally n fun y => { y with chosen := c.routed, remixWait := false }).modGate fun g =>
            { g with acceptEnable := false }).endEmpty n).transportGrant))
        ∧ (w.pathSettled = true → w.transport.stackerCount = 0 → w.transport.queue = [] →
          (t.slot (lanePage n) x).state = .finished
          ∧ (t.slot (lanePage n) x).result.take 4 = resultWords .partialEnd (w.slot (lanePage n) x).tooLate w.port.seconds []
          ∧ t.transport = { w.transport with state := .idle, join := .none } ∧ t.gate.acceptEnable = false ∧ t.tallyOf n = none)))

/-- R95, R91, R14, R103, R10, R101, R102, R18: a delivery starts exactly where the transport is GRANTED to a DISPENSE that is building, without an end
begun and a re-mix waiting, whose bundle is complete (as many notes routed as the target, or the order final) with no pick pending, an empty exit watch
and a stacker that is not empty, while the lane's drawer is STOWED and not forced, outside hold (log 48); DELIVERY_START otherwise changes nothing, as
DELIVERY_END and DELIVERY_OVERRUN with no delivery running (the model's choices: log 20). The start of a delivery; and its end, which presents the stacker's notes and ends the tenure; the
transport's grant evaluation follows, and then the take cycle starts, or, where a cancel or lockdown arrived in the delivery, the drawer is left
HOLDING with the result LEFT and requests the retract, granted at once where no request waits and the retract bin has room. In hold, and while the
drawer is forced, a delivery does not end. -/
def Obligations.Deliveries : Prop :=
  (∀ s : State, s.supply = true →
    (∀ n, s.wall.readyDelivery = some n ↔
      ∃ k ty, s.wall.transport.join = .dispense n ∧ s.wall.contextOf n = some k ∧ s.wall.tallyOf n = some ty ∧ s.wall.transport.state = .granted
        ∧ k.phase = .building ∧ (s.wall.engine.routedInBundle = k.target ∨ k.final = true)
        ∧ s.wall.gate.openPicks = [] ∧ (∀ y ∈ s.wall.gate.passages, y.fromPick = false) ∧ s.wall.transport.watch = []
        ∧ 0 < s.wall.transport.stackerCount ∧ k.endCause = .none ∧ ty.faulted = false ∧ ty.remixWait = false
        ∧ (s.wall.lanes.get n).drawer = .stowed ∧ (s.wall.lanes.get n).forced = false ∧ s.wall.held = false)
    ∧ (s.wall.readyDelivery = none → exec .deliveryStart s = .next s)
    ∧ (∀ n, s.wall.deliveringLane = some n ↔
      s.wall.transport.join = .dispense n ∧ (s.wall.contextOf n).map DispenseContext.phase = some .delivering)
    ∧ (s.wall.deliveringLane = none →
      exec .deliveryEnd s = .next s.evaluated ∧ ∀ item, exec (.deliveryOverrun item) s = .next s.evaluated))
  ∧ ∀ (s : State) (n : LaneId) (x : SlotId), s.supply = true → s.wall.orderOf n .dispense = some x →
    (s.wall.readyDelivery = some n → ∃ t, exec .deliveryStart s = .next t
      ∧ (t.wall.contextOf n).map DispenseContext.phase = some .delivering ∧ t.wall.engine.deliveryMs = 2000
      ∧ t.wall.transport = s.wall.transport ∧ t.wall.lanes = s.wall.lanes ∧ t.wall.cassettes = s.wall.cassettes)
    ∧ (s.wall.deliveringLane = some n → s.wall.held = true ∨ (s.wall.lanes.get n).forced = true → exec .deliveryEnd s = .next s.evaluated)
    ∧ (s.wall.deliveringLane = some n → s.wall.held = false → (s.wall.lanes.get n).forced = false →
      ∀ l, s.wall.engine.loaded = some l → l.lane = n → l.slot = x → ∀ ty, s.wall.tallyOf n = some ty →
      ∃ u, u = s.wall.deliver n
      ∧ (l.context.endCause = .none → exec .deliveryEnd s = .next (State.evaluated { s with wall := u.transportGrant.startTake n }))
      ∧ (l.context.endCause ≠ .none → exec .deliveryEnd s = .next (State.evaluated { s with wall := u.transportGrant.takeHeld n }))
      ∧ u.transport =
        { s.wall.transport with
            state := .idle, join := .none, composition := Counts.zero,
            presentedTotal := raise32 s.wall.transport.presentedTotal s.wall.transport.stackerCount }
      ∧ u.tallyOf n = some { ty with presented := addCounts ty.presented s.wall.transport.composition } ∧ u.engine.loaded = none
      ∧ u.slot (lanePage n) x =
        { s.wall.slot (lanePage n) x with
            context := some { l.context with bundles := l.context.bundles + 1, inDrawer := s.wall.transport.stackerCount, phase := .inDrawer } }
      ∧ u.lanes.get n =
        { s.wall.lanes.get n with
            itemSensor := true,
            bundle := { (s.wall.lanes.get n).bundle with slot := some x, notes := s.wall.transport.stackerCount } }
      ∧ u.gate = { s.wall.gate with acceptEnable := false } ∧ (∀ m, m ≠ n → u.lanes.get m = s.wall.lanes.get m)
      ∧ u.cassettes = s.wall.cassettes ∧ u.bins = s.wall.bins)
    ∧ (s.wall.deliveringLane = some n → s.wall.held = false → (s.wall.lanes.get n).forced = false →
      ∀ l, s.wall.engine.loaded = some l → l.lane = n → l.slot = x → l.context.endCause = .none →
      ∀ ty, s.wall.tallyOf n = some ty → s.wall.transport.queue = [] → s.wall.lockdown = false → ∃ t, t = { s with wall := s.wall.endDelivery n }
      ∧ exec .deliveryEnd s = .next t.evaluated
      ∧ t.wall.transport.state = .idle ∧ t.wall.transport.join = .none ∧ t.wall.transport.composition = Counts.zero
      ∧ t.wall.transport.presentedTotal = raise32 s.wall.transport.presentedTotal s.wall.transport.stackerCount
      ∧ (t.wall.tallyOf n).map Tally.presented = some (addCounts ty.presented s.wall.transport.composition)
      ∧ t.wall.engine.loaded = none
      ∧ (t.wall.slot (lanePage n) x).context = some
        { l.context with
            bundles := l.context.bundles + 1, inDrawer := s.wall.transport.stackerCount, phase := .inDrawer }
      ∧ (t.wall.lanes.get n).drawer = .opening ∧ (t.wall.lanes.get n).travel = .outward ∧ (t.wall.lanes.get n).cycle = .take
      ∧ (t.wall.lanes.get n).itemSensor = true ∧ (t.wall.lanes.get n).bundle.slot = some x
      ∧ (t.wall.lanes.get n).bundle.notes = s.wall.transport.stackerCount ∧ t.wall.gate.acceptEnable = false
      ∧ (∀ m, m ≠ n → t.wall.lanes.get m = s.wall.lanes.get m) ∧ t.wall.cassettes = s.wall.cassettes ∧ t.wall.bins = s.wall.bins)
    ∧ (s.wall.deliveringLane = some n → s.wall.held = false → (s.wall.lanes.get n).forced = false → (s.wall.lanes.get n).owner = some x →
      ∀ l, s.wall.engine.loaded = some l → l.lane = n → l.slot = x → l.context.endCause ≠ .none →
      ∀ ty, s.wall.tallyOf n = some ty → s.wall.transport.queue = [] → (s.wall.bins.get retractBin).full = false →
      ∃ t, t = { s with wall := s.wall.endDelivery n }
      ∧ exec .deliveryEnd s = .next t.evaluated
      ∧ t.wall.transport.state = .granted ∧ t.wall.transport.join = .retract n ∧ t.wall.transport.queue = []
      ∧ t.wall.transport.composition = Counts.zero
      ∧ t.wall.transport.presentedTotal = raise32 s.wall.transport.presentedTotal s.wall.transport.stackerCount
      ∧ t.wall.tallyOf n = some
        { ty with presented := addCounts ty.presented s.wall.transport.composition, bundleLeft := true, remixWait := false }
      ∧ t.wall.engine.loaded = none
      ∧ (t.wall.slot (lanePage n) x).context = some
        { l.context with
            bundles := l.context.bundles + 1, inDrawer := s.wall.transport.stackerCount, phase := .retracting,
            outstanding := Counts.zero }
      ∧ (∀ k, (t.wall.cassettes.get k).reserved = (s.wall.cassettes.get k).reserved - l.context.outstanding.get k)
      ∧ (t.wall.lanes.get n).drawer = .holding ∧ (t.wall.lanes.get n).cycle = .none ∧ (t.wall.lanes.get n).result = .left
      ∧ (t.wall.lanes.get n).owner = some x ∧ (t.wall.lanes.get n).itemSensor = true ∧ (t.wall.lanes.get n).bundle.slot = some x
      ∧ (t.wall.lanes.get n).bundle.notes = s.wall.transport.stackerCount ∧ (t.wall.lanes.get n).bundle.phase = .sweeping
      ∧ (t.wall.lanes.get n).bundle.dest = .retractBin ∧ t.wall.gate.acceptEnable = false
      ∧ (∀ m, m ≠ n → t.wall.lanes.get m = s.wall.lanes.get m) ∧ t.wall.bins = s.wall.bins)

/-- R94, R97, R98, R99, R100, R105: a purge starts exactly where the transport is GRANTED to a DISPENSE that is building and whose end has begun, with
no pick pending, an empty exit watch and a stacker that is not empty, outside hold (with an empty stacker the tenure ends without one:
Obligations.ExitEdges); a clearance's belt stops exactly where its pulses have run and the exit watch is empty, before its dump has begun and outside
hold; otherwise PURGE_START and CLEARANCE_BELT_END change nothing (the model's choice: log 20). The start of a purge; its end, which puts the stacker's notes into the reject bin and finishes the order with its
tally, the purged notes raised by the stacker count and what is outstanding released; the end of a fault's dump, at which the order that held the
path finishes TRANSPORT FAULT with its tally and release of the same form and with the second and the duress mark of that moment (the model's
reading: log 61); the end of a clearance's belt, and of its dump, which posts CLEARANCE PIECES where pieces were seen or unaccounted, makes the
transport IDLE and finishes its PATH RESET. After a purge and a clearance the transport's grant evaluation follows, whatever waits. In hold a dump
does not end; a PURGE_END with no dump running changes nothing (the model's choice: log 20). -/
def Obligations.PurgesAndClearances : Prop :=
  ∀ (s : State), s.supply = true →
    (∀ n, s.wall.readyPurge = some n ↔
      ∃ k, s.wall.transport.join = .dispense n ∧ s.wall.contextOf n = some k ∧ s.wall.transport.state = .granted ∧ k.phase = .building
        ∧ k.endCause ≠ .none ∧ s.wall.gate.openPicks = [] ∧ (∀ y ∈ s.wall.gate.passages, y.fromPick = false) ∧ s.wall.transport.watch = []
        ∧ 0 < s.wall.transport.stackerCount ∧ s.wall.held = false)
    ∧ (s.wall.readyPurge = none → exec .purgeStart s = .next s)
    ∧ (s.wall.beltCleared = true ↔ s.wall.transport.state = .clearing ∧ s.wall.transport.dump = none ∧ s.wall.transport.clearPulses = 0
      ∧ s.wall.transport.watch = [] ∧ s.wall.held = false)
    ∧ (s.wall.beltCleared = false → exec .clearanceBeltEnd s = .next s)
    ∧ (∀ n x, s.wall.readyPurge = some n → s.wall.orderOf n .dispense = some x → ∃ t, exec .purgeStart s = .next t
      ∧ t.wall.transport = { s.wall.transport with state := .purging, dump := some { purpose := .tenure, leftMs := 1500 } }
      ∧ (t.wall.contextOf n).map DispenseContext.phase = some .purging ∧ t.wall.lanes = s.wall.lanes ∧ t.wall.bins = s.wall.bins)
    ∧ (∀ n x, s.wall.transport.dump.map Dump.purpose = some .tenure → s.wall.held = false →
      s.wall.transport.join = .dispense n → s.wall.orderOf n .dispense = some x → ∀ l, s.wall.engine.loaded = some l → l.lane = n →
      l.slot = x → ∀ ty, s.wall.tallyOf n = some ty →
      ∃ u, u = (s.wall.purgeNotes n).endEmpty n
      ∧ exec .purgeEnd s = .next (State.evaluated { s with wall := u.transportGrant })
      ∧ (u.bins.get rejectBin).count = min 65535 ((s.wall.bins.get rejectBin).count + s.wall.transport.stackerCount)
      ∧ (∀ j, j ≠ rejectBin → u.bins.get j = s.wall.bins.get j)
      ∧ u.transport.composition = Counts.zero ∧ u.transport.state = .idle ∧ u.transport.join = .none
      ∧ u.transport.dump = none ∧ u.transport.queue = s.wall.transport.queue
      ∧ s.wall.finishedWith u (lanePage n) x (dispenseOutcome false l.context ty)
        (tallyWords l.context { ty with purged := ty.purged + s.wall.transport.stackerCount } (s.wall.valueOf ty.presented) s.wall.duressAlarm)
      ∧ (∀ k, (u.cassettes.get k).reserved = (s.wall.cassettes.get k).reserved - l.context.outstanding.get k)
      ∧ (u.lanes.get n).owner ≠ some x ∧ u.engine.loaded = none ∧ u.gate = { s.wall.gate with acceptEnable := false }
      ∧ u.tallyOf n = none ∧ ∀ m, m ≠ n → u.lanes.get m = s.wall.lanes.get m)
    ∧ (∀ n x c ty, s.wall.transport.dump.map Dump.purpose = some (.fault (some n)) → s.wall.held = false →
      s.wall.orderOf n .dispense = some x → s.wall.contextOf n = some c → s.wall.tallyOf n = some ty → ty.faulted = true →
      s.wall.engine.loaded.map Loaded.lane ≠ some n → ∃ t, t = { s with wall := s.wall.whenSome s.wall.runningDump Wall.endDump }
      ∧ exec .purgeEnd s = .next t.evaluated
      ∧ (t.wall.bins.get rejectBin).count = min 65535 ((s.wall.bins.get rejectBin).count + s.wall.transport.stackerCount)
      ∧ t.wall.transport = { s.wall.transport with composition := Counts.zero, dump := none }
      ∧ (t.wall.slot (lanePage n) x).state = .finished
      ∧ (t.wall.slot (lanePage n) x).result =
        resultWords .transportFault (s.wall.slot (lanePage n) x).tooLate s.wall.port.seconds
          (tallyWords c { ty with purged := ty.purged + s.wall.transport.stackerCount } (s.wall.valueOf ty.presented) s.wall.duressAlarm)
      ∧ (∀ k, (t.wall.cassettes.get k).reserved = (s.wall.cassettes.get k).reserved - c.outstanding.get k)
      ∧ (t.wall.lanes.get n).owner ≠ some x ∧ t.wall.tallyOf n = none ∧ ∀ m, m ≠ n → t.wall.lanes.get m = s.wall.lanes.get m)
    ∧ (s.wall.transport.dump.map Dump.purpose = some (.fault none) → s.wall.held = false →
      ∃ t, t = { s with wall := s.wall.whenSome s.wall.runningDump Wall.endDump }
      ∧ exec .purgeEnd s = .next t.evaluated
      ∧ (t.wall.bins.get rejectBin).count = min 65535 ((s.wall.bins.get rejectBin).count + s.wall.transport.stackerCount)
      ∧ t.wall.transport = { s.wall.transport with composition := Counts.zero, dump := none } ∧ t.wall.pages = s.wall.pages
      ∧ t.wall.lanes = s.wall.lanes)
    ∧ (s.wall.transport.dump.map Dump.purpose = some .clearance → s.wall.held = false →
      ∃ u, u = s.wall.dumpStacker.endClearance s.wall.transport.stackerCount
      ∧ exec .purgeEnd s = .next (State.evaluated { s with wall := u.transportGrant })
      ∧ u.transport.queue = s.wall.transport.queue
      ∧ (u.bins.get rejectBin).count = min 65535 ((s.wall.bins.get rejectBin).count + s.wall.transport.stackerCount)
      ∧ u.transport.state = .idle ∧ u.transport.join = .none ∧ u.transport.composition = Counts.zero
      ∧ u.transport.unaccounted = 0 ∧ (u.points.get 12).live = false ∧ u.port = { s.wall.port with transportReady := true }
      ∧ (∀ w, w = s.wall.creditBin rejectBin s.wall.transport.stackerCount →
        (0 < s.wall.transport.seen ∨ 0 < s.wall.transport.unaccounted →
          ∀ e, e = w.post (.clearancePieces rejectBin) (min 255 s.wall.transport.seen * 256 + min 255 s.wall.transport.unaccounted) →
            u.board = e.board ∧ u.lost = e.lost)
        ∧ (s.wall.transport.seen = 0 → s.wall.transport.unaccounted = 0 → u.board = w.board ∧ u.lost = w.lost))
      ∧ u.lanes = s.wall.lanes ∧ (s.wall.pathReset 0 = none → u.pages = s.wall.pages)
      ∧ ∀ x, s.wall.pathReset 0 = some x → (u.slot servicePage x).state = .finished
        ∧ (u.slot servicePage x).result = resultWords .done (s.wall.slot servicePage x).tooLate s.wall.port.seconds
            [word s.wall.transport.seen, word s.wall.transport.unaccounted, word s.wall.transport.stackerCount])
    ∧ (s.wall.held = true ∨ s.wall.transport.dump = none → exec .purgeEnd s = .next s.evaluated)
    ∧ (s.wall.beltCleared = true → exec .clearanceBeltEnd s = .next
      { s with wall := s.wall.modTransport fun t => { t with dump := some { purpose := .clearance, leftMs := 1500 } } })

/-- R110, R111, R112, R115, R96, R114, R25, R105: a sweep ends where an edge of the encoder has found the tray clear with the quiet distance run,
and stalls where one has found an item (Obligations.EncoderEdges; log 72); a draining retract ends where the exit watch is empty, neither in hold
nor while its drawer is forced; else the three commands change nothing (log 22). The sweep ends with the drawer STOWED, or stalls with it JAMMED
and ownerless, which ends the orders that wait for it, and the retract drains; at its end a RETRACT order finishes with the pieces counted, all of
them foreign: RETRACTED now, or DRAWER JAMMED as decided at the stall, whose second it reports. A DISPENSE counts at most its bundle's notes as
retracted and the other pieces as foreign, the rest of the bundle as taken, or after a stall as unresolved, and finishes by its tally's table; the
duress mark, like the second, is the stall's (log 29), and without a stall the retract's end's, also where the order's end began earlier (the
model's reading: log 61). Foreign pieces are posted. The transport's grant evaluation follows, whatever waits. -/
def Obligations.Sweeps : Prop :=
  ∀ (s : State) (n : LaneId), s.supply = true →
    (s.wall.readySweepEnd = some n ↔ s.wall.transport.join = .retract n ∧ s.wall.transport.state = .granted
      ∧ (s.wall.lanes.get n).bundle.phase = .sweeping ∧ s.wall.transport.sweepFound = .clear)
    ∧ (s.wall.readyStall = some n ↔ s.wall.transport.join = .retract n ∧ s.wall.transport.state = .granted
      ∧ (s.wall.lanes.get n).bundle.phase = .sweeping ∧ s.wall.transport.sweepFound = .lodged)
    ∧ (s.wall.readyRetractEnd = some n ↔ s.wall.transport.join = .retract n ∧ s.wall.transport.state = .granted
      ∧ (s.wall.lanes.get n).bundle.phase = .draining ∧ s.wall.transport.watch = [] ∧ s.wall.held = false ∧ (s.wall.lanes.get n).forced = false)
    ∧ (s.wall.readySweepEnd = none → exec .sweepEnd s = .next s)
    ∧ (s.wall.readyStall = none → exec .sweepStall s = .next s.evaluated)
    ∧ (s.wall.readyRetractEnd = none → exec .retractEnd s = .next s.evaluated)
    ∧ (s.wall.readySweepEnd = some n → exec .sweepEnd s = .next
      { s with wall := s.wall.modLane n fun l => { l with drawer := .stowed, bundle := { l.bundle with phase := .draining } } })
    ∧ (s.wall.readyStall = some n → ∃ t, t = { s with wall := s.wall.stallSweep n }
      ∧ exec .sweepStall s = .next t.evaluated
      ∧ (t.wall.lanes.get n).drawer = .jammed ∧ (t.wall.lanes.get n).owner = none ∧ (t.wall.lanes.get n).cycle = .none
      ∧ (t.wall.lanes.get n).bundle = { (s.wall.lanes.get n).bundle with phase := .draining, stalled := some s.wall.decision }
      ∧ (∀ e, e = s.wall.post (.drawerJammed n) 5 → t.wall.board = e.board ∧ t.wall.lost = e.lost)
      ∧ t.wall.transport = s.wall.transport ∧ (∀ m, m ≠ n → t.wall.lanes.get m = s.wall.lanes.get m)
      ∧ ((s.wall.lanes.get n).waiting = [] → s.wall.pathReset (2 + n.val) = none → t.wall.pages = s.wall.pages)
      ∧ ∀ y ∈ (s.wall.lanes.get n).waiting, (s.wall.lanes.get n).waiting.Nodup →
        s.wall.kindAt (lanePage n) y = some .deposit ∨ s.wall.kindAt (lanePage n) y = some .returnEnvelope →
        (t.wall.slot (lanePage n) y).state = .finished ∧ y ∉ (t.wall.lanes.get n).waiting
        ∧ (t.wall.slot (lanePage n) y).result.take 4 =
          resultWords .drawerJammed (s.wall.slot (lanePage n) y).tooLate s.wall.port.seconds [])
    ∧ (∀ x, s.wall.readyRetractEnd = some n → s.wall.orderOf n .dispense = none → s.wall.orderOf n .retract = some x →
      s.wall.engine.loaded = none →
      ∃ u, u = s.wall.closeRetract n
      ∧ exec .retractEnd s = .next (State.evaluated { s with wall := u.transportGrant })
      ∧ u.transport = { s.wall.transport with state := .idle, join := .none }
      ∧ (u.slot (lanePage n) x).state = .finished
      ∧ (u.slot (lanePage n) x).result =
        resultWords (if (s.wall.lanes.get n).bundle.stalled.isSome then .drawerJammed else .retracted) (s.wall.slot (lanePage n) x).tooLate
          (((s.wall.lanes.get n).bundle.stalled.map Decision.seconds).getD s.wall.port.seconds)
          [word (s.wall.lanes.get n).bundle.pieces, word (s.wall.lanes.get n).bundle.pieces, word (s.wall.lanes.get n).bundle.dest.code,
            word (s.wall.lanes.get n).bundle.toRetract, word (s.wall.lanes.get n).bundle.toReject]
      ∧ ((s.wall.lanes.get n).bundle.pieces = 0 → u.board = s.wall.board ∧ u.lost = s.wall.lost)
      ∧ (0 < (s.wall.lanes.get n).bundle.pieces → ∀ e, e = s.wall.post (.foreignPieces n) (s.wall.lanes.get n).bundle.pieces →
        u.board = e.board ∧ u.lost = e.lost)
      ∧ (u.lanes.get n).bundle.phase = .none ∧ ∀ m, m ≠ n → u.lanes.get m = s.wall.lanes.get m)
    ∧ (∀ x c ty, s.wall.readyRetractEnd = some n → s.wall.orderOf n .dispense = some x → (s.wall.slot (lanePage n) x).context = some c →
      s.wall.tallyOf n = some ty → ty.bundleLeft = true → s.wall.engine.loaded = none →
      ∀ back, back = min (s.wall.lanes.get n).bundle.pieces c.inDrawer → ∀ stall, stall = (s.wall.lanes.get n).bundle.stalled →
      ∃ u, u = s.wall.closeRetract n
      ∧ exec .retractEnd s = .next (State.evaluated { s with wall := u.transportGrant })
      ∧ u.transport = { s.wall.transport with state := .idle, join := .none }
      ∧ (u.slot (lanePage n) x).state = .finished
      ∧ (u.slot (lanePage n) x).result =
        resultWords
          (if ty.faulted then .transportFault else if stall.isSome then .drawerJammed else if c.endCause = .rejectLimit then .rejectLimit
          else if c.endCause = .lockdown then .lockdown else if c.endCause = .cancel then .cancelled else if c.final then .partialEnd
          else .retracted)
          (s.wall.slot (lanePage n) x).tooLate ((stall.map Decision.seconds).getD s.wall.port.seconds)
          (tallyWords c
            { ty with
                retracted := ty.retracted + back, foreign := ty.foreign + ((s.wall.lanes.get n).bundle.pieces - back),
                taken := if stall.isSome then ty.taken else ty.taken + (c.inDrawer - back),
                unresolved := if stall.isSome then ty.unresolved + (c.inDrawer - back) else ty.unresolved }
            (s.wall.valueOf ty.presented) ((stall.map Decision.duress).getD s.wall.duressAlarm))
      ∧ ((s.wall.lanes.get n).bundle.pieces = back → u.board = s.wall.board ∧ u.lost = s.wall.lost)
      ∧ (back < (s.wall.lanes.get n).bundle.pieces →
        ∀ e, e = s.wall.post (.foreignPieces n) ((s.wall.lanes.get n).bundle.pieces - back) → u.board = e.board ∧ u.lost = e.lost)
      ∧ (u.lanes.get n).bundle =
        { (s.wall.lanes.get n).bundle with
            slot := none, phase := .none, retracted := back, foreign := (s.wall.lanes.get n).bundle.pieces - back }
      ∧ (∀ k, (u.cassettes.get k).reserved = (s.wall.cassettes.get k).reserved - c.outstanding.get k)
      ∧ (u.lanes.get n).owner ≠ some x ∧ u.tallyOf n = none ∧ u.bins = s.wall.bins
      ∧ ∀ m, m ≠ n → u.lanes.get m = s.wall.lanes.get m)

/-! ### The conveyor (chapter 7) -/

/-- R130, R131, R132, R133, R135, R136, R123, R144, R154: the lane at the head of the capture queue is served exactly while the conveyor is IDLE, the
wall is not in hold and the deposit bin's count is below its capacity: no envelope is served into a full bin. An overrun meets the lane that the
conveyor carries from, outside hold, and a clearance ends outside hold; with nothing to serve, to overrun or to end the commands change nothing (the
model's choice: log 20). Serving starts a carry; the exit sensor delivers the carried envelope, whose CAPTURE ends CAPTURED,
whose RETURN ends CAPTURED ABANDONED, and which unattended posts UNATTENDED CAPTURE; it counts one that a clearance brings out, and faults the idle
conveyor; an overrun loses the envelope, and its order, if it has one, ends CONVEYOR JAMMED. Either fault posts CONVEYOR FAULT, and each unattended
lane of the queue then leaves it, its pocket HELD and stranded, with ESCROW STRANDED, detail 2; the others stay queued. A clearance ends IDLE: it
posts CLEARANCE PIECES where it saw envelopes, finishes its PATH RESET with the number seen, and where it began from FAULTED loads the timer of each
stranded HELD pocket again. Either fault makes point 13 ACTIVE, whose zone, of any mode and in any state, then acts as on any change, before the fault
posts its own news (the model's choice: log 74); where that takes the wall into lockdown, the lanes and their orders are as lockdown leaves them
(AlarmLocksTheWall). That the carry budget reads 0 after a delivery and after an overrun is the model's choice (log 63). -/
def Obligations.ConveyorEvents : Prop :=
  ∀ (s : State), s.supply = true →
    (∀ n, s.wall.readyServe = some n ↔ s.wall.conveyor.state = .idle ∧ s.wall.held = false
      ∧ (s.wall.bins.get depositBin).count < (s.wall.bins.get depositBin).capacity ∧ ∃ rest, s.wall.conveyor.queue = n :: rest)
    ∧ (s.wall.readyServe = none → exec .servingEvaluation s = .next s)
    ∧ ((s.wall.bins.get depositBin).capacity ≤ (s.wall.bins.get depositBin).count → exec .servingEvaluation s = .next s)
    ∧ (∀ n, s.wall.carryingLane = some n ↔ s.wall.conveyor.state = .carrying ∧ s.wall.held = false ∧ s.wall.conveyor.carried = some n)
    ∧ (s.wall.carryingLane = none → exec .carryOverrun s = .next s.evaluated)
    ∧ (s.wall.conveyorClears = true ↔ s.wall.conveyor.state = .clearing ∧ s.wall.held = false)
    ∧ (s.wall.conveyorClears = false → exec .conveyorClearanceEnd s = .next s)
    ∧ (∀ n, s.wall.readyServe = some n → ∃ t, exec .servingEvaluation s = .next t
      ∧ t.wall.conveyor =
        { s.wall.conveyor with
            state := .carrying, carried := some n, carryMs := 8000, queue := s.wall.conveyor.queue.filter fun m => m ≠ n }
      ∧ t.wall.lanes.get n =
        { s.wall.lanes.get n with envelopeSensor := false, pocket := { (s.wall.lanes.get n).pocket with state := .capturing } }
      ∧ (∀ x, (s.wall.lanes.get n).pocket.owner = some x → (s.wall.slot (lanePage n) x).state = .accepted →
          (t.wall.slot (lanePage n) x).state = .running)
      ∧ (∀ m, m ≠ n → t.wall.lanes.get m = s.wall.lanes.get m) ∧ t.wall.bins = s.wall.bins)
    ∧ (∀ n x, s.wall.conveyor.state = .carrying → s.wall.conveyor.carried = some n → (s.wall.lanes.get n).pocket.owner = some x →
      s.wall.kindAt (lanePage n) x = some .capture → ∃ t, t = { s with wall := s.wall.conveyorExit }
      ∧ exec .conveyorExit s = .next t.evaluated
      ∧ (t.wall.bins.get depositBin).count = min 65535 ((s.wall.bins.get depositBin).count + 1)
      ∧ (∀ k, k ≠ depositBin → t.wall.bins.get k = s.wall.bins.get k) ∧ t.wall.depositTotal = raise32 s.wall.depositTotal 1
      ∧ t.wall.conveyor = { s.wall.conveyor with state := .idle, carried := none, carryMs := 0 }
      ∧ (t.wall.lanes.get n).pocket.state = .empty ∧ (t.wall.lanes.get n).pocket.owner = none
      ∧ (t.wall.slot (lanePage n) x).state = .finished
      ∧ (t.wall.slot (lanePage n) x).result = resultWords .captured (s.wall.slot (lanePage n) x).tooLate s.wall.port.seconds
          [word (min 65535 ((s.wall.bins.get depositBin).count + 1)), word (markBit 0 (s.wall.lanes.get n).pocket.unknownOrigin)]
      ∧ ∀ m, m ≠ n → t.wall.lanes.get m = s.wall.lanes.get m)
    ∧ (∀ n x, s.wall.conveyor.state = .carrying → s.wall.conveyor.carried = some n → (s.wall.lanes.get n).pocket.owner = some x →
      s.wall.kindAt (lanePage n) x = some .returnEnvelope → ∃ t, t = { s with wall := s.wall.conveyorExit }
      ∧ exec .conveyorExit s = .next t.evaluated
      ∧ (t.wall.bins.get depositBin).count = min 65535 ((s.wall.bins.get depositBin).count + 1)
      ∧ t.wall.depositTotal = raise32 s.wall.depositTotal 1
      ∧ t.wall.conveyor = { s.wall.conveyor with state := .idle, carried := none, carryMs := 0 }
      ∧ (t.wall.lanes.get n).pocket.state = .empty ∧ (t.wall.lanes.get n).pocket.owner = none
      ∧ (t.wall.slot (lanePage n) x).state = .finished
      ∧ (t.wall.slot (lanePage n) x).result =
        resultWords .capturedAbandoned (s.wall.slot (lanePage n) x).tooLate s.wall.port.seconds
          [word CycleResult.left.code, word (min 65535 ((s.wall.bins.get depositBin).count + 1))]
      ∧ ∀ m, m ≠ n → t.wall.lanes.get m = s.wall.lanes.get m)
    ∧ (∀ n, s.wall.conveyor.state = .carrying → s.wall.conveyor.carried = some n → (s.wall.lanes.get n).pocket.owner = none →
      ∃ t, t = { s with wall := s.wall.conveyorExit }
      ∧ exec .conveyorExit s = .next t.evaluated
      ∧ (t.wall.bins.get depositBin).count = min 65535 ((s.wall.bins.get depositBin).count + 1)
      ∧ t.wall.depositTotal = raise32 s.wall.depositTotal 1
      ∧ t.wall.conveyor = { s.wall.conveyor with state := .idle, carried := none, carryMs := 0 }
      ∧ (t.wall.lanes.get n).pocket.state = .empty ∧ t.wall.pages = s.wall.pages
      ∧ (∀ e, e = (s.wall.creditBin depositBin 1).post (.unattendedCapture n) (markBit 0 (s.wall.lanes.get n).pocket.unknownOrigin) →
        t.wall.board = e.board ∧ t.wall.lost = e.lost)
      ∧ ∀ m, m ≠ n → t.wall.lanes.get m = s.wall.lanes.get m)
    ∧ (s.wall.conveyor.state = .clearing → ∃ t, t = { s with wall := s.wall.conveyorExit }
      ∧ exec .conveyorExit s = .next t.evaluated
      ∧ t.wall.conveyor = { s.wall.conveyor with seen := min 255 (s.wall.conveyor.seen + 1) }
      ∧ (t.wall.bins.get depositBin).count = min 65535 ((s.wall.bins.get depositBin).count + 1) ∧ t.wall.lanes = s.wall.lanes)
    ∧ (s.wall.conveyor.state = .idle → s.wall.conveyor.queue.Nodup → ∃ t, t = { s with wall := s.wall.conveyorExit }
      ∧ exec .conveyorExit s = .next t.evaluated
      ∧ t.wall.conveyor =
        { s.wall.conveyor with
            state := .faulted, queue := s.wall.conveyor.queue.filter fun m => !(s.wall.lanes.get m).pocket.unattended }
      ∧ s.wall.madeActive t.wall 13 ∧ t.wall.bins = s.wall.bins ∧ (s.wall.pointLocks 13 = false → t.wall.pages = s.wall.pages)
      ∧ (s.wall.pointLocks 13 = false ∨ s.wall.transport.queue = [] →
        ∀ e, e = (s.wall.conveyor.queue.filter fun m => (s.wall.lanes.get m).pocket.unattended).foldl
          (fun w m => w.post (.escrowStranded m) 2) ((s.wall.pointNews 13).post .conveyorFault 0) →
          t.wall.board = e.board ∧ t.wall.lost = e.lost)
      ∧ (∀ m, (t.wall.lanes.get m).pocket =
        if m ∈ s.wall.conveyor.queue ∧ (s.wall.lanes.get m).pocket.unattended = true then
          { (s.wall.lanes.get m).pocket with
              state := .held, owner := none, holdMs := 0, timerRunning := false, unattended := false, stranded := true,
              lost := if (s.wall.lanes.get m).pocket.state = .held then (s.wall.lanes.get m).pocket.lost else false }
        else (s.wall.lanes.get m).pocket)
      ∧ (s.wall.pointLocks 13 = false → ∀ m, t.wall.lanes.get m = { s.wall.lanes.get m with pocket := (t.wall.lanes.get m).pocket }))
    ∧ (∀ n, s.wall.carryingLane = some n → s.wall.conveyor.queue.Nodup → n ∉ s.wall.conveyor.queue → ∃ t, t = { s with wall := s.wall.overrunCarry n }
      ∧ exec .carryOverrun s = .next t.evaluated
      ∧ t.wall.conveyor =
        { s.wall.conveyor with
            state := .faulted, carried := none, carryMs := 0,
            queue := s.wall.conveyor.queue.filter fun m => !(s.wall.lanes.get m).pocket.unattended }
      ∧ (t.wall.lanes.get n).pocket.state = .empty ∧ (t.wall.lanes.get n).pocket.owner = none ∧ (t.wall.lanes.get n).pocket.lost = true
      ∧ s.wall.madeActive t.wall 13 ∧ t.wall.bins = s.wall.bins
      ∧ (s.wall.pointLocks 13 = false ∨ s.wall.transport.queue = [] →
        ∀ e, e = (s.wall.conveyor.queue.filter fun m => (s.wall.lanes.get m).pocket.unattended).foldl
          (fun w m => w.post (.escrowStranded m) 2) ((s.wall.pointNews 13).post .conveyorFault (1 + n.val)) →
          t.wall.board = e.board ∧ t.wall.lost = e.lost)
      ∧ ((s.wall.lanes.get n).pocket.owner = none → s.wall.pointLocks 13 = false → t.wall.pages = s.wall.pages)
      ∧ (∀ x, (s.wall.lanes.get n).pocket.owner = some x → ∀ k, s.wall.kindAt (lanePage n) x = some k → k = .capture ∨ k = .returnEnvelope →
        (t.wall.slot (lanePage n) x).state = .finished
        ∧ (t.wall.slot (lanePage n) x).result =
          resultWords .conveyorJammed (s.wall.slot (lanePage n) x).tooLate s.wall.port.seconds
            (if k = .capture then
              [word (s.wall.bins.get depositBin).count, word (markBit 0 (s.wall.lanes.get n).pocket.unknownOrigin)]
            else [word CycleResult.left.code, word (s.wall.bins.get depositBin).count]))
      ∧ (∀ m, m ≠ n → (t.wall.lanes.get m).pocket =
        if m ∈ s.wall.conveyor.queue ∧ (s.wall.lanes.get m).pocket.unattended = true then
          { (s.wall.lanes.get m).pocket with
              state := .held, owner := none, holdMs := 0, timerRunning := false, unattended := false, stranded := true,
              lost := if (s.wall.lanes.get m).pocket.state = .held then (s.wall.lanes.get m).pocket.lost else false }
        else (s.wall.lanes.get m).pocket)
      ∧ (s.wall.pointLocks 13 = false →
        ∀ m, m ≠ n → t.wall.lanes.get m = { s.wall.lanes.get m with pocket := (t.wall.lanes.get m).pocket }))
    ∧ (s.wall.conveyorClears = true → ∃ t, t = { s with wall := s.wall.endConveyorClearance }
      ∧ exec .conveyorClearanceEnd s = .next t.evaluated
      ∧ t.wall.conveyor = { s.wall.conveyor with state := .idle, clearMs := 0, clearFromFault := false }
      ∧ t.wall.port = { s.wall.port with conveyorReady := true } ∧ (t.wall.points.get 13).live = false ∧ t.wall.bins = s.wall.bins
      ∧ (0 < s.wall.conveyor.seen → ∀ e, e = s.wall.post (.clearancePieces depositBin) s.wall.conveyor.seen →
        t.wall.board = e.board ∧ t.wall.lost = e.lost)
      ∧ (s.wall.conveyor.seen = 0 → t.wall.board = s.wall.board ∧ t.wall.lost = s.wall.lost)
      ∧ (s.wall.pathReset 1 = none → t.wall.pages = s.wall.pages)
      ∧ (∀ x, s.wall.pathReset 1 = some x → s.wall.finishedWith t.wall servicePage x .done [word s.wall.conveyor.seen])
      ∧ ∀ n, t.wall.lanes.get n =
        if s.wall.conveyor.clearFromFault = true ∧ (s.wall.lanes.get n).pocket.state = .held ∧ (s.wall.lanes.get n).pocket.stranded = true then
          { s.wall.lanes.get n with
              pocket := { (s.wall.lanes.get n).pocket with holdMs := s.wall.holdLimitMs, timerRunning := true, stranded := false } }
        else s.wall.lanes.get n)

/-! ### The alarm (chapter 8) -/

/-- R140, R142, R118: a raw change restarts the stable time; a live change makes the point's record what R142 says and sets the door-opened marks
behind the safe door and the deposit bin door. A SUPERVISORY zone does not act. -/
def Obligations.PointChanges : Prop :=
  ∀ (s : State) (p : Fin 12) (q : PointId), q = p.castLE (by decide) → s.supply = true →
    exec (.rawInputChange p) s = .next { s with wall := s.wall.modPoint q fun x => { x with raw := !x.raw, stableMs := 0 } }
    ∧ ((s.wall.points.get q).candidate = (s.wall.points.get q).live → exec (.liveChange p) s = .next s.evaluated)
    ∧ (s.wall.supervised q → (s.wall.points.get q).candidate ≠ (s.wall.points.get q).live →
      ∃ t, t = { s with wall := s.wall.stableChange p }
      ∧ exec (.liveChange p) s = .next t.evaluated
      ∧ t.wall.points.get q =
        { s.wall.points.get q with
            live := (s.wall.points.get q).candidate, changes := min 255 ((s.wall.points.get q).changes + 1),
            alert := (s.wall.points.get q).alert || (s.wall.points.get q).candidate != (s.wall.points.get q).known,
            restored := (s.wall.points.get q).restored
              || ((s.wall.points.get q).alert && (s.wall.points.get q).candidate == (s.wall.points.get q).known) }
      ∧ (∀ r, r ≠ q → t.wall.points.get r = s.wall.points.get r)
      ∧ (∀ k, (t.wall.bins.get k).door =
          ((s.wall.bins.get k).door || ((s.wall.points.get q).candidate && decide (q = if k = depositBin then 2 else 0))))
      ∧ (∀ k, { t.wall.bins.get k with door := false } = { s.wall.bins.get k with door := false })
      ∧ t = { s with wall := { s.wall with points := t.wall.points, bins := t.wall.bins } })

/-- R146, R147, R148, R149, R150: a point that goes ACTIVE starts the entry delay of an ARMED armable zone that has one, where the point's flag is
1, or puts the zone, or an armed 24-HOUR zone, in ALARM; in ENTRY DELAY a point with flag 0 puts it in ALARM at once and one with flag 1 changes
nothing; in the other states and in a SUPERVISORY zone nothing. The entry delay's expiry gives ALARM, and in another state nothing (the model's
choice: log 20); the siren timer's expiry silences the siren. A zone that enters ALARM posts ZONE ALARM with the point that triggered it, at an
expiry the one that started the delay; without an alarm nothing is posted. With the zone's lockdown flag 0, or lockdown in force, no lane is
touched. -/
def Obligations.ZoneReactions : Prop :=
  ∀ (s : State) (z : ZoneId), s.supply = true →
    (∀ (p : Fin 12) (q : PointId), q = p.castLE (by decide) → (s.wall.points.get q).zone = z → (s.wall.points.get q).live = false →
      (s.wall.points.get q).candidate = true →
      ((s.wall.zones.get z).mode = .armable → (s.wall.zones.get z).state = .armed → (s.wall.points.get q).entryDelay = true →
        0 < (s.wall.zones.get z).entryDelay → ∃ t, t = { s with wall := s.wall.stableChange p }
      ∧ exec (.liveChange p) s = .next t.evaluated
        ∧ t.wall.zones.get z =
          { s.wall.zones.get z with
              state := .entryDelay, entryMs := (s.wall.zones.get z).entryDelay * 1000, trigger := some q }
        ∧ (∀ y, y ≠ z → t.wall.zones.get y = s.wall.zones.get y) ∧ t.wall.lanes = s.wall.lanes ∧ t.wall.board = s.wall.board)
      ∧ (((s.wall.zones.get z).state = .armed
            ∧ (((s.wall.zones.get z).mode = .armable ∧ ((s.wall.points.get q).entryDelay = false ∨ (s.wall.zones.get z).entryDelay = 0))
              ∨ (s.wall.zones.get z).mode = .always))
          ∨ ((s.wall.zones.get z).state = .entryDelay ∧ (s.wall.zones.get z).mode = .armable ∧ (s.wall.points.get q).entryDelay = false) →
        (s.wall.zones.get z).lockdownFlag = false ∨ s.wall.lockdown = true → ∃ t, t = { s with wall := s.wall.stableChange p }
      ∧ exec (.liveChange p) s = .next t.evaluated
        ∧ t.wall.zones.get z =
          { s.wall.zones.get z with
              state := .alarm, trigger := some q, alarms := min 255 ((s.wall.zones.get z).alarms + 1), entryMs := 0,
              sirenMs := if (s.wall.zones.get z).siren = true ∧ 0 < (s.wall.zones.get z).sirenTime then
                some ((s.wall.zones.get z).sirenTime * 1000) else none }
        ∧ (∀ y, y ≠ z → t.wall.zones.get y = s.wall.zones.get y) ∧ t.wall.alarm.silent = t.wall.silentCalled
        ∧ t.wall.alarm.siren = t.wall.sirenCalled ∧ t.wall.alarm.strobe = t.wall.strobeCalled
        ∧ t.wall.alarm.lockdown = s.wall.alarm.lockdown ∧ t.wall.lanes = s.wall.lanes ∧ t.wall.pages = s.wall.pages
        ∧ ∀ e, e = s.wall.post (.zoneAlarm z) q.val → t.wall.board = e.board ∧ t.wall.lost = e.lost)
      ∧ ((s.wall.zones.get z).mode = .supervisory ∨ (s.wall.zones.get z).state = .disarmed ∨ (s.wall.zones.get z).state = .alarm
          ∨ ((s.wall.zones.get z).mode = .armable ∧ (s.wall.zones.get z).state = .entryDelay ∧ (s.wall.points.get q).entryDelay = true) →
        ∃ t, t = { s with wall := s.wall.stableChange p }
      ∧ exec (.liveChange p) s = .next t.evaluated ∧ t.wall.zones = s.wall.zones ∧ t.wall.alarm = s.wall.alarm ∧ t.wall.lanes = s.wall.lanes
        ∧ t.wall.board = s.wall.board))
    ∧ (∀ q, (s.wall.zones.get z).state = .entryDelay → (s.wall.zones.get z).trigger = some q →
      (s.wall.zones.get z).lockdownFlag = false ∨ s.wall.lockdown = true → ∃ t, t = { s with wall := s.wall.entryExpires z }
      ∧ exec (.entryDelayExpiry z) s = .next t.evaluated
      ∧ (t.wall.zones.get z).state = .alarm ∧ (t.wall.zones.get z).trigger = some q ∧ (t.wall.zones.get z).entryMs = 0
      ∧ (t.wall.zones.get z).alarms = min 255 ((s.wall.zones.get z).alarms + 1)
      ∧ (∀ e, e = s.wall.post (.zoneAlarm z) q.val → t.wall.board = e.board ∧ t.wall.lost = e.lost)
      ∧ (∀ y, y ≠ z → t.wall.zones.get y = s.wall.zones.get y) ∧ t.wall.lanes = s.wall.lanes ∧ t.wall.points = s.wall.points)
    ∧ ((s.wall.zones.get z).state ≠ .entryDelay → exec (.entryDelayExpiry z) s = .next s.evaluated)
    ∧ (∃ t, exec (.sirenTimerExpiry z) s = .next t ∧ t.wall.zones.get z = { s.wall.zones.get z with sirenMs := none }
      ∧ (∀ y, y ≠ z → t.wall.zones.get y = s.wall.zones.get y) ∧ t.wall.alarm.siren = t.wall.sirenCalled
      ∧ t.wall.alarm.lockdown = s.wall.alarm.lockdown ∧ t.wall.lanes = s.wall.lanes ∧ t.wall.points = s.wall.points)

/-- R154, R18, R146, R147, R148, R149: a live change or an expired entry delay that puts a zone with its lockdown flag in ALARM puts the wall in
lockdown: the zone and the second are recorded, and no lane stays OPEN. What is left is the entry of lockdown, on the wall whose zone has entered
ALARM and whose outputs follow it: what that does to the drawers and the orders Obligations.LockdownClearAndEntry says. The news are ZONE ALARM
with the point that triggered it and LOCKDOWN ON with the zone (said where no request waits for the transport, for what lockdown does to the orders
that wait may post as well). -/
def Obligations.AlarmLocksTheWall : Prop :=
  ∀ (s : State) (z : ZoneId), s.supply = true → (s.wall.zones.get z).lockdownFlag = true → s.wall.lockdown = false →
    (∀ (p : Fin 12) (q : PointId), q = p.castLE (by decide) → (s.wall.points.get q).zone = z → (s.wall.points.get q).live = false →
      (s.wall.points.get q).candidate = true →
      ((s.wall.zones.get z).state = .armed
          ∧ (((s.wall.zones.get z).mode = .armable ∧ ((s.wall.points.get q).entryDelay = false ∨ (s.wall.zones.get z).entryDelay = 0))
            ∨ (s.wall.zones.get z).mode = .always))
        ∨ ((s.wall.zones.get z).state = .entryDelay ∧ (s.wall.zones.get z).mode = .armable ∧ (s.wall.points.get q).entryDelay = false) →
      ∃ v, v = ((((s.wall.modPoint q fun x => x.change true).markDoors q).modZone z fun x =>
        { x with state := .alarm, trigger := some q, alarms := min 255 (x.alarms + 1), entryMs := 0,
                 sirenMs := if x.siren = true ∧ 0 < x.sirenTime then some (x.sirenTime * 1000) else none }).post
        (.zoneAlarm z) q.val).refreshOutputs
      ∧ v.lockdown = false ∧ v.lanes = s.wall.lanes ∧ v.pages = s.wall.pages ∧ v.engine = s.wall.engine ∧ v.transport = s.wall.transport
      ∧ ∃ t, t = { s with wall := s.wall.stableChange p } ∧ t.wall = v.enterLockdown z
      ∧ exec (.liveChange p) s = .next t.evaluated ∧ (t.wall.zones.get z).state = .alarm ∧ (t.wall.zones.get z).trigger = some q
      ∧ (s.wall.transport.queue = [] → ∀ e, e = (s.wall.post (.zoneAlarm z) q.val).post .lockdownOn z.val →
        t.wall.board = e.board ∧ t.wall.lost = e.lost)
      ∧ t.wall.alarm.lockdown = true ∧ t.wall.alarm.lockdownZone = some z ∧ t.wall.alarm.lockdownStart = s.wall.port.seconds
      ∧ ∀ n, (t.wall.lanes.get n).state ≠ .opened)
    ∧ ((s.wall.zones.get z).state = .entryDelay → (s.wall.zones.get z).mode ≠ .supervisory →
      ∃ v, v = ((s.wall.modZone z fun x =>
        { x with state := .alarm, trigger := some (x.trigger.getD 0), alarms := min 255 (x.alarms + 1), entryMs := 0,
                 sirenMs := if x.siren = true ∧ 0 < x.sirenTime then some (x.sirenTime * 1000) else none }).post
        (.zoneAlarm z) ((s.wall.zones.get z).trigger.getD 0).val).refreshOutputs
      ∧ v.lockdown = false ∧ v.lanes = s.wall.lanes ∧ v.pages = s.wall.pages ∧ v.engine = s.wall.engine ∧ v.transport = s.wall.transport
      ∧ ∃ t, t = { s with wall := s.wall.entryExpires z } ∧ t.wall = v.enterLockdown z
      ∧ exec (.entryDelayExpiry z) s = .next t.evaluated ∧ (t.wall.zones.get z).state = .alarm
      ∧ (∀ q, (s.wall.zones.get z).trigger = some q → (t.wall.zones.get z).trigger = some q
        ∧ (s.wall.transport.queue = [] → ∀ e, e = (s.wall.post (.zoneAlarm z) q.val).post .lockdownOn z.val →
          t.wall.board = e.board ∧ t.wall.lost = e.lost))
      ∧ t.wall.alarm.lockdown = true ∧ t.wall.alarm.lockdownZone = some z ∧ t.wall.alarm.lockdownStart = s.wall.port.seconds
      ∧ ∀ n, (t.wall.lanes.get n).state ≠ .opened)
end

