-- ==== Sys2Proof/Laws/State.lean ====
section
/-! SUPPORT. One lemma per field of the wall for each operation that changes one record: the changed field's new value, and that every other field is as it
was. All are true by unfolding, so that no proof unfolds a record update. -/

namespace Sys2Proof.Machine

/-! ### `Wall.modLane` -/

@[simp] theorem Wall.modLane_pages (n : LaneId) (f : Lane → Lane) (w : Wall) : (w.modLane n f).pages = w.pages := rfl
@[simp] theorem Wall.modLane_flags (n : LaneId) (f : Lane → Lane) (w : Wall) : (w.modLane n f).flags = w.flags := rfl
@[simp] theorem Wall.modLane_lanes (n : LaneId) (f : Lane → Lane) (w : Wall) : (w.modLane n f).lanes = tabMod w.lanes n f := rfl
@[simp] theorem Wall.modLane_cassettes (n : LaneId) (f : Lane → Lane) (w : Wall) : (w.modLane n f).cassettes = w.cassettes := rfl
@[simp] theorem Wall.modLane_gate (n : LaneId) (f : Lane → Lane) (w : Wall) : (w.modLane n f).gate = w.gate := rfl
@[simp] theorem Wall.modLane_transport (n : LaneId) (f : Lane → Lane) (w : Wall) : (w.modLane n f).transport = w.transport := rfl
@[simp] theorem Wall.modLane_engine (n : LaneId) (f : Lane → Lane) (w : Wall) : (w.modLane n f).engine = w.engine := rfl
@[simp] theorem Wall.modLane_conveyor (n : LaneId) (f : Lane → Lane) (w : Wall) : (w.modLane n f).conveyor = w.conveyor := rfl
@[simp] theorem Wall.modLane_bins (n : LaneId) (f : Lane → Lane) (w : Wall) : (w.modLane n f).bins = w.bins := rfl
@[simp] theorem Wall.modLane_depositTotal (n : LaneId) (f : Lane → Lane) (w : Wall) : (w.modLane n f).depositTotal = w.depositTotal := rfl
@[simp] theorem Wall.modLane_points (n : LaneId) (f : Lane → Lane) (w : Wall) : (w.modLane n f).points = w.points := rfl
@[simp] theorem Wall.modLane_zones (n : LaneId) (f : Lane → Lane) (w : Wall) : (w.modLane n f).zones = w.zones := rfl
@[simp] theorem Wall.modLane_alarm (n : LaneId) (f : Lane → Lane) (w : Wall) : (w.modLane n f).alarm = w.alarm := rfl
@[simp] theorem Wall.modLane_board (n : LaneId) (f : Lane → Lane) (w : Wall) : (w.modLane n f).board = w.board := rfl
@[simp] theorem Wall.modLane_lost (n : LaneId) (f : Lane → Lane) (w : Wall) : (w.modLane n f).lost = w.lost := rfl
@[simp] theorem Wall.modLane_port (n : LaneId) (f : Lane → Lane) (w : Wall) : (w.modLane n f).port = w.port := rfl
@[simp] theorem Wall.modLane_profile (n : LaneId) (f : Lane → Lane) (w : Wall) : (w.modLane n f).profile = w.profile := rfl

/-! ### `Wall.modPocket` -/

@[simp] theorem Wall.modPocket_pages (n : LaneId) (f : Pocket → Pocket) (w : Wall) : (w.modPocket n f).pages = w.pages := rfl
@[simp] theorem Wall.modPocket_flags (n : LaneId) (f : Pocket → Pocket) (w : Wall) : (w.modPocket n f).flags = w.flags := rfl
@[simp] theorem Wall.modPocket_lanes (n : LaneId) (f : Pocket → Pocket) (w : Wall) : (w.modPocket n f).lanes = tabMod w.lanes n fun l => { l with pocket := f l.pocket } := rfl
@[simp] theorem Wall.modPocket_cassettes (n : LaneId) (f : Pocket → Pocket) (w : Wall) : (w.modPocket n f).cassettes = w.cassettes := rfl
@[simp] theorem Wall.modPocket_gate (n : LaneId) (f : Pocket → Pocket) (w : Wall) : (w.modPocket n f).gate = w.gate := rfl
@[simp] theorem Wall.modPocket_transport (n : LaneId) (f : Pocket → Pocket) (w : Wall) : (w.modPocket n f).transport = w.transport := rfl
@[simp] theorem Wall.modPocket_engine (n : LaneId) (f : Pocket → Pocket) (w : Wall) : (w.modPocket n f).engine = w.engine := rfl
@[simp] theorem Wall.modPocket_conveyor (n : LaneId) (f : Pocket → Pocket) (w : Wall) : (w.modPocket n f).conveyor = w.conveyor := rfl
@[simp] theorem Wall.modPocket_bins (n : LaneId) (f : Pocket → Pocket) (w : Wall) : (w.modPocket n f).bins = w.bins := rfl
@[simp] theorem Wall.modPocket_depositTotal (n : LaneId) (f : Pocket → Pocket) (w : Wall) : (w.modPocket n f).depositTotal = w.depositTotal := rfl
@[simp] theorem Wall.modPocket_points (n : LaneId) (f : Pocket → Pocket) (w : Wall) : (w.modPocket n f).points = w.points := rfl
@[simp] theorem Wall.modPocket_zones (n : LaneId) (f : Pocket → Pocket) (w : Wall) : (w.modPocket n f).zones = w.zones := rfl
@[simp] theorem Wall.modPocket_alarm (n : LaneId) (f : Pocket → Pocket) (w : Wall) : (w.modPocket n f).alarm = w.alarm := rfl
@[simp] theorem Wall.modPocket_board (n : LaneId) (f : Pocket → Pocket) (w : Wall) : (w.modPocket n f).board = w.board := rfl
@[simp] theorem Wall.modPocket_lost (n : LaneId) (f : Pocket → Pocket) (w : Wall) : (w.modPocket n f).lost = w.lost := rfl
@[simp] theorem Wall.modPocket_port (n : LaneId) (f : Pocket → Pocket) (w : Wall) : (w.modPocket n f).port = w.port := rfl
@[simp] theorem Wall.modPocket_profile (n : LaneId) (f : Pocket → Pocket) (w : Wall) : (w.modPocket n f).profile = w.profile := rfl

/-! ### `Wall.modBundle` -/

@[simp] theorem Wall.modBundle_pages (n : LaneId) (f : BundleRecord → BundleRecord) (w : Wall) : (w.modBundle n f).pages = w.pages := rfl
@[simp] theorem Wall.modBundle_flags (n : LaneId) (f : BundleRecord → BundleRecord) (w : Wall) : (w.modBundle n f).flags = w.flags := rfl
@[simp] theorem Wall.modBundle_lanes (n : LaneId) (f : BundleRecord → BundleRecord) (w : Wall) : (w.modBundle n f).lanes = tabMod w.lanes n fun l => { l with bundle := f l.bundle } := rfl
@[simp] theorem Wall.modBundle_cassettes (n : LaneId) (f : BundleRecord → BundleRecord) (w : Wall) : (w.modBundle n f).cassettes = w.cassettes := rfl
@[simp] theorem Wall.modBundle_gate (n : LaneId) (f : BundleRecord → BundleRecord) (w : Wall) : (w.modBundle n f).gate = w.gate := rfl
@[simp] theorem Wall.modBundle_transport (n : LaneId) (f : BundleRecord → BundleRecord) (w : Wall) : (w.modBundle n f).transport = w.transport := rfl
@[simp] theorem Wall.modBundle_engine (n : LaneId) (f : BundleRecord → BundleRecord) (w : Wall) : (w.modBundle n f).engine = w.engine := rfl
@[simp] theorem Wall.modBundle_conveyor (n : LaneId) (f : BundleRecord → BundleRecord) (w : Wall) : (w.modBundle n f).conveyor = w.conveyor := rfl
@[simp] theorem Wall.modBundle_bins (n : LaneId) (f : BundleRecord → BundleRecord) (w : Wall) : (w.modBundle n f).bins = w.bins := rfl
@[simp] theorem Wall.modBundle_depositTotal (n : LaneId) (f : BundleRecord → BundleRecord) (w : Wall) : (w.modBundle n f).depositTotal = w.depositTotal := rfl
@[simp] theorem Wall.modBundle_points (n : LaneId) (f : BundleRecord → BundleRecord) (w : Wall) : (w.modBundle n f).points = w.points := rfl
@[simp] theorem Wall.modBundle_zones (n : LaneId) (f : BundleRecord → BundleRecord) (w : Wall) : (w.modBundle n f).zones = w.zones := rfl
@[simp] theorem Wall.modBundle_alarm (n : LaneId) (f : BundleRecord → BundleRecord) (w : Wall) : (w.modBundle n f).alarm = w.alarm := rfl
@[simp] theorem Wall.modBundle_board (n : LaneId) (f : BundleRecord → BundleRecord) (w : Wall) : (w.modBundle n f).board = w.board := rfl
@[simp] theorem Wall.modBundle_lost (n : LaneId) (f : BundleRecord → BundleRecord) (w : Wall) : (w.modBundle n f).lost = w.lost := rfl
@[simp] theorem Wall.modBundle_port (n : LaneId) (f : BundleRecord → BundleRecord) (w : Wall) : (w.modBundle n f).port = w.port := rfl
@[simp] theorem Wall.modBundle_profile (n : LaneId) (f : BundleRecord → BundleRecord) (w : Wall) : (w.modBundle n f).profile = w.profile := rfl

/-! ### `Wall.modCassette` -/

@[simp] theorem Wall.modCassette_pages (c : CassId) (f : Cassette → Cassette) (w : Wall) : (w.modCassette c f).pages = w.pages := rfl
@[simp] theorem Wall.modCassette_flags (c : CassId) (f : Cassette → Cassette) (w : Wall) : (w.modCassette c f).flags = w.flags := rfl
@[simp] theorem Wall.modCassette_lanes (c : CassId) (f : Cassette → Cassette) (w : Wall) : (w.modCassette c f).lanes = w.lanes := rfl
@[simp] theorem Wall.modCassette_cassettes (c : CassId) (f : Cassette → Cassette) (w : Wall) : (w.modCassette c f).cassettes = tabMod w.cassettes c f := rfl
@[simp] theorem Wall.modCassette_gate (c : CassId) (f : Cassette → Cassette) (w : Wall) : (w.modCassette c f).gate = w.gate := rfl
@[simp] theorem Wall.modCassette_transport (c : CassId) (f : Cassette → Cassette) (w : Wall) : (w.modCassette c f).transport = w.transport := rfl
@[simp] theorem Wall.modCassette_engine (c : CassId) (f : Cassette → Cassette) (w : Wall) : (w.modCassette c f).engine = w.engine := rfl
@[simp] theorem Wall.modCassette_conveyor (c : CassId) (f : Cassette → Cassette) (w : Wall) : (w.modCassette c f).conveyor = w.conveyor := rfl
@[simp] theorem Wall.modCassette_bins (c : CassId) (f : Cassette → Cassette) (w : Wall) : (w.modCassette c f).bins = w.bins := rfl
@[simp] theorem Wall.modCassette_depositTotal (c : CassId) (f : Cassette → Cassette) (w : Wall) : (w.modCassette c f).depositTotal = w.depositTotal := rfl
@[simp] theorem Wall.modCassette_points (c : CassId) (f : Cassette → Cassette) (w : Wall) : (w.modCassette c f).points = w.points := rfl
@[simp] theorem Wall.modCassette_zones (c : CassId) (f : Cassette → Cassette) (w : Wall) : (w.modCassette c f).zones = w.zones := rfl
@[simp] theorem Wall.modCassette_alarm (c : CassId) (f : Cassette → Cassette) (w : Wall) : (w.modCassette c f).alarm = w.alarm := rfl
@[simp] theorem Wall.modCassette_board (c : CassId) (f : Cassette → Cassette) (w : Wall) : (w.modCassette c f).board = w.board := rfl
@[simp] theorem Wall.modCassette_lost (c : CassId) (f : Cassette → Cassette) (w : Wall) : (w.modCassette c f).lost = w.lost := rfl
@[simp] theorem Wall.modCassette_port (c : CassId) (f : Cassette → Cassette) (w : Wall) : (w.modCassette c f).port = w.port := rfl
@[simp] theorem Wall.modCassette_profile (c : CassId) (f : Cassette → Cassette) (w : Wall) : (w.modCassette c f).profile = w.profile := rfl

/-! ### `Wall.modGate` -/

@[simp] theorem Wall.modGate_pages (f : Gate → Gate) (w : Wall) : (w.modGate f).pages = w.pages := rfl
@[simp] theorem Wall.modGate_flags (f : Gate → Gate) (w : Wall) : (w.modGate f).flags = w.flags := rfl
@[simp] theorem Wall.modGate_lanes (f : Gate → Gate) (w : Wall) : (w.modGate f).lanes = w.lanes := rfl
@[simp] theorem Wall.modGate_cassettes (f : Gate → Gate) (w : Wall) : (w.modGate f).cassettes = w.cassettes := rfl
@[simp] theorem Wall.modGate_gate (f : Gate → Gate) (w : Wall) : (w.modGate f).gate = f w.gate := rfl
@[simp] theorem Wall.modGate_transport (f : Gate → Gate) (w : Wall) : (w.modGate f).transport = w.transport := rfl
@[simp] theorem Wall.modGate_engine (f : Gate → Gate) (w : Wall) : (w.modGate f).engine = w.engine := rfl
@[simp] theorem Wall.modGate_conveyor (f : Gate → Gate) (w : Wall) : (w.modGate f).conveyor = w.conveyor := rfl
@[simp] theorem Wall.modGate_bins (f : Gate → Gate) (w : Wall) : (w.modGate f).bins = w.bins := rfl
@[simp] theorem Wall.modGate_depositTotal (f : Gate → Gate) (w : Wall) : (w.modGate f).depositTotal = w.depositTotal := rfl
@[simp] theorem Wall.modGate_points (f : Gate → Gate) (w : Wall) : (w.modGate f).points = w.points := rfl
@[simp] theorem Wall.modGate_zones (f : Gate → Gate) (w : Wall) : (w.modGate f).zones = w.zones := rfl
@[simp] theorem Wall.modGate_alarm (f : Gate → Gate) (w : Wall) : (w.modGate f).alarm = w.alarm := rfl
@[simp] theorem Wall.modGate_board (f : Gate → Gate) (w : Wall) : (w.modGate f).board = w.board := rfl
@[simp] theorem Wall.modGate_lost (f : Gate → Gate) (w : Wall) : (w.modGate f).lost = w.lost := rfl
@[simp] theorem Wall.modGate_port (f : Gate → Gate) (w : Wall) : (w.modGate f).port = w.port := rfl
@[simp] theorem Wall.modGate_profile (f : Gate → Gate) (w : Wall) : (w.modGate f).profile = w.profile := rfl

/-! ### `Wall.modTransport` -/

@[simp] theorem Wall.modTransport_pages (f : Transport → Transport) (w : Wall) : (w.modTransport f).pages = w.pages := rfl
@[simp] theorem Wall.modTransport_flags (f : Transport → Transport) (w : Wall) : (w.modTransport f).flags = w.flags := rfl
@[simp] theorem Wall.modTransport_lanes (f : Transport → Transport) (w : Wall) : (w.modTransport f).lanes = w.lanes := rfl
@[simp] theorem Wall.modTransport_cassettes (f : Transport → Transport) (w : Wall) : (w.modTransport f).cassettes = w.cassettes := rfl
@[simp] theorem Wall.modTransport_gate (f : Transport → Transport) (w : Wall) : (w.modTransport f).gate = w.gate := rfl
@[simp] theorem Wall.modTransport_transport (f : Transport → Transport) (w : Wall) : (w.modTransport f).transport = f w.transport := rfl
@[simp] theorem Wall.modTransport_engine (f : Transport → Transport) (w : Wall) : (w.modTransport f).engine = w.engine := rfl
@[simp] theorem Wall.modTransport_conveyor (f : Transport → Transport) (w : Wall) : (w.modTransport f).conveyor = w.conveyor := rfl
@[simp] theorem Wall.modTransport_bins (f : Transport → Transport) (w : Wall) : (w.modTransport f).bins = w.bins := rfl
@[simp] theorem Wall.modTransport_depositTotal (f : Transport → Transport) (w : Wall) : (w.modTransport f).depositTotal = w.depositTotal := rfl
@[simp] theorem Wall.modTransport_points (f : Transport → Transport) (w : Wall) : (w.modTransport f).points = w.points := rfl
@[simp] theorem Wall.modTransport_zones (f : Transport → Transport) (w : Wall) : (w.modTransport f).zones = w.zones := rfl
@[simp] theorem Wall.modTransport_alarm (f : Transport → Transport) (w : Wall) : (w.modTransport f).alarm = w.alarm := rfl
@[simp] theorem Wall.modTransport_board (f : Transport → Transport) (w : Wall) : (w.modTransport f).board = w.board := rfl
@[simp] theorem Wall.modTransport_lost (f : Transport → Transport) (w : Wall) : (w.modTransport f).lost = w.lost := rfl
@[simp] theorem Wall.modTransport_port (f : Transport → Transport) (w : Wall) : (w.modTransport f).port = w.port := rfl
@[simp] theorem Wall.modTransport_profile (f : Transport → Transport) (w : Wall) : (w.modTransport f).profile = w.profile := rfl

/-! ### `Wall.modEngine` -/

@[simp] theorem Wall.modEngine_pages (f : Engine → Engine) (w : Wall) : (w.modEngine f).pages = w.pages := rfl
@[simp] theorem Wall.modEngine_flags (f : Engine → Engine) (w : Wall) : (w.modEngine f).flags = w.flags := rfl
@[simp] theorem Wall.modEngine_lanes (f : Engine → Engine) (w : Wall) : (w.modEngine f).lanes = w.lanes := rfl
@[simp] theorem Wall.modEngine_cassettes (f : Engine → Engine) (w : Wall) : (w.modEngine f).cassettes = w.cassettes := rfl
@[simp] theorem Wall.modEngine_gate (f : Engine → Engine) (w : Wall) : (w.modEngine f).gate = w.gate := rfl
@[simp] theorem Wall.modEngine_transport (f : Engine → Engine) (w : Wall) : (w.modEngine f).transport = w.transport := rfl
@[simp] theorem Wall.modEngine_engine (f : Engine → Engine) (w : Wall) : (w.modEngine f).engine = f w.engine := rfl
@[simp] theorem Wall.modEngine_conveyor (f : Engine → Engine) (w : Wall) : (w.modEngine f).conveyor = w.conveyor := rfl
@[simp] theorem Wall.modEngine_bins (f : Engine → Engine) (w : Wall) : (w.modEngine f).bins = w.bins := rfl
@[simp] theorem Wall.modEngine_depositTotal (f : Engine → Engine) (w : Wall) : (w.modEngine f).depositTotal = w.depositTotal := rfl
@[simp] theorem Wall.modEngine_points (f : Engine → Engine) (w : Wall) : (w.modEngine f).points = w.points := rfl
@[simp] theorem Wall.modEngine_zones (f : Engine → Engine) (w : Wall) : (w.modEngine f).zones = w.zones := rfl
@[simp] theorem Wall.modEngine_alarm (f : Engine → Engine) (w : Wall) : (w.modEngine f).alarm = w.alarm := rfl
@[simp] theorem Wall.modEngine_board (f : Engine → Engine) (w : Wall) : (w.modEngine f).board = w.board := rfl
@[simp] theorem Wall.modEngine_lost (f : Engine → Engine) (w : Wall) : (w.modEngine f).lost = w.lost := rfl
@[simp] theorem Wall.modEngine_port (f : Engine → Engine) (w : Wall) : (w.modEngine f).port = w.port := rfl
@[simp] theorem Wall.modEngine_profile (f : Engine → Engine) (w : Wall) : (w.modEngine f).profile = w.profile := rfl

/-! ### `Wall.modConveyor` -/

@[simp] theorem Wall.modConveyor_pages (f : Conveyor → Conveyor) (w : Wall) : (w.modConveyor f).pages = w.pages := rfl
@[simp] theorem Wall.modConveyor_flags (f : Conveyor → Conveyor) (w : Wall) : (w.modConveyor f).flags = w.flags := rfl
@[simp] theorem Wall.modConveyor_lanes (f : Conveyor → Conveyor) (w : Wall) : (w.modConveyor f).lanes = w.lanes := rfl
@[simp] theorem Wall.modConveyor_cassettes (f : Conveyor → Conveyor) (w : Wall) : (w.modConveyor f).cassettes = w.cassettes := rfl
@[simp] theorem Wall.modConveyor_gate (f : Conveyor → Conveyor) (w : Wall) : (w.modConveyor f).gate = w.gate := rfl
@[simp] theorem Wall.modConveyor_transport (f : Conveyor → Conveyor) (w : Wall) : (w.modConveyor f).transport = w.transport := rfl
@[simp] theorem Wall.modConveyor_engine (f : Conveyor → Conveyor) (w : Wall) : (w.modConveyor f).engine = w.engine := rfl
@[simp] theorem Wall.modConveyor_conveyor (f : Conveyor → Conveyor) (w : Wall) : (w.modConveyor f).conveyor = f w.conveyor := rfl
@[simp] theorem Wall.modConveyor_bins (f : Conveyor → Conveyor) (w : Wall) : (w.modConveyor f).bins = w.bins := rfl
@[simp] theorem Wall.modConveyor_depositTotal (f : Conveyor → Conveyor) (w : Wall) : (w.modConveyor f).depositTotal = w.depositTotal := rfl
@[simp] theorem Wall.modConveyor_points (f : Conveyor → Conveyor) (w : Wall) : (w.modConveyor f).points = w.points := rfl
@[simp] theorem Wall.modConveyor_zones (f : Conveyor → Conveyor) (w : Wall) : (w.modConveyor f).zones = w.zones := rfl
@[simp] theorem Wall.modConveyor_alarm (f : Conveyor → Conveyor) (w : Wall) : (w.modConveyor f).alarm = w.alarm := rfl
@[simp] theorem Wall.modConveyor_board (f : Conveyor → Conveyor) (w : Wall) : (w.modConveyor f).board = w.board := rfl
@[simp] theorem Wall.modConveyor_lost (f : Conveyor → Conveyor) (w : Wall) : (w.modConveyor f).lost = w.lost := rfl
@[simp] theorem Wall.modConveyor_port (f : Conveyor → Conveyor) (w : Wall) : (w.modConveyor f).port = w.port := rfl
@[simp] theorem Wall.modConveyor_profile (f : Conveyor → Conveyor) (w : Wall) : (w.modConveyor f).profile = w.profile := rfl

/-! ### `Wall.modBin` -/

@[simp] theorem Wall.modBin_pages (k : BinId) (f : Bin → Bin) (w : Wall) : (w.modBin k f).pages = w.pages := rfl
@[simp] theorem Wall.modBin_flags (k : BinId) (f : Bin → Bin) (w : Wall) : (w.modBin k f).flags = w.flags := rfl
@[simp] theorem Wall.modBin_lanes (k : BinId) (f : Bin → Bin) (w : Wall) : (w.modBin k f).lanes = w.lanes := rfl
@[simp] theorem Wall.modBin_cassettes (k : BinId) (f : Bin → Bin) (w : Wall) : (w.modBin k f).cassettes = w.cassettes := rfl
@[simp] theorem Wall.modBin_gate (k : BinId) (f : Bin → Bin) (w : Wall) : (w.modBin k f).gate = w.gate := rfl
@[simp] theorem Wall.modBin_transport (k : BinId) (f : Bin → Bin) (w : Wall) : (w.modBin k f).transport = w.transport := rfl
@[simp] theorem Wall.modBin_engine (k : BinId) (f : Bin → Bin) (w : Wall) : (w.modBin k f).engine = w.engine := rfl
@[simp] theorem Wall.modBin_conveyor (k : BinId) (f : Bin → Bin) (w : Wall) : (w.modBin k f).conveyor = w.conveyor := rfl
@[simp] theorem Wall.modBin_bins (k : BinId) (f : Bin → Bin) (w : Wall) : (w.modBin k f).bins = tabMod w.bins k f := rfl
@[simp] theorem Wall.modBin_depositTotal (k : BinId) (f : Bin → Bin) (w : Wall) : (w.modBin k f).depositTotal = w.depositTotal := rfl
@[simp] theorem Wall.modBin_points (k : BinId) (f : Bin → Bin) (w : Wall) : (w.modBin k f).points = w.points := rfl
@[simp] theorem Wall.modBin_zones (k : BinId) (f : Bin → Bin) (w : Wall) : (w.modBin k f).zones = w.zones := rfl
@[simp] theorem Wall.modBin_alarm (k : BinId) (f : Bin → Bin) (w : Wall) : (w.modBin k f).alarm = w.alarm := rfl
@[simp] theorem Wall.modBin_board (k : BinId) (f : Bin → Bin) (w : Wall) : (w.modBin k f).board = w.board := rfl
@[simp] theorem Wall.modBin_lost (k : BinId) (f : Bin → Bin) (w : Wall) : (w.modBin k f).lost = w.lost := rfl
@[simp] theorem Wall.modBin_port (k : BinId) (f : Bin → Bin) (w : Wall) : (w.modBin k f).port = w.port := rfl
@[simp] theorem Wall.modBin_profile (k : BinId) (f : Bin → Bin) (w : Wall) : (w.modBin k f).profile = w.profile := rfl

/-! ### `Wall.modPoint` -/

@[simp] theorem Wall.modPoint_pages (p : PointId) (f : Point → Point) (w : Wall) : (w.modPoint p f).pages = w.pages := rfl
@[simp] theorem Wall.modPoint_flags (p : PointId) (f : Point → Point) (w : Wall) : (w.modPoint p f).flags = w.flags := rfl
@[simp] theorem Wall.modPoint_lanes (p : PointId) (f : Point → Point) (w : Wall) : (w.modPoint p f).lanes = w.lanes := rfl
@[simp] theorem Wall.modPoint_cassettes (p : PointId) (f : Point → Point) (w : Wall) : (w.modPoint p f).cassettes = w.cassettes := rfl
@[simp] theorem Wall.modPoint_gate (p : PointId) (f : Point → Point) (w : Wall) : (w.modPoint p f).gate = w.gate := rfl
@[simp] theorem Wall.modPoint_transport (p : PointId) (f : Point → Point) (w : Wall) : (w.modPoint p f).transport = w.transport := rfl
@[simp] theorem Wall.modPoint_engine (p : PointId) (f : Point → Point) (w : Wall) : (w.modPoint p f).engine = w.engine := rfl
@[simp] theorem Wall.modPoint_conveyor (p : PointId) (f : Point → Point) (w : Wall) : (w.modPoint p f).conveyor = w.conveyor := rfl
@[simp] theorem Wall.modPoint_bins (p : PointId) (f : Point → Point) (w : Wall) : (w.modPoint p f).bins = w.bins := rfl
@[simp] theorem Wall.modPoint_depositTotal (p : PointId) (f : Point → Point) (w : Wall) : (w.modPoint p f).depositTotal = w.depositTotal := rfl
@[simp] theorem Wall.modPoint_points (p : PointId) (f : Point → Point) (w : Wall) : (w.modPoint p f).points = tabMod w.points p f := rfl
@[simp] theorem Wall.modPoint_zones (p : PointId) (f : Point → Point) (w : Wall) : (w.modPoint p f).zones = w.zones := rfl
@[simp] theorem Wall.modPoint_alarm (p : PointId) (f : Point → Point) (w : Wall) : (w.modPoint p f).alarm = w.alarm := rfl
@[simp] theorem Wall.modPoint_board (p : PointId) (f : Point → Point) (w : Wall) : (w.modPoint p f).board = w.board := rfl
@[simp] theorem Wall.modPoint_lost (p : PointId) (f : Point → Point) (w : Wall) : (w.modPoint p f).lost = w.lost := rfl
@[simp] theorem Wall.modPoint_port (p : PointId) (f : Point → Point) (w : Wall) : (w.modPoint p f).port = w.port := rfl
@[simp] theorem Wall.modPoint_profile (p : PointId) (f : Point → Point) (w : Wall) : (w.modPoint p f).profile = w.profile := rfl

/-! ### `Wall.modZone` -/

@[simp] theorem Wall.modZone_pages (z : ZoneId) (f : Zone → Zone) (w : Wall) : (w.modZone z f).pages = w.pages := rfl
@[simp] theorem Wall.modZone_flags (z : ZoneId) (f : Zone → Zone) (w : Wall) : (w.modZone z f).flags = w.flags := rfl
@[simp] theorem Wall.modZone_lanes (z : ZoneId) (f : Zone → Zone) (w : Wall) : (w.modZone z f).lanes = w.lanes := rfl
@[simp] theorem Wall.modZone_cassettes (z : ZoneId) (f : Zone → Zone) (w : Wall) : (w.modZone z f).cassettes = w.cassettes := rfl
@[simp] theorem Wall.modZone_gate (z : ZoneId) (f : Zone → Zone) (w : Wall) : (w.modZone z f).gate = w.gate := rfl
@[simp] theorem Wall.modZone_transport (z : ZoneId) (f : Zone → Zone) (w : Wall) : (w.modZone z f).transport = w.transport := rfl
@[simp] theorem Wall.modZone_engine (z : ZoneId) (f : Zone → Zone) (w : Wall) : (w.modZone z f).engine = w.engine := rfl
@[simp] theorem Wall.modZone_conveyor (z : ZoneId) (f : Zone → Zone) (w : Wall) : (w.modZone z f).conveyor = w.conveyor := rfl
@[simp] theorem Wall.modZone_bins (z : ZoneId) (f : Zone → Zone) (w : Wall) : (w.modZone z f).bins = w.bins := rfl
@[simp] theorem Wall.modZone_depositTotal (z : ZoneId) (f : Zone → Zone) (w : Wall) : (w.modZone z f).depositTotal = w.depositTotal := rfl
@[simp] theorem Wall.modZone_points (z : ZoneId) (f : Zone → Zone) (w : Wall) : (w.modZone z f).points = w.points := rfl
@[simp] theorem Wall.modZone_zones (z : ZoneId) (f : Zone → Zone) (w : Wall) : (w.modZone z f).zones = tabMod w.zones z f := rfl
@[simp] theorem Wall.modZone_alarm (z : ZoneId) (f : Zone → Zone) (w : Wall) : (w.modZone z f).alarm = w.alarm := rfl
@[simp] theorem Wall.modZone_board (z : ZoneId) (f : Zone → Zone) (w : Wall) : (w.modZone z f).board = w.board := rfl
@[simp] theorem Wall.modZone_lost (z : ZoneId) (f : Zone → Zone) (w : Wall) : (w.modZone z f).lost = w.lost := rfl
@[simp] theorem Wall.modZone_port (z : ZoneId) (f : Zone → Zone) (w : Wall) : (w.modZone z f).port = w.port := rfl
@[simp] theorem Wall.modZone_profile (z : ZoneId) (f : Zone → Zone) (w : Wall) : (w.modZone z f).profile = w.profile := rfl

/-! ### `Wall.modAlarm` -/

@[simp] theorem Wall.modAlarm_pages (f : AlarmStatus → AlarmStatus) (w : Wall) : (w.modAlarm f).pages = w.pages := rfl
@[simp] theorem Wall.modAlarm_flags (f : AlarmStatus → AlarmStatus) (w : Wall) : (w.modAlarm f).flags = w.flags := rfl
@[simp] theorem Wall.modAlarm_lanes (f : AlarmStatus → AlarmStatus) (w : Wall) : (w.modAlarm f).lanes = w.lanes := rfl
@[simp] theorem Wall.modAlarm_cassettes (f : AlarmStatus → AlarmStatus) (w : Wall) : (w.modAlarm f).cassettes = w.cassettes := rfl
@[simp] theorem Wall.modAlarm_gate (f : AlarmStatus → AlarmStatus) (w : Wall) : (w.modAlarm f).gate = w.gate := rfl
@[simp] theorem Wall.modAlarm_transport (f : AlarmStatus → AlarmStatus) (w : Wall) : (w.modAlarm f).transport = w.transport := rfl
@[simp] theorem Wall.modAlarm_engine (f : AlarmStatus → AlarmStatus) (w : Wall) : (w.modAlarm f).engine = w.engine := rfl
@[simp] theorem Wall.modAlarm_conveyor (f : AlarmStatus → AlarmStatus) (w : Wall) : (w.modAlarm f).conveyor = w.conveyor := rfl
@[simp] theorem Wall.modAlarm_bins (f : AlarmStatus → AlarmStatus) (w : Wall) : (w.modAlarm f).bins = w.bins := rfl
@[simp] theorem Wall.modAlarm_depositTotal (f : AlarmStatus → AlarmStatus) (w : Wall) : (w.modAlarm f).depositTotal = w.depositTotal := rfl
@[simp] theorem Wall.modAlarm_points (f : AlarmStatus → AlarmStatus) (w : Wall) : (w.modAlarm f).points = w.points := rfl
@[simp] theorem Wall.modAlarm_zones (f : AlarmStatus → AlarmStatus) (w : Wall) : (w.modAlarm f).zones = w.zones := rfl
@[simp] theorem Wall.modAlarm_alarm (f : AlarmStatus → AlarmStatus) (w : Wall) : (w.modAlarm f).alarm = f w.alarm := rfl
@[simp] theorem Wall.modAlarm_board (f : AlarmStatus → AlarmStatus) (w : Wall) : (w.modAlarm f).board = w.board := rfl
@[simp] theorem Wall.modAlarm_lost (f : AlarmStatus → AlarmStatus) (w : Wall) : (w.modAlarm f).lost = w.lost := rfl
@[simp] theorem Wall.modAlarm_port (f : AlarmStatus → AlarmStatus) (w : Wall) : (w.modAlarm f).port = w.port := rfl
@[simp] theorem Wall.modAlarm_profile (f : AlarmStatus → AlarmStatus) (w : Wall) : (w.modAlarm f).profile = w.profile := rfl

/-! ### `Wall.modPort` -/

@[simp] theorem Wall.modPort_pages (f : Port → Port) (w : Wall) : (w.modPort f).pages = w.pages := rfl
@[simp] theorem Wall.modPort_flags (f : Port → Port) (w : Wall) : (w.modPort f).flags = w.flags := rfl
@[simp] theorem Wall.modPort_lanes (f : Port → Port) (w : Wall) : (w.modPort f).lanes = w.lanes := rfl
@[simp] theorem Wall.modPort_cassettes (f : Port → Port) (w : Wall) : (w.modPort f).cassettes = w.cassettes := rfl
@[simp] theorem Wall.modPort_gate (f : Port → Port) (w : Wall) : (w.modPort f).gate = w.gate := rfl
@[simp] theorem Wall.modPort_transport (f : Port → Port) (w : Wall) : (w.modPort f).transport = w.transport := rfl
@[simp] theorem Wall.modPort_engine (f : Port → Port) (w : Wall) : (w.modPort f).engine = w.engine := rfl
@[simp] theorem Wall.modPort_conveyor (f : Port → Port) (w : Wall) : (w.modPort f).conveyor = w.conveyor := rfl
@[simp] theorem Wall.modPort_bins (f : Port → Port) (w : Wall) : (w.modPort f).bins = w.bins := rfl
@[simp] theorem Wall.modPort_depositTotal (f : Port → Port) (w : Wall) : (w.modPort f).depositTotal = w.depositTotal := rfl
@[simp] theorem Wall.modPort_points (f : Port → Port) (w : Wall) : (w.modPort f).points = w.points := rfl
@[simp] theorem Wall.modPort_zones (f : Port → Port) (w : Wall) : (w.modPort f).zones = w.zones := rfl
@[simp] theorem Wall.modPort_alarm (f : Port → Port) (w : Wall) : (w.modPort f).alarm = w.alarm := rfl
@[simp] theorem Wall.modPort_board (f : Port → Port) (w : Wall) : (w.modPort f).board = w.board := rfl
@[simp] theorem Wall.modPort_lost (f : Port → Port) (w : Wall) : (w.modPort f).lost = w.lost := rfl
@[simp] theorem Wall.modPort_port (f : Port → Port) (w : Wall) : (w.modPort f).port = f w.port := rfl
@[simp] theorem Wall.modPort_profile (f : Port → Port) (w : Wall) : (w.modPort f).profile = w.profile := rfl

/-! ### `Wall.modProfile` -/

@[simp] theorem Wall.modProfile_pages (f : ProfileStore → ProfileStore) (w : Wall) : (w.modProfile f).pages = w.pages := rfl
@[simp] theorem Wall.modProfile_flags (f : ProfileStore → ProfileStore) (w : Wall) : (w.modProfile f).flags = w.flags := rfl
@[simp] theorem Wall.modProfile_lanes (f : ProfileStore → ProfileStore) (w : Wall) : (w.modProfile f).lanes = w.lanes := rfl
@[simp] theorem Wall.modProfile_cassettes (f : ProfileStore → ProfileStore) (w : Wall) : (w.modProfile f).cassettes = w.cassettes := rfl
@[simp] theorem Wall.modProfile_gate (f : ProfileStore → ProfileStore) (w : Wall) : (w.modProfile f).gate = w.gate := rfl
@[simp] theorem Wall.modProfile_transport (f : ProfileStore → ProfileStore) (w : Wall) : (w.modProfile f).transport = w.transport := rfl
@[simp] theorem Wall.modProfile_engine (f : ProfileStore → ProfileStore) (w : Wall) : (w.modProfile f).engine = w.engine := rfl
@[simp] theorem Wall.modProfile_conveyor (f : ProfileStore → ProfileStore) (w : Wall) : (w.modProfile f).conveyor = w.conveyor := rfl
@[simp] theorem Wall.modProfile_bins (f : ProfileStore → ProfileStore) (w : Wall) : (w.modProfile f).bins = w.bins := rfl
@[simp] theorem Wall.modProfile_depositTotal (f : ProfileStore → ProfileStore) (w : Wall) : (w.modProfile f).depositTotal = w.depositTotal := rfl
@[simp] theorem Wall.modProfile_points (f : ProfileStore → ProfileStore) (w : Wall) : (w.modProfile f).points = w.points := rfl
@[simp] theorem Wall.modProfile_zones (f : ProfileStore → ProfileStore) (w : Wall) : (w.modProfile f).zones = w.zones := rfl
@[simp] theorem Wall.modProfile_alarm (f : ProfileStore → ProfileStore) (w : Wall) : (w.modProfile f).alarm = w.alarm := rfl
@[simp] theorem Wall.modProfile_board (f : ProfileStore → ProfileStore) (w : Wall) : (w.modProfile f).board = w.board := rfl
@[simp] theorem Wall.modProfile_lost (f : ProfileStore → ProfileStore) (w : Wall) : (w.modProfile f).lost = w.lost := rfl
@[simp] theorem Wall.modProfile_port (f : ProfileStore → ProfileStore) (w : Wall) : (w.modProfile f).port = w.port := rfl
@[simp] theorem Wall.modProfile_profile (f : ProfileStore → ProfileStore) (w : Wall) : (w.modProfile f).profile = f w.profile := rfl

/-! ### `Wall.modPage` -/

@[simp] theorem Wall.modPage_pages (p : PageId) (f : Page → Page) (w : Wall) : (w.modPage p f).pages = tabMod w.pages p f := rfl
@[simp] theorem Wall.modPage_flags (p : PageId) (f : Page → Page) (w : Wall) : (w.modPage p f).flags = w.flags := rfl
@[simp] theorem Wall.modPage_lanes (p : PageId) (f : Page → Page) (w : Wall) : (w.modPage p f).lanes = w.lanes := rfl
@[simp] theorem Wall.modPage_cassettes (p : PageId) (f : Page → Page) (w : Wall) : (w.modPage p f).cassettes = w.cassettes := rfl
@[simp] theorem Wall.modPage_gate (p : PageId) (f : Page → Page) (w : Wall) : (w.modPage p f).gate = w.gate := rfl
@[simp] theorem Wall.modPage_transport (p : PageId) (f : Page → Page) (w : Wall) : (w.modPage p f).transport = w.transport := rfl
@[simp] theorem Wall.modPage_engine (p : PageId) (f : Page → Page) (w : Wall) : (w.modPage p f).engine = w.engine := rfl
@[simp] theorem Wall.modPage_conveyor (p : PageId) (f : Page → Page) (w : Wall) : (w.modPage p f).conveyor = w.conveyor := rfl
@[simp] theorem Wall.modPage_bins (p : PageId) (f : Page → Page) (w : Wall) : (w.modPage p f).bins = w.bins := rfl
@[simp] theorem Wall.modPage_depositTotal (p : PageId) (f : Page → Page) (w : Wall) : (w.modPage p f).depositTotal = w.depositTotal := rfl
@[simp] theorem Wall.modPage_points (p : PageId) (f : Page → Page) (w : Wall) : (w.modPage p f).points = w.points := rfl
@[simp] theorem Wall.modPage_zones (p : PageId) (f : Page → Page) (w : Wall) : (w.modPage p f).zones = w.zones := rfl
@[simp] theorem Wall.modPage_alarm (p : PageId) (f : Page → Page) (w : Wall) : (w.modPage p f).alarm = w.alarm := rfl
@[simp] theorem Wall.modPage_board (p : PageId) (f : Page → Page) (w : Wall) : (w.modPage p f).board = w.board := rfl
@[simp] theorem Wall.modPage_lost (p : PageId) (f : Page → Page) (w : Wall) : (w.modPage p f).lost = w.lost := rfl
@[simp] theorem Wall.modPage_port (p : PageId) (f : Page → Page) (w : Wall) : (w.modPage p f).port = w.port := rfl
@[simp] theorem Wall.modPage_profile (p : PageId) (f : Page → Page) (w : Wall) : (w.modPage p f).profile = w.profile := rfl

/-! ### `Wall.modSlot` -/

@[simp] theorem Wall.modSlot_pages (p : PageId) (s : SlotId) (f : Slot → Slot) (w : Wall) : (w.modSlot p s f).pages = tabMod w.pages p fun g => { g with slots := tabMod g.slots s f } := rfl
@[simp] theorem Wall.modSlot_flags (p : PageId) (s : SlotId) (f : Slot → Slot) (w : Wall) : (w.modSlot p s f).flags = w.flags := rfl
@[simp] theorem Wall.modSlot_lanes (p : PageId) (s : SlotId) (f : Slot → Slot) (w : Wall) : (w.modSlot p s f).lanes = w.lanes := rfl
@[simp] theorem Wall.modSlot_cassettes (p : PageId) (s : SlotId) (f : Slot → Slot) (w : Wall) : (w.modSlot p s f).cassettes = w.cassettes := rfl
@[simp] theorem Wall.modSlot_gate (p : PageId) (s : SlotId) (f : Slot → Slot) (w : Wall) : (w.modSlot p s f).gate = w.gate := rfl
@[simp] theorem Wall.modSlot_transport (p : PageId) (s : SlotId) (f : Slot → Slot) (w : Wall) : (w.modSlot p s f).transport = w.transport := rfl
@[simp] theorem Wall.modSlot_engine (p : PageId) (s : SlotId) (f : Slot → Slot) (w : Wall) : (w.modSlot p s f).engine = w.engine := rfl
@[simp] theorem Wall.modSlot_conveyor (p : PageId) (s : SlotId) (f : Slot → Slot) (w : Wall) : (w.modSlot p s f).conveyor = w.conveyor := rfl
@[simp] theorem Wall.modSlot_bins (p : PageId) (s : SlotId) (f : Slot → Slot) (w : Wall) : (w.modSlot p s f).bins = w.bins := rfl
@[simp] theorem Wall.modSlot_depositTotal (p : PageId) (s : SlotId) (f : Slot → Slot) (w : Wall) : (w.modSlot p s f).depositTotal = w.depositTotal := rfl
@[simp] theorem Wall.modSlot_points (p : PageId) (s : SlotId) (f : Slot → Slot) (w : Wall) : (w.modSlot p s f).points = w.points := rfl
@[simp] theorem Wall.modSlot_zones (p : PageId) (s : SlotId) (f : Slot → Slot) (w : Wall) : (w.modSlot p s f).zones = w.zones := rfl
@[simp] theorem Wall.modSlot_alarm (p : PageId) (s : SlotId) (f : Slot → Slot) (w : Wall) : (w.modSlot p s f).alarm = w.alarm := rfl
@[simp] theorem Wall.modSlot_board (p : PageId) (s : SlotId) (f : Slot → Slot) (w : Wall) : (w.modSlot p s f).board = w.board := rfl
@[simp] theorem Wall.modSlot_lost (p : PageId) (s : SlotId) (f : Slot → Slot) (w : Wall) : (w.modSlot p s f).lost = w.lost := rfl
@[simp] theorem Wall.modSlot_port (p : PageId) (s : SlotId) (f : Slot → Slot) (w : Wall) : (w.modSlot p s f).port = w.port := rfl
@[simp] theorem Wall.modSlot_profile (p : PageId) (s : SlotId) (f : Slot → Slot) (w : Wall) : (w.modSlot p s f).profile = w.profile := rfl

/-! ### `Wall.modTally` -/

@[simp] theorem Wall.modTally_pages (n : LaneId) (f : Tally → Tally) (w : Wall) : (w.modTally n f).pages = w.pages := rfl
@[simp] theorem Wall.modTally_flags (n : LaneId) (f : Tally → Tally) (w : Wall) : (w.modTally n f).flags = w.flags := rfl
@[simp] theorem Wall.modTally_lanes (n : LaneId) (f : Tally → Tally) (w : Wall) : (w.modTally n f).lanes = w.lanes := rfl
@[simp] theorem Wall.modTally_cassettes (n : LaneId) (f : Tally → Tally) (w : Wall) : (w.modTally n f).cassettes = w.cassettes := rfl
@[simp] theorem Wall.modTally_gate (n : LaneId) (f : Tally → Tally) (w : Wall) : (w.modTally n f).gate = w.gate := rfl
@[simp] theorem Wall.modTally_transport (n : LaneId) (f : Tally → Tally) (w : Wall) : (w.modTally n f).transport = w.transport := rfl
@[simp] theorem Wall.modTally_engine (n : LaneId) (f : Tally → Tally) (w : Wall) : (w.modTally n f).engine = { w.engine with tallies := tabMod w.engine.tallies n (Option.map f) } := rfl
@[simp] theorem Wall.modTally_conveyor (n : LaneId) (f : Tally → Tally) (w : Wall) : (w.modTally n f).conveyor = w.conveyor := rfl
@[simp] theorem Wall.modTally_bins (n : LaneId) (f : Tally → Tally) (w : Wall) : (w.modTally n f).bins = w.bins := rfl
@[simp] theorem Wall.modTally_depositTotal (n : LaneId) (f : Tally → Tally) (w : Wall) : (w.modTally n f).depositTotal = w.depositTotal := rfl
@[simp] theorem Wall.modTally_points (n : LaneId) (f : Tally → Tally) (w : Wall) : (w.modTally n f).points = w.points := rfl
@[simp] theorem Wall.modTally_zones (n : LaneId) (f : Tally → Tally) (w : Wall) : (w.modTally n f).zones = w.zones := rfl
@[simp] theorem Wall.modTally_alarm (n : LaneId) (f : Tally → Tally) (w : Wall) : (w.modTally n f).alarm = w.alarm := rfl
@[simp] theorem Wall.modTally_board (n : LaneId) (f : Tally → Tally) (w : Wall) : (w.modTally n f).board = w.board := rfl
@[simp] theorem Wall.modTally_lost (n : LaneId) (f : Tally → Tally) (w : Wall) : (w.modTally n f).lost = w.lost := rfl
@[simp] theorem Wall.modTally_port (n : LaneId) (f : Tally → Tally) (w : Wall) : (w.modTally n f).port = w.port := rfl
@[simp] theorem Wall.modTally_profile (n : LaneId) (f : Tally → Tally) (w : Wall) : (w.modTally n f).profile = w.profile := rfl

/-! ### `Wall.modFlag` -/

@[simp] theorem Wall.modFlag_pages (k : Fin 16) (f : Word → Word) (w : Wall) : (w.modFlag k f).pages = w.pages := rfl
@[simp] theorem Wall.modFlag_flags (k : Fin 16) (f : Word → Word) (w : Wall) : (w.modFlag k f).flags = tabMod w.flags k f := rfl
@[simp] theorem Wall.modFlag_lanes (k : Fin 16) (f : Word → Word) (w : Wall) : (w.modFlag k f).lanes = w.lanes := rfl
@[simp] theorem Wall.modFlag_cassettes (k : Fin 16) (f : Word → Word) (w : Wall) : (w.modFlag k f).cassettes = w.cassettes := rfl
@[simp] theorem Wall.modFlag_gate (k : Fin 16) (f : Word → Word) (w : Wall) : (w.modFlag k f).gate = w.gate := rfl
@[simp] theorem Wall.modFlag_transport (k : Fin 16) (f : Word → Word) (w : Wall) : (w.modFlag k f).transport = w.transport := rfl
@[simp] theorem Wall.modFlag_engine (k : Fin 16) (f : Word → Word) (w : Wall) : (w.modFlag k f).engine = w.engine := rfl
@[simp] theorem Wall.modFlag_conveyor (k : Fin 16) (f : Word → Word) (w : Wall) : (w.modFlag k f).conveyor = w.conveyor := rfl
@[simp] theorem Wall.modFlag_bins (k : Fin 16) (f : Word → Word) (w : Wall) : (w.modFlag k f).bins = w.bins := rfl
@[simp] theorem Wall.modFlag_depositTotal (k : Fin 16) (f : Word → Word) (w : Wall) : (w.modFlag k f).depositTotal = w.depositTotal := rfl
@[simp] theorem Wall.modFlag_points (k : Fin 16) (f : Word → Word) (w : Wall) : (w.modFlag k f).points = w.points := rfl
@[simp] theorem Wall.modFlag_zones (k : Fin 16) (f : Word → Word) (w : Wall) : (w.modFlag k f).zones = w.zones := rfl
@[simp] theorem Wall.modFlag_alarm (k : Fin 16) (f : Word → Word) (w : Wall) : (w.modFlag k f).alarm = w.alarm := rfl
@[simp] theorem Wall.modFlag_board (k : Fin 16) (f : Word → Word) (w : Wall) : (w.modFlag k f).board = w.board := rfl
@[simp] theorem Wall.modFlag_lost (k : Fin 16) (f : Word → Word) (w : Wall) : (w.modFlag k f).lost = w.lost := rfl
@[simp] theorem Wall.modFlag_port (k : Fin 16) (f : Word → Word) (w : Wall) : (w.modFlag k f).port = w.port := rfl
@[simp] theorem Wall.modFlag_profile (k : Fin 16) (f : Word → Word) (w : Wall) : (w.modFlag k f).profile = w.profile := rfl

end Sys2Proof.Machine
end

