-- ==== Sys2Proof/Laws/Tables.lean ====
section
/-! SUPPORT. Reading a table after one entry, or every entry, has been changed. -/

namespace Sys2Proof

@[simp] theorem tabSet_get_same {α : Type} {n : Nat} (v : Vector α n) (i : Fin n) (x : α) : (tabSet v i x).get i = x := by
  show (v.set i.val x i.isLt)[i.val] = x
  simp

theorem tabSet_get_other {α : Type} {n : Nat} (v : Vector α n) {i j : Fin n} (x : α) (h : j ≠ i) : (tabSet v i x).get j = v.get j := by
  have h' : i.val ≠ j.val := fun e => h (Fin.ext e.symm)
  show (v.set i.val x i.isLt)[j.val] = v[j.val]
  simp [h']

/-- What entry `j` is after entry `i` has been replaced. -/
theorem tabSet_get {α : Type} {n : Nat} (v : Vector α n) (i j : Fin n) (x : α) : (tabSet v i x).get j = if j = i then x else v.get j := by
  split
  · next h => rw [h, tabSet_get_same]
  · next h => exact tabSet_get_other v x h

@[simp] theorem tabMod_get_same {α : Type} {n : Nat} (v : Vector α n) (i : Fin n) (f : α → α) : (tabMod v i f).get i = f (v.get i) :=
  tabSet_get_same v i _

theorem tabMod_get_other {α : Type} {n : Nat} (v : Vector α n) {i j : Fin n} (f : α → α) (h : j ≠ i) : (tabMod v i f).get j = v.get j :=
  tabSet_get_other v _ h

/-- What entry `j` is after entry `i` has been changed by `f`. -/
theorem tabMod_get {α : Type} {n : Nat} (v : Vector α n) (i j : Fin n) (f : α → α) :
    (tabMod v i f).get j = if j = i then f (v.get j) else v.get j := by
  rw [tabMod, tabSet_get]
  split
  · next h => rw [h]
  · rfl

@[simp] theorem tabMap_get {α β : Type} {n : Nat} (v : Vector α n) (f : Fin n → α → β) (i : Fin n) : (tabMap v f).get i = f i (v.get i) := by
  show (Vector.ofFn fun i => f i (v.get i))[i.val] = f i (v.get i)
  simp

/-- Two tables with the same entries are the same table. -/
theorem tab_ext {α : Type} {n : Nat} {u v : Vector α n} (h : ∀ i : Fin n, u.get i = v.get i) : u = v := by
  apply Vector.ext
  intro i hi
  exact h ⟨i, hi⟩

/-- A change that leaves its entry as it was leaves the table as it was. -/
theorem tabMod_same {α : Type} {n : Nat} (v : Vector α n) (i : Fin n) (f : α → α) (h : f (v.get i) = v.get i) : tabMod v i f = v := by
  apply tab_ext
  intro j
  rw [tabMod_get]
  split
  · next e => rw [e, h]
  · rfl

/-- Two changes of one entry are one change. -/
theorem tabMod_tabMod {α : Type} {n : Nat} (v : Vector α n) (i : Fin n) (f g : α → α) :
    tabMod (tabMod v i f) i g = tabMod v i fun x => g (f x) := by
  apply tab_ext
  intro j
  simp only [tabMod_get]
  split <;> rfl

end Sys2Proof
end

