-- ==== Sys2Proof/Laws/Ops.lean ====
section
/-! SUPPORT. The shared operations over the state: what each can change, and the values it leaves. -/

namespace Sys2Proof.Machine

/-! ### Slots and lanes -/

@[simp] theorem Wall.modSlot_slot_same (p : PageId) (x : SlotId) (f : Slot → Slot) (w : Wall) : (w.modSlot p x f).slot p x = f (w.slot p x) := by
  simp [Wall.slot, Wall.modSlot, Wall.modPage]

/-- Work starts in a slot the posting list may hold, and every other slot it leaves as it was (R26, R31). -/
theorem Wall.startWork_slot (p : PageId) (x : SlotId) (w : Wall) :
    (w.startWork p x).slot p x =
      if (w.slot p x).state.listed then { w.slot p x with state := w.workState } else w.slot p x := by
  simp only [Wall.startWork, Wall.modSlot_slot_same]
  split <;> rfl

theorem Wall.modSlot_slot_other {p q : PageId} {x y : SlotId} (f : Slot → Slot) (w : Wall) (h : (q, y) ≠ (p, x)) :
    (w.modSlot p x f).slot q y = w.slot q y := by
  by_cases hp : q = p
  · subst hp
    have hy : y ≠ x := fun e => h (by rw [e])
    simp [Wall.slot, Wall.modSlot, Wall.modPage, tabMod_get_other _ _ hy]
  · simp [Wall.slot, Wall.modSlot, Wall.modPage, tabMod_get_other _ _ hp]

/-- A change of a page's posting list leaves every slot as it was. -/
theorem Wall.modPage_posting_slot (p q : PageId) (y : SlotId) (f : Page → List SlotId) (w : Wall) :
    (w.modPage p fun g => { g with posting := f g }).slot q y = w.slot q y := by
  simp only [Wall.slot, Wall.modPage, tabMod_get]
  split <;> rfl

@[simp] theorem Wall.modLane_get_same (n : LaneId) (f : Lane → Lane) (w : Wall) : (w.modLane n f).lanes.get n = f (w.lanes.get n) := by
  simp [Wall.modLane]

theorem Wall.modLane_get_other {n m : LaneId} (f : Lane → Lane) (w : Wall) (h : m ≠ n) : (w.modLane n f).lanes.get m = w.lanes.get m :=
  tabMod_get_other _ _ h

/-! ### The board (R164) -/

/-- A post changes the board and the lost count alone. -/
theorem Wall.post_frame (news : News) (detail : Nat) (w : Wall) :
    w.post news detail = { w with board := (w.post news detail).board, lost := (w.post news detail).lost } := by
  unfold Wall.post
  split
  · rfl
  · split <;> rfl

/-- The three things a post can do: it is coalesced, it fills the lowest FREE entry, or it is lost. -/
theorem Wall.post_cases (news : News) (detail : Nat) (w : Wall) :
    (∃ e, w.entryOf news.key = some e ∧ w.post news detail =
      { w with board := tabMod w.board e fun x =>
                 { x with state := .new, count := satAdd 255 x.count 1, last := lowWord w.port.seconds, detail := word detail } })
    ∨ (∃ e, w.entryOf news.key = none ∧ w.freeEntry = some e ∧ w.post news detail =
      { w with board := tabSet w.board e
                 { state := .new, key := news.key, count := 1, first := lowWord w.port.seconds, last := lowWord w.port.seconds,
                   detail := word detail } })
    ∨ (w.entryOf news.key = none ∧ w.freeEntry = none ∧ w.post news detail = { w with lost := satAdd 65535 w.lost 1 }) := by
  unfold Wall.post
  rcases h : w.entryOf news.key with _ | e
  · rcases hf : w.freeEntry with _ | e
    · exact .inr (.inr ⟨rfl, rfl, by simp⟩)
    · exact .inr (.inl ⟨e, rfl, rfl, by simp⟩)
  · exact .inl ⟨e, rfl, by simp⟩

/-! ### The end of an order (R25, R26, R32) -/

/-- Closing a slot changes the pages and the flag words alone. -/
theorem Wall.closeSlotAt_frame (t : DWord) (p : PageId) (x : SlotId) (st : SlotState) (e : OrderEnd) (fields : List Word) (w : Wall) :
    w.closeSlotAt t p x st e fields =
      { w with pages := (w.closeSlotAt t p x st e fields).pages, flags := (w.closeSlotAt t p x st e fields).flags } := by
  simp only [Wall.closeSlotAt]
  split <;> rfl

/-- A closed slot has its final state and its result, and its body and progress area are kept. -/
theorem Wall.closeSlotAt_slot (t : DWord) (p : PageId) (x : SlotId) (st : SlotState) (e : OrderEnd) (fields : List Word) (w : Wall) :
    (w.closeSlotAt t p x st e fields).slot p x =
      { w.slot p x with state := st, result := resultWords e (w.slot p x).tooLate t fields,
                        tooLate := false, cancelPending := false, lockdownMark := false } := by
  have h : ((w.modSlot p x fun y =>
        { y with state := st, result := resultWords e y.tooLate t fields,
                 tooLate := false, cancelPending := false, lockdownMark := false }).modPage p
        fun g => { g with posting := g.posting.filter fun t => t ≠ x }).slot p x =
      { w.slot p x with state := st, result := resultWords e (w.slot p x).tooLate t fields,
                        tooLate := false, cancelPending := false, lockdownMark := false } := by
    rw [Wall.modPage_posting_slot p p x (fun g => g.posting.filter fun t => t ≠ x), Wall.modSlot_slot_same]
  simp only [Wall.closeSlotAt]
  split
  · exact h
  · exact h

/-- Every other slot stays as it was. -/
theorem Wall.closeSlotAt_other {p q : PageId} {x y : SlotId} (t : DWord) (st : SlotState) (e : OrderEnd) (fields : List Word) (w : Wall)
    (h : (q, y) ≠ (p, x)) : (w.closeSlotAt t p x st e fields).slot q y = w.slot q y := by
  simp only [Wall.closeSlotAt]
  split
  · show ((Wall.modSlot p x _ w).modPage p _).slot q y = w.slot q y
    rw [Wall.modPage_posting_slot p q y (fun g => g.posting.filter fun t => t ≠ x), Wall.modSlot_slot_other _ _ h]
  · rw [Wall.modPage_posting_slot p q y (fun g => g.posting.filter fun t => t ≠ x), Wall.modSlot_slot_other _ _ h]

/-- A slot closed now changes the pages and the flag words alone. -/
theorem Wall.closeSlot_frame (p : PageId) (x : SlotId) (st : SlotState) (e : OrderEnd) (fields : List Word) (w : Wall) :
    w.closeSlot p x st e fields =
      { w with pages := (w.closeSlot p x st e fields).pages, flags := (w.closeSlot p x st e fields).flags } :=
  Wall.closeSlotAt_frame w.port.seconds p x st e fields w

/-- A slot closed now has the finish seconds of this moment. -/
theorem Wall.closeSlot_slot (p : PageId) (x : SlotId) (st : SlotState) (e : OrderEnd) (fields : List Word) (w : Wall) :
    (w.closeSlot p x st e fields).slot p x =
      { w.slot p x with state := st, result := resultWords e (w.slot p x).tooLate w.port.seconds fields,
                        tooLate := false, cancelPending := false, lockdownMark := false } :=
  Wall.closeSlotAt_slot w.port.seconds p x st e fields w

/-- Every slot but the one closed now stays as it was. -/
theorem Wall.closeSlot_other {p q : PageId} {x y : SlotId} (st : SlotState) (e : OrderEnd) (fields : List Word) (w : Wall)
    (h : (q, y) ≠ (p, x)) : (w.closeSlot p x st e fields).slot q y = w.slot q y :=
  Wall.closeSlotAt_other w.port.seconds st e fields w h

/-- The end of an order changes the pages, the flag words and the lanes alone. -/
theorem Wall.finishAt_frame (t : DWord) (p : PageId) (x : SlotId) (e : OrderEnd) (fields : List Word) (w : Wall) :
    w.finishAt t p x e fields =
      { w with pages := (w.finishAt t p x e fields).pages, flags := (w.finishAt t p x e fields).flags,
               lanes := (w.finishAt t p x e fields).lanes } := by
  simp only [Wall.finishAt]
  split
  · rw [Wall.closeSlotAt_frame]; rfl
  · rw [Wall.closeSlotAt_frame]

/-- A finished order's slot. -/
theorem Wall.finishAt_slot (t : DWord) (p : PageId) (x : SlotId) (e : OrderEnd) (fields : List Word) (w : Wall) :
    (w.finishAt t p x e fields).slot p x =
      { w.slot p x with state := .finished, result := resultWords e (w.slot p x).tooLate t fields,
                        tooLate := false, cancelPending := false, lockdownMark := false } := by
  simp only [Wall.finishAt]
  split
  · exact Wall.closeSlotAt_slot t p x .finished e fields w
  · exact Wall.closeSlotAt_slot t p x .finished e fields w

/-- The end of an order now changes the pages, the flag words and the lanes alone. -/
theorem Wall.finish_frame (p : PageId) (x : SlotId) (e : OrderEnd) (fields : List Word) (w : Wall) :
    w.finish p x e fields =
      { w with pages := (w.finish p x e fields).pages, flags := (w.finish p x e fields).flags, lanes := (w.finish p x e fields).lanes } :=
  Wall.finishAt_frame w.port.seconds p x e fields w

/-- The slot of an order finished now. -/
theorem Wall.finish_slot (p : PageId) (x : SlotId) (e : OrderEnd) (fields : List Word) (w : Wall) :
    (w.finish p x e fields).slot p x =
      { w.slot p x with state := .finished, result := resultWords e (w.slot p x).tooLate w.port.seconds fields,
                        tooLate := false, cancelPending := false, lockdownMark := false } :=
  Wall.finishAt_slot w.port.seconds p x e fields w

/-! ### Points (R141) -/

/-- After a block has set an internal point, its live state is the one set. -/
theorem Wall.setInternal_same {p : PointId} {b : Bool} (w : Wall) (h : (w.points.get p).live = b) : w.setInternal p b = w := by
  simp [Wall.setInternal, h]

/-! ### Bins (R116) -/

/-- The flags of a bin are recomputed: the bin's flags, the board and the lost count change alone. -/
theorem Wall.refreshBin_frame (k : BinId) (w : Wall) :
    w.refreshBin k =
      { w with bins := tabMod w.bins k fun b => { b with nearFull := b.isNearFull, full := b.isFull },
               board := (w.refreshBin k).board, lost := (w.refreshBin k).lost } := by
  simp only [Wall.refreshBin]
  split <;> split <;> (try rw [Wall.post_frame]) <;> (try rw [Wall.post_frame]) <;> rfl

/-- A credit raises the bin's count, saturating, and recomputes its flags; the board and the lost count may follow. -/
theorem Wall.creditBin_frame (k : BinId) (n : Nat) (w : Wall) :
    w.creditBin k n =
      { w with bins := (w.creditBin k n).bins, board := (w.creditBin k n).board, lost := (w.creditBin k n).lost } := by
  simp only [Wall.creditBin]
  rw [Wall.refreshBin_frame]
  rfl

theorem Wall.creditBin_count (k : BinId) (n : Nat) (w : Wall) :
    ((w.creditBin k n).bins.get k).count = min 65535 ((w.bins.get k).count + n) := by
  simp only [Wall.creditBin]
  rw [Wall.refreshBin_frame]
  simp [Wall.modBin, satAdd]

theorem Wall.creditBin_other {k j : BinId} (n : Nat) (w : Wall) (h : j ≠ k) : (w.creditBin k n).bins.get j = w.bins.get j := by
  simp only [Wall.creditBin]
  rw [Wall.refreshBin_frame]
  simp [Wall.modBin, tabMod_get_other _ _ h]

end Sys2Proof.Machine
end

