-- ==== Sys2Proof/Laws/Drawers.lean ====
section
/-! SUPPORT. The travels of a drawer: what a travel out or a close begins, what an owner's close and a lockdown's close can do, and what the stowed sensor's
clearing can do. -/

namespace Sys2Proof.Machine

/-- The drawer after a travel out has begun (R6; log 16). -/
@[simp] theorem Wall.startOpen_lane (n : LaneId) (w : Wall) :
    (w.startOpen n).lanes.get n =
      { w.lanes.get n with
          drawer := .opening, travel := .outward, budgetMs := 4000, stowedSensor := (w.lanes.get n).stowedSensor && w.held,
          leaving := (w.lanes.get n).leaving || (w.lanes.get n).stowedSensor } :=
  Wall.modLane_get_same n _ w

/-- A travel out touches its own lane alone. -/
theorem Wall.startOpen_frame (n : LaneId) (w : Wall) :
    (∀ m, m ≠ n → (w.startOpen n).lanes.get m = w.lanes.get m)
      ∧ w.startOpen n = { w with lanes := (w.startOpen n).lanes } :=
  ⟨fun _ h => Wall.modLane_get_other _ w h, rfl⟩

/-- The three things the stowed sensor's clearing can do: the driven drawer leaves the sensor, the undriven one is forced, or no report was due (R10). -/
theorem Wall.stowedClears_cases (n : LaneId) (w : Wall) :
    (w.drawerDriven n = true ∧ w.stowedClears n = w.modLane n fun l => { l with stowedSensor := false, leaving := false })
      ∨ (w.drawerDriven n = false
        ∧ w.stowedClears n = (w.modLane n fun l => { l with stowedSensor := false, leaving := false, forced := true }).refreshForced)
      ∨ ((w.lanes.get n).stowedSensor = false ∧ (w.lanes.get n).leaving = false ∧ w.stowedClears n = w) := by
  unfold Wall.stowedClears
  cases (w.lanes.get n).stowedSensor <;> cases (w.lanes.get n).leaving <;> cases w.drawerDriven n <;> simp

/-- The drawer after a close has begun (R14, R16, R18). -/
@[simp] theorem Wall.startClose_lane (n : LaneId) (cause : CloseCause) (w : Wall) :
    (w.startClose n cause).lanes.get n =
      { w.lanes.get n with
          drawer := .closing, travel := .inward, budgetMs := 4000, timerMs := 0, window := none, closeCause := cause, obstructed := false,
          extendedSensor := (w.lanes.get n).extendedSensor && w.held } :=
  Wall.modLane_get_same n _ w

/-- A close touches its own lane alone. -/
theorem Wall.startClose_frame (n : LaneId) (cause : CloseCause) (w : Wall) :
    (∀ m, m ≠ n → (w.startClose n cause).lanes.get m = w.lanes.get m)
      ∧ w.startClose n cause = { w with lanes := (w.startClose n cause).lanes } :=
  ⟨fun _ h => Wall.modLane_get_other _ w h, rfl⟩

/-- The three things an owner's close can do, by the drawer's state (R16). -/
theorem Wall.closeByOwner_cases (n : LaneId) (cause : CloseCause) (w : Wall) :
    (((w.lanes.get n).drawer = .offered ∨ (w.lanes.get n).drawer = .opening)
        ∧ w.closeByOwner n cause = (w.startClose n cause).modLane n fun l => { l with ownerClose := some cause })
      ∨ (((w.lanes.get n).drawer = .closing ∨ (w.lanes.get n).drawer = .lifting)
        ∧ w.closeByOwner n cause = w.modLane n fun l => { l with ownerClose := some cause })
      ∨ (((w.lanes.get n).drawer = .stowed ∨ (w.lanes.get n).drawer = .holding ∨ (w.lanes.get n).drawer = .jammed)
        ∧ w.closeByOwner n cause = w) := by
  unfold Wall.closeByOwner
  cases (w.lanes.get n).drawer <;> simp

/-- The three things lockdown can do to a drawer: its owner's close, R18's close alone, or nothing (R18, R102, R127). -/
theorem Wall.closeByLockdown_cases (n : LaneId) (w : Wall) :
    (w.ownerLocks n = true ∧ (w.lanes.get n).drawer ≠ .lifting ∧ w.closeByLockdown n = w.closeByOwner n .lockdown)
      ∨ (((w.lanes.get n).drawer = .offered ∨ (w.lanes.get n).drawer = .opening) ∧ w.closeByLockdown n = w.startClose n .lockdown)
      ∨ w.closeByLockdown n = w := by
  simp only [Wall.closeByLockdown]
  by_cases h : w.ownerLocks n = true ∧ (w.lanes.get n).drawer ≠ .lifting
  · exact .inl ⟨h.1, h.2, if_pos h⟩
  · rw [if_neg h]
    by_cases hd : (w.lanes.get n).drawer = .offered ∧ (w.lanes.get n).owner ≠ none ∨ (w.lanes.get n).drawer = .opening
    · exact .inr (.inl ⟨hd.imp And.left id, if_pos hd⟩)
    · exact .inr (.inr (if_neg hd))

end Sys2Proof.Machine
end

