-- ==== Sys2Proof/Laws/Evaluate.lean ====
section
/-! SUPPORT. The evaluations of a wall on which nothing waits, and the outcomes of the meanings that act on the wall. -/

namespace Sys2Proof.Machine

/-! ### A still wall -/

/-- What a still wall is: no slot POSTED, no order waiting for a drawer, no lane CLOSING. -/
theorem Wall.still_iff (w : Wall) :
    w.still = true ↔ (∀ p x, (w.slot p x).state ≠ .posted) ∧ ∀ n, (w.lanes.get n).waiting = [] ∧ (w.lanes.get n).state ≠ .closing := by
  have hp : ∀ p : PageId, p ∈ pageIds := by decide
  have hn : ∀ n : LaneId, n ∈ laneIds := by decide
  simp only [Wall.still, Bool.and_eq_true, List.all_eq_true, Bool.not_eq_true', beq_eq_false_iff_ne, List.isEmpty_iff]
  constructor
  · exact fun h => ⟨fun p x => h.1 p (hp p) x (hn x), fun n => h.2 n (hn n)⟩
  · exact fun h => ⟨fun p _ x _ => h.1 p x, fun n _ => h.2 n⟩

/-- On a still wall no drawer can be granted, no slot taken, no lane settled. -/
theorem Wall.still_evaluateOnce {w : Wall} (h : w.still = true) : w.evaluateOnce = none := by
  obtain ⟨hs, hl⟩ := (Wall.still_iff w).mp h
  have hd : w.nextDrawer = none := by
    simp only [Wall.nextDrawer, List.findSome?_eq_none_iff]
    intro n _
    simp only [Wall.nextGrant, (hl n).1, List.find?_nil]
    split <;> rfl
  have ht : w.nextTake = none := by
    simp only [Wall.nextTake, List.findSome?_eq_none_iff]
    intro p _
    have : (w.pages.get p).posting.find? (w.takeable p) = none := by
      rw [List.find?_eq_none]
      intro x _
      have : ((w.slot p x).state == SlotState.posted) = false := by simpa using hs p x
      simp [Wall.takeable, this]
    simp [this]
  have hc : laneIds.find? w.settles = none := by
    rw [List.find?_eq_none]
    intro n _
    have : ((w.lanes.get n).state == LaneState.closing) = false := by simpa using (hl n).2
    simp [Wall.settles, this]
  simp [Wall.evaluateOnce, hd, ht, hc]

/-- Evaluations stop where there is nothing to do. -/
theorem Wall.evaluateFor_none {w : Wall} (h : w.evaluateOnce = none) (k : Nat) : Wall.evaluateFor k w = w := by
  cases k with
  | zero => rfl
  | succ k => simp [Wall.evaluateFor, h]

/-- One evaluation that can be made is made. -/
theorem Wall.evaluateFor_some {w v : Wall} (h : w.evaluateOnce = some v) (k : Nat) :
    Wall.evaluateFor (k + 1) w = Wall.evaluateFor k v := by
  simp [Wall.evaluateFor, h]

/-- On a still wall the evaluations change nothing. -/
theorem Wall.still_evaluate {w : Wall} (h : w.still = true) : w.evaluate = w := Wall.evaluateFor_none (Wall.still_evaluateOnce h) 80

/-- A wall with the same slots, waiting lists and lane states is as still. -/
theorem Wall.still_congr {v w : Wall} (hp : ∀ p x, (v.slot p x).state = (w.slot p x).state)
    (hl : ∀ n, (v.lanes.get n).waiting = (w.lanes.get n).waiting ∧ (v.lanes.get n).state = (w.lanes.get n).state) (h : w.still = true) :
    v.still = true := by
  rw [Wall.still_iff] at h ⊢
  refine ⟨fun p x => by rw [hp]; exact h.1 p x, fun n => ?_⟩
  rw [(hl n).1, (hl n).2]
  exact h.2 n

/-- A wall with the same pages and lanes is as still. -/
theorem Wall.still_of_eq {v w : Wall} (hp : v.pages = w.pages) (hl : v.lanes = w.lanes) (h : w.still = true) : v.still = true :=
  Wall.still_congr (fun p x => by simp [Wall.slot, hp]) (fun n => by simp [hl]) h

/-- A property that every evaluation keeps is kept by the evaluations. -/
theorem Wall.evaluate_keeps {P : Wall → Prop} (h : ∀ v u, P v → v.evaluateOnce = some u → P u) {w : Wall} (hw : P w) : P w.evaluate := by
  have : ∀ k w, P w → P (Wall.evaluateFor k w) := by
    intro k
    induction k with
    | zero => exact fun w hw => hw
    | succ k ih =>
      intro w hw
      rcases e : w.evaluateOnce with _ | u
      · rw [Wall.evaluateFor_none e]; exact hw
      · rw [Wall.evaluateFor_some e]; exact ih u (h w u hw e)
  exact this 80 w hw

/-- The three things one evaluation can be: a settling; a grant where no lane settles; a taking where neither can be. -/
theorem Wall.evaluateOnce_cases {w u : Wall} (h : w.evaluateOnce = some u) :
    (∃ n, w.settles n = true ∧ u = w.settleLane n)
      ∨ ((∀ n, w.settles n = false)
        ∧ ((∃ n x, w.nextDrawer = some (n, x) ∧ u = w.grantDrawer n x)
          ∨ (w.nextDrawer = none ∧ ∃ p x, w.nextTake = some (p, x) ∧ u = w.take p x))) := by
  have hn : ∀ n : LaneId, n ∈ laneIds := by decide
  unfold Wall.evaluateOnce at h
  rcases hc : laneIds.find? w.settles with _ | n
  · refine .inr ⟨fun n => by simpa using List.find?_eq_none.mp hc n (hn n), ?_⟩
    rcases hd : w.nextDrawer with _ | ⟨n, x⟩
    · simp only [hc, hd, Option.map_eq_some_iff] at h
      obtain ⟨⟨p, x⟩, hp, rfl⟩ := h
      exact .inr ⟨rfl, p, x, hp, rfl⟩
    · simp only [hc, hd, Option.some.injEq] at h
      exact .inl ⟨n, x, rfl, h.symm⟩
  · simp only [hc, Option.some.injEq] at h
    exact .inl ⟨n, List.find?_some hc, h.symm⟩

/-! ### Outcomes -/

theorem State.onWall_next {s : State} (f : Wall → Wall) (h : s.supply = true) : s.onWall f = .next { s with wall := f s.wall } := by
  simp [State.onWall, h]

theorem State.onWall_off {s : State} (f : Wall → Wall) (h : s.supply = false) : s.onWall f = .next s := by simp [State.onWall, h]

theorem State.onBus_next {s : State} (f : Wall → Wall) (h : s.supply = true) :
    s.onBus f = .next { s with latch := none, wall := f s.wall } := by
  simp [State.onBus, h]

theorem State.onBus_off {s : State} (f : Wall → Wall) (h : s.supply = false) : s.onBus f = .next s := by simp [State.onBus, h]

/-- What a meaning that acts on the wall can answer. -/
theorem State.onWall_cases {s : State} {f : Wall → Wall} {o : Result} (h : s.onWall f = o) :
    (s.supply = true ∧ o = .next { s with wall := f s.wall }) ∨ (s.supply = false ∧ o = .next s) := by
  by_cases hs : s.supply = true
  · exact .inl ⟨hs, by rw [← h, State.onWall_next f hs]⟩
  · exact .inr ⟨by simpa using hs, by rw [← h, State.onWall_off f (by simpa using hs)]⟩

/-- What a bus access that acts on the wall can answer. -/
theorem State.onBus_cases {s : State} {f : Wall → Wall} {o : Result} (h : s.onBus f = o) :
    (s.supply = true ∧ o = .next { s with latch := none, wall := f s.wall }) ∨ (s.supply = false ∧ o = .next s) := by
  by_cases hs : s.supply = true
  · exact .inl ⟨hs, by rw [← h, State.onBus_next f hs]⟩
  · exact .inr ⟨by simpa using hs, by rw [← h, State.onBus_off f (by simpa using hs)]⟩

end Sys2Proof.Machine
end

