-- ==== Sys2Proof/Laws/Path.lean ====
section
/-! SUPPORT. The shared operations of the note path and of the points: when a grant evaluation, the end of a building tenure and a setting of an internal
point do nothing, and what the last does otherwise; what a RETRACT request and the end of a tenure leave. -/

namespace Sys2Proof.Machine

/-- A grant evaluation outside IDLE, or in hold, does nothing (R89). -/
theorem Wall.transportGrant_busy {w : Wall} (h : w.transport.state ≠ .idle ∨ w.held = true) : w.transportGrant = w := by
  unfold Wall.transportGrant
  rw [if_neg]
  rintro ⟨h1, h2⟩
  rcases h with h | h
  · exact h h1
  · rw [h2] at h; cases h

/-- A grant evaluation of an empty queue does nothing (R89). -/
theorem Wall.transportGrant_empty {w : Wall} (h : w.transport.queue = []) : w.transportGrant = w := by
  unfold Wall.transportGrant
  split
  · simp [h, Wall.tryRetracts]
  · rfl

/-- A RETRACT request joins the queue at its tail, and the bundle record shows it QUEUED; nothing else changes (R108). -/
theorem Wall.queueRetract_eq (w : Wall) (n : LaneId) :
    w.queueRetract n =
      { w with
          transport := { w.transport with queue := w.transport.queue ++ [{ lane := n, kind := .retract }] },
          lanes := (w.modBundle n fun b => { b with phase := .queued }).lanes } := rfl

/-- A tenure that ends makes the path IDLE without a join, keeps the queue, and takes accept enable away (R95, R97). -/
theorem Wall.endTenure_path (w : Wall) :
    w.endTenure.transport = { w.transport with state := .idle, join := .none }
      ∧ w.endTenure.gate = { w.gate with acceptEnable := false } := by
  unfold Wall.endTenure Wall.writeBack
  cases w.engine.loaded <;> exact ⟨rfl, rfl⟩

/-- While a watched piece is on its way, a building tenure does not end (R94). -/
theorem Wall.checkEnding_watching {w : Wall} (h : w.transport.watch ≠ []) : w.checkEnding = w := by
  have hs : w.pathSettled = false := by
    cases hw : w.transport.watch with
    | nil => exact absurd hw h
    | cons e rest => simp [Wall.pathSettled, hw]
  unfold Wall.checkEnding
  split
  · split
    · rw [if_neg]; rintro ⟨_, _, h', _⟩; rw [hs] at h'; cases h'
    · rfl
  · rfl

/-- Outside GRANTED no building tenure ends. -/
theorem Wall.checkEnding_ungranted {w : Wall} (h : w.transport.state ≠ .granted) : w.checkEnding = w := by
  unfold Wall.checkEnding
  split
  · split
    · rw [if_neg]; rintro ⟨h', _⟩; exact h h'
    · rfl
  · rfl

/-- Where the belt stands still the time without a pulse is set to 0, and nothing else changes (R79). -/
theorem Wall.restartSilence_eq (w : Wall) :
    w.restartSilence =
      { w with transport := { w.transport with silentMs := if w.beltDriven then w.transport.silentMs else 0 } } := by
  unfold Wall.restartSilence
  cases h : w.beltDriven <;> rfl

/-- What makes the belt stand: hold, or the forced drawer of the retract that holds the join (R103, R112). -/
theorem Wall.beltStands_iff (w : Wall) :
    w.beltStands = true ↔ w.held = true ∨ ∃ n, w.transport.join = .retract n ∧ (w.lanes.get n).forced = true := by
  unfold Wall.beltStands Wall.retractStands
  cases w.transport.join <;> simp

/-- When a re-mix finds a mix, and which (R59): the order is by AMOUNT, its routed notes exceed neither its value nor the note limit, and the mix is R56's of the rest. -/
theorem Wall.remixMix_eq_some {w : Wall} {x : Slot} {routed v : Counts} :
    w.remixMix x routed = some v ↔
      x.param 0 = 0 ∧ w.valueOf routed ≤ x.param 1 ∧ Counts.total routed ≤ w.noteLimit
        ∧ w.chooseMix (x.param 1 - w.valueOf routed) (w.noteLimit - Counts.total routed) = some v := by
  unfold Wall.remixMix
  split <;> rename_i h
  · simp [h]
  · simp only [false_iff, reduceCtorEq]
    exact fun h' => h ⟨h'.1, h'.2.1, h'.2.2.1⟩

/-- A member point of a SUPERVISORY zone going ACTIVE makes no zone act (R145). -/
theorem Wall.zoneReact_supervisory {w : Wall} {z : ZoneId} (p : PointId) (h : (w.zones.get z).mode = .supervisory) : w.zoneReact z p = w := by
  unfold Wall.zoneReact
  simp only [h]

/-- What a setting of an internal point of a SUPERVISORY zone does: nothing where its live state is the one set, a live change otherwise (R141, R142).
Points 12 to 15 lie behind no bin's door. -/
theorem Wall.setInternal_cases {w : Wall} {p : PointId} (b : Bool) (hp : 12 ≤ p.val) (hz : w.supervised p) :
    ((w.points.get p).live = b ∧ w.setInternal p b = w)
      ∨ ((w.points.get p).live ≠ b ∧ w.setInternal p b = w.modPoint p (Point.change b)) := by
  by_cases h : (w.points.get p).live = b
  · exact .inl ⟨h, Wall.setInternal_same w h⟩
  · refine .inr ⟨h, ?_⟩
    have h0 : p ≠ 0 := by rintro rfl; exact absurd hp (by decide)
    have h2 : p ≠ 2 := by rintro rfl; exact absurd hp (by decide)
    have hz' : ((w.modPoint p (Point.change b)).zones.get (w.points.get p).zone).mode = .supervisory := hz
    cases b
    · simp [Wall.setInternal, h, Wall.changeLive]
    · simp only [Wall.setInternal, h, if_false, Wall.changeLive, if_true, Wall.markDoors, h0, h2]
      exact Wall.zoneReact_supervisory p hz'

/-- When the test of a sweep has one to test: a granted retract in its sweep (R110). -/
theorem Wall.retractIn_eq_some {w : Wall} {ph : RetractPhase} {n : LaneId} :
    w.retractIn ph = some n ↔ w.transport.join = .retract n ∧ w.transport.state = .granted ∧ (w.lanes.get n).bundle.phase = ph := by
  unfold Wall.retractIn
  cases w.transport.join with
  | retract m =>
    simp only [Option.ite_none_right_eq_some, Option.some.injEq, Join.retract.injEq]
    exact ⟨by rintro ⟨h, rfl⟩; exact ⟨rfl, h⟩, by rintro ⟨rfl, h⟩; exact ⟨h, rfl⟩⟩
  | _ => simp

/-- All that the test of a sweep changes is what has been found of it (R110, R111; log 72). -/
theorem Wall.testSweep_eq (w : Wall) : ∃ f, w.testSweep = { w with transport := { w.transport with sweepFound := f } }
    ∧ (w.transport.sweepFound ≠ .none ∨ w.retractIn .sweeping = none → f = w.transport.sweepFound)
    ∧ ∀ n, w.retractIn .sweeping = some n → w.transport.sweepFound = .none →
      f = if (w.lanes.get n).itemSensor then (if 2000 ≤ w.transport.quiet then .lodged else .none)
          else if 800 ≤ w.transport.quiet then .clear else .none := by
  unfold Wall.testSweep
  split
  · split
    · refine ⟨_, rfl, ?_, ?_⟩ <;> simp_all
    · exact ⟨_, rfl, fun _ => rfl, by simp_all⟩
  · exact ⟨_, rfl, fun _ => rfl, by simp_all⟩

end Sys2Proof.Machine
end

