-- ==== Sys2Proof/Laws/Lockdown.lean ====
section
/-! SUPPORT. What the ends of orders, the grants and the entry of lockdown may touch (R18, R102, R127, R154), what a zone does as a member point goes ACTIVE
(R146 to R149), and on what a board post depends. -/

namespace Sys2Proof.Machine

/-- Two walls whose records of the conveyor, the bins, the points, the zones and the alarm agree, and the port with them. -/
def Wall.OrdersFrame (w v : Wall) : Prop :=
  v =
    { w with
        pages := v.pages, flags := v.flags, lanes := v.lanes, engine := v.engine, cassettes := v.cassettes, gate := v.gate,
        transport := v.transport, board := v.board, lost := v.lost }

theorem Wall.OrdersFrame.trans {a b c : Wall} (h : a.OrdersFrame b) (h' : b.OrdersFrame c) : a.OrdersFrame c := by
  unfold Wall.OrdersFrame at *
  rw [h] at h'
  rw [h']

/-- From one wall to the next orders have ended or been granted, and news posted: the records of every other block stand, the lanes keep their state and pocket, and
the cassettes all but their reserved counts. -/
structure Wall.OrdersMove (w v : Wall) : Prop where
  frame : w.OrdersFrame v
  lane : ∀ m, (v.lanes.get m).state = (w.lanes.get m).state ∧ (v.lanes.get m).pocket = (w.lanes.get m).pocket
  cassette : ∀ c, { v.cassettes.get c with reserved := 0 } = { w.cassettes.get c with reserved := 0 }

theorem Wall.OrdersMove.trans {a b c : Wall} (h : a.OrdersMove b) (h' : b.OrdersMove c) : a.OrdersMove c where
  frame := h.frame.trans h'.frame
  lane m := ⟨(h'.lane m).1.trans (h.lane m).1, (h'.lane m).2.trans (h.lane m).2⟩
  cassette c := (h'.cassette c).trans (h.cassette c)

/-- A wall that differs from another in pages, flags, engine, gate, transport and board alone. -/
theorem Wall.OrdersMove.of {w v : Wall}
    (h : v =
      { w with
          pages := v.pages, flags := v.flags, engine := v.engine, gate := v.gate, transport := v.transport, board := v.board, lost := v.lost }) :
    w.OrdersMove v := by
  rw [h]
  exact ⟨rfl, fun _ => ⟨rfl, rfl⟩, fun _ => rfl⟩

theorem Wall.OrdersMove.refl (w : Wall) : w.OrdersMove w := .of rfl

theorem Wall.modLane_ordersMove (n : LaneId) (f : Lane → Lane) (w : Wall)
    (hf : ∀ l : Lane, (f l).state = l.state ∧ (f l).pocket = l.pocket) : w.OrdersMove (w.modLane n f) := by
  refine ⟨rfl, fun m => ?_, fun _ => rfl⟩
  simp only [Wall.modLane, tabMod_get]
  split
  · rename_i h; subst h; exact hf _
  · exact ⟨rfl, rfl⟩

theorem Wall.modBundle_ordersMove (n : LaneId) (f : BundleRecord → BundleRecord) (w : Wall) : w.OrdersMove (w.modBundle n f) :=
  Wall.modLane_ordersMove n _ w fun _ => ⟨rfl, rfl⟩

theorem Wall.modEngine_ordersMove (f : Engine → Engine) (w : Wall) : w.OrdersMove (w.modEngine f) := .of rfl

theorem Wall.post_ordersMove (k : News) (d : Nat) (w : Wall) : w.OrdersMove (w.post k d) := .of (by rw [Wall.post_frame])

theorem Wall.finishAt_ordersMove (t : DWord) (p : PageId) (x : SlotId) (e : OrderEnd) (f : List Word) (w : Wall) :
    w.OrdersMove (w.finishAt t p x e f) := by
  unfold Wall.finishAt
  dsimp only
  have h : w.OrdersMove (w.closeSlotAt t p x .finished e f) := .of (by rw [Wall.closeSlotAt_frame])
  split
  · exact h.trans (Wall.modLane_ordersMove _ _ _ fun _ => ⟨rfl, rfl⟩)
  · exact h

theorem Wall.modContext_ordersMove (n : LaneId) (f : DispenseContext → DispenseContext) (w : Wall) : w.OrdersMove (w.modContext n f) := by
  unfold Wall.modContext
  split
  · exact .refl w
  split
  · split <;> exact .of rfl
  · exact .of rfl

theorem Wall.writeBack_ordersMove (w : Wall) : w.OrdersMove w.writeBack := by
  unfold Wall.writeBack
  split <;> exact .of rfl

theorem Wall.releaseOutstanding_ordersMove (n : LaneId) (w : Wall) : w.OrdersMove (w.releaseOutstanding n) := by
  unfold Wall.releaseOutstanding
  split
  · exact Wall.OrdersMove.trans (b := w.unreserve _) ⟨rfl, fun _ => ⟨rfl, rfl⟩, fun c => by simp [Wall.unreserve]⟩
      (Wall.modContext_ordersMove _ _ _)
  · exact .refl w

/-- The end of a DISPENSE (R105). -/
theorem Wall.finishDispenseAt_ordersMove (d : Decision) (n : LaneId) (jammed : Bool) (w : Wall) :
    w.OrdersMove (w.finishDispenseAt d n jammed) := by
  unfold Wall.finishDispenseAt
  split
  · dsimp only
    have fin : ∀ (v : Wall) t p x e f, v.OrdersMove (((v.finishAt t p x e f).modLane n fun l =>
        { l with duress := l.duress || d.duress, bundle := { l.bundle with slot := none, phase := .none } }).modEngine fun e =>
        { e with tallies := tabSet e.tallies n none }) := fun v t p x e f => by
      refine .trans ?_ (Wall.modEngine_ordersMove _ _)
      refine .trans (Wall.finishAt_ordersMove t p x e f v) (Wall.modLane_ordersMove n _ _ ?_)
      exact fun _ => ⟨rfl, rfl⟩
    refine (Wall.releaseOutstanding_ordersMove n w).trans ?_
    split
    · exact (Wall.writeBack_ordersMove _).trans (fin _ _ _ _ _ _)
    · exact fin _ _ _ _ _ _
  · exact .refl w

theorem Wall.finishDispense_ordersMove (n : LaneId) (jammed : Bool) (w : Wall) : w.OrdersMove (w.finishDispense n jammed) :=
  Wall.finishDispenseAt_ordersMove _ n jammed w

theorem Wall.grantBundle_ordersMove (n : LaneId) (w : Wall) : w.OrdersMove (w.grantBundle n) := by
  unfold Wall.grantBundle
  dsimp only
  split
  · exact .of rfl
  split
  · exact .of rfl
  split <;> exact .of rfl

theorem Wall.grantRetract_ordersMove (n : LaneId) (d : Destination) (w : Wall) : w.OrdersMove (w.grantRetract n d) := by
  unfold Wall.grantRetract
  dsimp only
  refine .trans (.of ?_) (Wall.modBundle_ordersMove _ _ _)
  rfl

theorem Wall.tryRetracts_ordersMove (q : List Request) (w : Wall) : w.OrdersMove (Wall.tryRetracts q w).1 := by
  induction q generalizing w with
  | nil => exact .refl w
  | cons r t ih =>
    unfold Wall.tryRetracts
    split
    · exact ih w
    · split
      · exact (Wall.grantRetract_ordersMove _ _ _).trans (Wall.post_ordersMove _ _ _)
      · exact Wall.grantRetract_ordersMove _ _ _
      · exact ((Wall.modBundle_ordersMove _ _ _).trans (Wall.post_ordersMove _ _ _)).trans (ih _)

/-- The grant evaluation (R89). -/
theorem Wall.transportGrant_ordersMove (w : Wall) : w.OrdersMove w.transportGrant := by
  unfold Wall.transportGrant
  split
  · have h := Wall.tryRetracts_ordersMove w.transport.queue w
    dsimp only
    split
    · exact h
    · split
      · exact h.trans (Wall.grantBundle_ordersMove _ _)
      · exact h
  · exact .refl w

theorem Wall.endEmpty_ordersMove (n : LaneId) (w : Wall) : w.OrdersMove (w.endEmpty n) := by
  unfold Wall.endEmpty Wall.endTenure
  exact ((Wall.writeBack_ordersMove w).trans (.of rfl)).trans (Wall.finishDispense_ordersMove n false _)

theorem Wall.checkEnding_ordersMove (w : Wall) : w.OrdersMove w.checkEnding := by
  unfold Wall.checkEnding
  split
  · split
    · split
      · exact (Wall.endEmpty_ordersMove _ _).trans (Wall.transportGrant_ordersMove _)
      · exact .refl w
    · exact .refl w
  · exact .refl w

/-- The begin of a DISPENSE's end (R94, R101, R102). -/
theorem Wall.beginEnd_ordersMove (n : LaneId) (cause : EndCause) (w : Wall) : w.OrdersMove (w.beginEnd n cause) := by
  unfold Wall.beginEnd
  have h : w.OrdersMove ((w.modContext n fun x => { x with endCause := cause }).modTally n fun t => { t with remixWait := false }) :=
    (Wall.modContext_ordersMove n _ w).trans (.of rfl)
  dsimp only
  split
  · split
    · exact (h.trans (.of rfl)).trans (Wall.checkEnding_ordersMove _)
    · exact h
  · exact h

theorem Wall.lockdownDispense_ordersMove (n : LaneId) (w : Wall) : w.OrdersMove (w.lockdownDispense n) := by
  unfold Wall.lockdownDispense
  split
  · exact .refl w
  split
  · exact .refl w
  have h := Wall.beginEnd_ordersMove n .lockdown w
  split
  · exact h.trans (Wall.finishDispense_ordersMove _ _ _)
  · exact (h.trans (Wall.OrdersMove.of (v := Wall.dropRequest n .bundle _) rfl)).trans (Wall.finishDispense_ordersMove _ _ _)
  all_goals first | exact h | exact .refl w

theorem Wall.lockdownDeposit_ordersMove (n : LaneId) (w : Wall) : w.OrdersMove (w.lockdownDeposit n) := by
  unfold Wall.lockdownDeposit
  split
  · exact .refl w
  dsimp only
  split
  · exact .of rfl
  · exact Wall.finishAt_ordersMove _ _ _ _ _ _

theorem Wall.closeByLockdown_ordersMove (n : LaneId) (w : Wall) : w.OrdersMove (w.closeByLockdown n) := by
  have close : ∀ cause (v : Wall), v.OrdersMove (v.startClose n cause) := fun _ v => Wall.modLane_ordersMove n _ v fun _ => ⟨rfl, rfl⟩
  have ask : ∀ v : Wall, v.OrdersMove (v.modLane n fun l => { l with ownerClose := some .lockdown }) := fun v =>
    Wall.modLane_ordersMove n _ v fun _ => ⟨rfl, rfl⟩
  unfold Wall.closeByLockdown
  dsimp only
  split
  · rcases Wall.closeByOwner_cases n .lockdown w with ⟨_, h⟩ | ⟨_, h⟩ | ⟨_, h⟩ <;> rw [h]
    · exact (close _ _).trans (ask _)
    · exact ask _
    · exact .refl w
  · split
    · exact close _ _
    · exact .refl w

/-- What lockdown does to one lane beyond its orders (R18): an OPEN lane becomes CLOSING. -/
theorem Wall.lockdownLane_ordersMove (n : LaneId) (w : Wall) :
    (w.modLane n fun l => { l with state := if l.state = LaneState.opened then LaneState.closing else l.state }).OrdersMove (w.lockdownLane n) := by
  unfold Wall.lockdownLane
  exact ((Wall.lockdownDispense_ordersMove n _).trans (Wall.lockdownDeposit_ordersMove n _)).trans (Wall.closeByLockdown_ordersMove n _)

theorem Wall.OrdersMove.frame_modLane {n : LaneId} {f : Lane → Lane} {w v : Wall} (h : (w.modLane n f).OrdersMove v) : w.OrdersFrame v :=
  Wall.OrdersFrame.trans (b := w.modLane n f) rfl h.frame

/-- The lockdown of four lanes, one after the other. -/
theorem Wall.OrdersMove.lanes {f : Lane → Lane} (hf : ∀ l : Lane, (f l).pocket = l.pocket) {w w0 w1 w2 w3 : Wall}
    (h0 : (w.modLane 0 f).OrdersMove w0) (h1 : (w0.modLane 1 f).OrdersMove w1) (h2 : (w1.modLane 2 f).OrdersMove w2)
    (h3 : (w2.modLane 3 f).OrdersMove w3) (hs : ∀ l k : Lane, l.state = k.state → (f l).state = (f k).state) :
    Wall.OrdersMove { w with lanes := tabMap w.lanes fun _ l => f l } w3 := by
  refine ⟨?_, fun m => ?_, fun c => (((h3.cassette c).trans (h2.cassette c)).trans (h1.cassette c)).trans (h0.cassette c)⟩
  · have h := ((Wall.OrdersMove.frame_modLane h0).trans (Wall.OrdersMove.frame_modLane h1)).trans
      ((Wall.OrdersMove.frame_modLane h2).trans (Wall.OrdersMove.frame_modLane h3))
    unfold Wall.OrdersFrame at h ⊢
    rw [h]
  · have a0 := h0.lane m
    have a1 := h1.lane m
    have a2 := h2.lane m
    have a3 := h3.lane m
    simp only [Wall.modLane, tabMod_get, tabMap_get] at *
    have : m = 0 ∨ m = 1 ∨ m = 2 ∨ m = 3 := by fin_cases m <;> simp
    rcases this with rfl | rfl | rfl | rfl
    all_goals
      simp only [Fin.reduceEq, if_true, if_false, hf] at *
      refine ⟨?_, by simp only [a3.2, a2.2, a1.2, a0.2]⟩
    · rw [a3.1, a2.1, a1.1, a0.1]
    · rw [a3.1, a2.1, a1.1, hs _ _ a0.1]
    · rw [a3.1, a2.1, hs _ _ (a1.1.trans a0.1)]
    · rw [a3.1, hs _ _ (a2.1.trans (a1.1.trans a0.1))]

/-- The wall as lockdown leaves its lanes: every lane keeps its pocket, an OPEN one is CLOSING, and the orders have moved (R18). -/
theorem Wall.eachLockdown_spec (w : Wall) :
    Wall.OrdersMove { w with lanes := tabMap w.lanes fun _ l => { l with state := if l.state = LaneState.opened then LaneState.closing else l.state } }
      (w.eachLane Wall.lockdownLane) := by
  unfold Wall.eachLane laneIds
  simp only [List.foldl_cons, List.foldl_nil]
  exact Wall.OrdersMove.lanes (f := fun l => { l with state := if l.state = LaneState.opened then LaneState.closing else l.state }) (fun _ => rfl)
    (Wall.lockdownLane_ordersMove 0 w) (Wall.lockdownLane_ordersMove 1 _) (Wall.lockdownLane_ordersMove 2 _) (Wall.lockdownLane_ordersMove 3 _)
    fun _ _ h => by simp only [h]

/-- An entry of lockdown that finds none in force (R154). -/
theorem Wall.enterLockdown_eq (z : ZoneId) {w : Wall} (h : w.lockdown = false) :
    w.enterLockdown z = ((w.modAlarm fun a =>
      { a with lockdown := true, lockdownZone := some z, lockdownStart := w.port.seconds }).post .lockdownOn z.val).eachLane Wall.lockdownLane := by
  unfold Wall.enterLockdown
  simp [h]

/-- An entry of lockdown that finds it in force changes nothing (R154). -/
theorem Wall.enterLockdown_inForce (z : ZoneId) {w : Wall} (h : w.lockdown = true) : w.enterLockdown z = w := by
  unfold Wall.enterLockdown
  simp [h]

/-- The three things a zone can do as a member point goes ACTIVE: ALARM, ENTRY DELAY, or nothing (R146, R147, R148). -/
theorem Wall.zoneReact_eq (z : ZoneId) (p : PointId) (w : Wall) :
    w.zoneReact z p =
      if (w.zones.get z).alarmedBy (w.points.get p).entryDelay = true then w.zoneAlarm z p
      else if (w.zones.get z).mode = .armable ∧ (w.zones.get z).state = .armed then
        w.modZone z fun x => { x with state := .entryDelay, entryMs := x.entryDelay * 1000, trigger := some p }
      else w := by
  unfold Wall.zoneReact Zone.alarmedBy
  cases hm : (w.zones.get z).mode <;> cases hs : (w.zones.get z).state <;> cases hd : (w.points.get p).entryDelay <;>
    simp [hm, hs]
  by_cases h : (w.zones.get z).entryDelay = 0
  · simp [h]
  · simp [h, Nat.pos_of_ne_zero h]

/-- What a post leaves on the board depends on the board, the lost posts and the port alone (R164, R166). -/
theorem Wall.post_congr (k : News) (d : Nat) {v w : Wall} (h1 : v.board = w.board) (h2 : v.lost = w.lost) (h3 : v.port = w.port) :
    (v.post k d).board = (w.post k d).board ∧ (v.post k d).lost = (w.post k d).lost := by
  cases v
  cases w
  simp only at h1 h2 h3
  subst h1 h2 h3
  unfold Wall.post Wall.entryOf Wall.freeEntry
  dsimp only
  constructor <;> (split <;> [rfl; (split <;> rfl)])

end Sys2Proof.Machine
end

