-- ==== Sys2Proof/Laws/Memory.lean ====
section
/-! SUPPORT. The general area: a read after a write, and that a write keeps the canonical form. -/

namespace Sys2Proof.Machine

theorem Memory.wf_iff (m : List (Nat × Word)) :
    Memory.wf m = true ↔ m.Pairwise (fun x y => x.1 < y.1) ∧ ∀ e ∈ m, e.2 ≠ 0#16 := by
  simp [Memory.wf]

theorem Memory.reset_wf : Memory.wf State.reset.memory = true := by decide

/-- What an insertion lists. -/
theorem Memory.mem_insert (m : List (Nat × Word)) (a : Nat) (x : Word) (e : Nat × Word) :
    e ∈ Memory.insert m a x ↔ e = (a, x) ∨ e ∈ m := by
  induction m with
  | nil => simp [Memory.insert]
  | cons b rest ih =>
    obtain ⟨b, y⟩ := b
    simp only [Memory.insert]
    split
    · simp
    · simp only [List.mem_cons, ih]
      tauto

/-- What is listed with an address dropped. -/
theorem Memory.mem_drop (m : List (Nat × Word)) (a : Nat) (e : Nat × Word) : e ∈ Memory.drop m a ↔ e ∈ m ∧ e.1 ≠ a := by
  simp [Memory.drop]

theorem Memory.drop_pairwise {m : List (Nat × Word)} (a : Nat) (h : m.Pairwise fun x y => x.1 < y.1) :
    (Memory.drop m a).Pairwise fun x y => x.1 < y.1 :=
  h.filter _

/-- An insertion at an address not listed keeps the addresses rising. -/
theorem Memory.insert_pairwise {m : List (Nat × Word)} (a : Nat) (x : Word) (h : m.Pairwise fun x y => x.1 < y.1)
    (ha : ∀ e ∈ m, e.1 ≠ a) : (Memory.insert m a x).Pairwise fun x y => x.1 < y.1 := by
  induction m with
  | nil => simp [Memory.insert]
  | cons b rest ih =>
    obtain ⟨b, y⟩ := b
    have hb : b ≠ a := ha (b, y) (by simp)
    have hr := List.pairwise_cons.mp h
    simp only [Memory.insert]
    split
    · next hlt =>
      refine List.pairwise_cons.mpr ⟨?_, h⟩
      intro e he
      rcases List.mem_cons.mp he with rfl | he
      · exact hlt
      · exact lt_trans hlt (hr.1 e he)
    · next hge =>
      refine List.pairwise_cons.mpr ⟨?_, ih hr.2 fun e he => ha e (by simp [he])⟩
      intro e he
      rcases (Memory.mem_insert rest a x e).mp he with rfl | he
      · show b < a; omega
      · exact hr.1 e he

/-- A write keeps the canonical form. -/
theorem Memory.write_wf {m : List (Nat × Word)} (a : Nat) (x : Word) (h : Memory.wf m = true) : Memory.wf (Memory.write m a x) = true := by
  rw [Memory.wf_iff] at h ⊢
  simp only [Memory.write]
  split
  · exact ⟨Memory.drop_pairwise a h.1, fun e he => h.2 e ((Memory.mem_drop m a e).mp he).1⟩
  · next hx =>
    refine ⟨Memory.insert_pairwise a x (Memory.drop_pairwise a h.1) fun e he => ((Memory.mem_drop m a e).mp he).2, ?_⟩
    intro e he
    rcases (Memory.mem_insert _ a x e).mp he with rfl | he
    · exact hx
    · exact h.2 e ((Memory.mem_drop m a e).mp he).1

theorem Memory.read_insert_same (m : List (Nat × Word)) (a : Nat) (x : Word) (h : ∀ e ∈ m, e.1 ≠ a) :
    Memory.read (Memory.insert m a x) a = x := by
  induction m with
  | nil => simp [Memory.insert, Memory.read]
  | cons b rest ih =>
    obtain ⟨b, y⟩ := b
    have hb : b ≠ a := h (b, y) (by simp)
    simp only [Memory.insert]
    split
    · simp [Memory.read]
    · simp only [Memory.read, hb, if_false]
      exact ih fun e he => h e (by simp [he])

theorem Memory.read_insert_other (m : List (Nat × Word)) {a b : Nat} (x : Word) (h : b ≠ a) :
    Memory.read (Memory.insert m a x) b = Memory.read m b := by
  induction m with
  | nil => simp [Memory.insert, Memory.read, Ne.symm h]
  | cons c rest ih =>
    obtain ⟨c, y⟩ := c
    simp only [Memory.insert]
    split
    · simp [Memory.read, Ne.symm h]
    · simp only [Memory.read, ih]

/-- Dropping an address, entry by entry. -/
theorem Memory.drop_cons (b : Nat) (y : Word) (rest : List (Nat × Word)) (a : Nat) :
    Memory.drop ((b, y) :: rest) a = if b = a then Memory.drop rest a else (b, y) :: Memory.drop rest a := by
  by_cases h : b = a <;> simp [Memory.drop, h]

theorem Memory.read_drop_same (m : List (Nat × Word)) (a : Nat) : Memory.read (Memory.drop m a) a = 0#16 := by
  induction m with
  | nil => rfl
  | cons c rest ih =>
    rw [Memory.drop_cons]
    split
    · exact ih
    · next h => simp only [Memory.read, h, if_false, ih]

theorem Memory.read_drop_other (m : List (Nat × Word)) {a b : Nat} (h : b ≠ a) : Memory.read (Memory.drop m a) b = Memory.read m b := by
  induction m with
  | nil => rfl
  | cons c rest ih =>
    obtain ⟨c, y⟩ := c
    rw [Memory.drop_cons]
    split
    · next e => simp only [Memory.read, ih, e, Ne.symm h, if_false]
    · simp only [Memory.read, ih]

/-- A read of the written address gives the written word. -/
theorem Memory.read_write_same (m : List (Nat × Word)) (a : Nat) (x : Word) : Memory.read (Memory.write m a x) a = x := by
  simp only [Memory.write]
  split
  · next h => rw [Memory.read_drop_same, h]
  · exact Memory.read_insert_same _ a x fun e he => ((Memory.mem_drop m a e).mp he).2

/-- A read of any other address gives what it gave before. -/
theorem Memory.read_write_other (m : List (Nat × Word)) {a b : Nat} (x : Word) (h : b ≠ a) :
    Memory.read (Memory.write m a x) b = Memory.read m b := by
  simp only [Memory.write]
  split
  · exact Memory.read_drop_other m h
  · rw [Memory.read_insert_other _ x h, Memory.read_drop_other m h]

end Sys2Proof.Machine
end

