-- ==== Sys2Proof/Tests/Slice0.lean ====
section
/-! SUPPORT. Small tests of the model, and for every statement with hypotheses a named theorem that a concrete state meets them together. -/

namespace Sys2Proof.Tests

set_option Elab.async false

open Sys2Proof Sys2Proof.Machine

/-! ### States -/

/-- A profile with the denominations 100, 50, 20 and 10 and no lane locked out. -/
def profile : Vector Word 64 :=
  let p := tabSet (tabSet (tabSet (tabSet (tabSet defaultProfile 0 100#16) 6 50#16) 12 20#16) 18 10#16) 36 0#16
  tabSet p 63 (profileCheck p)

/-- A RUNNING wall after its start-up clearances, with counted cassettes and lane 0 OPEN. -/
def readyWall : Wall :=
  let w := { Wall.reset with
               transport := { Transport.reset with state := .idle }, conveyor := { Conveyor.reset with state := .idle },
               port := { Port.reset with running := true, startUpMark := false, transportReady := true, conveyorReady := true },
               profile := { ProfileStore.reset with stored := profile, active := profile, image := profile },
               cassettes := Vector.replicate 4 { Cassette.reset with state := .inService, loaded := 400 },
               lanes := Vector.replicate 4 { Lane.reset with state := .closed } }
  w.modLane 0 fun l => { l with state := .opened }

/-- The machine with that wall changed by `f`. -/
def at' (f : Wall → Wall) : State := { State.reset with wall := f readyWall }

/-- An order in a slot, in a state. -/
def order (p : PageId) (x : SlotId) (k : Kind) (st : SlotState) (params : List Word) (w : Wall) : Wall :=
  w.modSlot p x fun y => { y with state := st, body := orderBody k 0#16 params }

/-- An envelope order in slot 2 of lane 0 that owns its drawer. -/
def owning (k : Kind) (w : Wall) : Wall := (order 0 2 k .running [] w).modLane 0 fun l => { l with owner := some 2 }

/-- The drawer of lane 0 in a state, a travel and a cycle. -/
def drawer (d : DrawerState) (t : Travel) (c : Cycle) (w : Wall) : Wall := w.modLane 0 fun l => { l with drawer := d, travel := t, cycle := c }

/-- A context that owes three notes of cassette 0. -/
def context (p : Phase) : DispenseContext :=
  { phase := p, acceptance := 1, outstanding := #v[3, 0, 0, 0], routed := Counts.zero, rejects := 0, bundles := 0, target := 3, inDrawer := 2,
    final := false, takenLate := false, endCause := .none, remixes := 0 }

/-- The tally of an order for three notes of cassette 0. -/
def tally : Tally :=
  { chosen := #v[3, 0, 0, 0], accepted := 0, purged := 0, presented := Counts.zero, rejected := 0, taken := 0, retracted := 0, foreign := 0,
    unresolved := 0, duress := false, remixWait := false, faulted := false, bundleLeft := false }

/-- A DISPENSE of 300 in slot 1 of lane 0 that owns the drawer, with a context. -/
def dispensing (c : DispenseContext) (w : Wall) : Wall :=
  let w1 := (order 0 1 .dispense .running [0#16, 300#16] w).modSlot 0 1 fun y => { y with context := some c }
  let w2 := (w1.modLane 0 fun l => { l with owner := some 1 }).modCassette 0 fun x => { x with reserved := 3 }
  w2.modEngine fun e => { e with tallies := tabSet e.tallies 0 (some tally) }

/-- That DISPENSE holding the transport. -/
def tenure (c : DispenseContext) (w : Wall) : Wall :=
  ((dispensing c w).modEngine fun e => { e with loaded := some { lane := 0, slot := 1, context := c } }).modTransport fun t =>
    { t with state := .granted, join := .dispense 0 }

/-- A passage from cassette 0 that the gate has measured as a single for the stacker. -/
def single : Passage :=
  { seq := 7, source := .cassette 0, fromPick := true, gap := 200, reached := false,
    measure := some { length := 624, thickness := 120, cls := .single, estimate := 1, route := .stacker } }

/-- A watched piece. -/
def watched (seq : Nat) (settled : Option (Nat × Route)) (travel : Nat) : WatchEntry :=
  { seq := seq, source := .cassette 0, settled := settled, travel := travel }

/-- A RETRACT in slot 3 of lane 0 that holds the transport, in a phase, after a quiet distance. -/
def retracting (ph : RetractPhase) (quiet : Nat) (w : Wall) : Wall :=
  let w1 := (order 0 3 .retract .running [] w).modLane 0 fun l =>
    { l with owner := some 3, drawer := .holding, bundle := { l.bundle with phase := ph, dest := .retractBin, pieces := 2, toRetract := 2 } }
  w1.modTransport fun t => { t with state := .granted, join := .retract 0, quiet := quiet }

/-- The pocket of lane 0 HELD with its timer running. -/
def held (w : Wall) : Wall := w.pocketHeld 0

/-- The envelope of lane 0, claimed by a CAPTURE in slot 3, queued or on the conveyor. -/
def capturing (queued : Bool) (w : Wall) : Wall :=
  let w1 := (order 0 3 .capture (if queued then .accepted else .running) [] w).pocketMove 0 (if queued then .captureWait else .capturing) (some 3)
  w1.modConveyor fun c =>
    if queued then { c with queue := [0] } else { c with state := .carrying, carried := some 0, carryMs := 8000 }

/-- Lockdown in force. -/
def locked (w : Wall) : Wall := w.modAlarm fun a => { a with lockdown := true }

/-- A raw input at 1, with what is given of its point's live state. -/
def raised (p : PointId) (live : Bool) (w : Wall) : Wall := w.modPoint p fun x => { x with raw := true, live := live }

/-- Every lane closed and its drawer ownerless; the board full of other keys. -/
def fullBoard (w : Wall) : Wall :=
  { w with board := Vector.ofFn fun e => { Entry.blank with state := .new, key := e.val, count := 1 } }

/-- The drawer of lane 0 on its way out for a DEPOSIT. -/
def openingWall : Wall := owning .deposit (drawer .opening .outward .deposit readyWall)

/-- The drawer of lane 0 on its way in for a DEPOSIT. -/
def closingOwned : Wall := owning .deposit (drawer .closing .inward .deposit readyWall)

/-- The drawer of lane 0 in an ownerless close. -/
def closingOwnerless : Wall := drawer .closing .inward .none readyWall

/-- The drawer of lane 0 on its way in after the take cycle of a RETURN. -/
def closingReturn : Wall := owning .returnEnvelope (drawer .closing .inward .take readyWall)

/-- The drawer of lane 0 OFFERED in a take cycle. -/
def offeredTake : Wall := drawer .offered .none .take readyWall

/-- The drawer of lane 0 OFFERED in a deposit cycle. -/
def offeredDeposit : Wall := drawer .offered .none .deposit readyWall

/-- A DEPOSIT's envelope on its way to the pocket. -/
def liftingDeposit : Wall := owning .deposit (drawer .lifting .liftToPocket .none readyWall)

/-- A RETURN's untaken envelope on its way to the pocket. -/
def liftingBack : Wall := owning .returnEnvelope (drawer .lifting .liftToPocket .none readyWall)

/-- A RETURN's envelope on its way to the drawer. -/
def liftingOut : Wall := owning .returnEnvelope (drawer .lifting .liftToDrawer .none readyWall)

/-- A passage in the gate. -/
def gateWall : Wall := 
  Wall.modGate (fun g => { g with inPassage := true, presence := true, passages := [{ single with measure := none }] })
    ((tenure (context .building) readyWall).modTransport fun t =>
      { t with watch := [watched 7 none 10] })

/-- A single about to reach the diverter. -/
def diverterWall : Wall := 
  Wall.modGate (fun g => { g with passages := [single], latch := some (.stacker, 7), acceptEnable := true })
    ((tenure (context .building) readyWall).modTransport fun t =>
      { t with watch := [watched 7 none 1010] })

/-- An open pick that is a miss. -/
def missWall : Wall := 
  Wall.modGate (fun g => { g with openPicks := [{ cassette := 0, travel := 401 }] })
    ((tenure (context .building) readyWall).modTransport fun t =>
      { t with watch := [watched 7 none 10] })

/-- A watched piece that is overdue. -/
def jamWall : Wall := readyWall.modTransport fun t => { t with state := .granted, watch := [watched 7 none 1200] }

/-- A DISPENSE that waits for its re-mix. -/
def remixWall : Wall := (dispensing (context .bundleWait) readyWall).modTally 0 fun t => { t with remixWait := true }

/-- A DISPENSE in IN DRAWER that waits for its re-mix. -/
def remixLate : Wall := (dispensing (context .inDrawer) readyWall).modTally 0 fun t => { t with remixWait := true }

/-- Four open picks, the oldest from a cassette with two misses. -/
def fourPicks : Wall :=
  let w := tenure { context .building with outstanding := #v[0, 5, 0, 0], target := 5 } (readyWall.modCassette 0 fun c => { c with misses := 2 })
  w.modGate fun g => { g with openPicks := List.replicate 4 { cassette := 0, travel := 300 } }

/-- A piece at the exit whose passage has not settled. -/
def earlyWall : Wall := (tenure (context .building) readyWall).modTransport fun t => { t with watch := [watched 7 none 1150] }

/-- A bundle that is ready. -/
def readyBundle : Wall := 
  Wall.modEngine (fun e => { e with routedInBundle := 3 })
    ((tenure (context .building) readyWall).modTransport fun t =>
      { t with composition := #v[3, 0, 0, 0] })

/-- A delivery in progress. -/
def deliveryWall : Wall := 
  (tenure (context .delivering) readyWall).modTransport fun t => { t with composition := #v[3, 0, 0, 0] }

/-- A cancelled bundle whose path is settled. -/
def purgeWall : Wall := 
  (tenure { context .building with endCause := .cancel } readyWall).modTransport fun t =>
      { t with composition := #v[3, 0, 0, 0] }

/-- A purge at the end of its dump. -/
def purgingWall : Wall := 
  (tenure { context .purging with endCause := .cancel } readyWall).modTransport fun t =>
      { t with composition := #v[3, 0, 0, 0], state := .purging, dump := some { purpose := .tenure, leftMs := 0 } }

/-- A clearance whose belt has run. -/
def clearedBelt : Wall := readyWall.startClearance.modTransport fun t => { t with clearPulses := 0 }

/-- A clearance at the end of its dump. -/
def clearanceDump : Wall := 
  readyWall.startClearance.modTransport fun t => { t with dump := some { purpose := .clearance, leftMs := 0 } }

/-- A sweep at a quiet distance, with an item on the tray or without one, and what a pulse has found of it. -/
def sweepAt (quiet : Nat) (item : Bool) (found : SweepFinding) : Wall :=
  ((retracting .sweeping quiet readyWall).modLane 0 fun l => { l with itemSensor := item }).modTransport fun t => { t with sweepFound := found }

/-- A sweep that a pulse has found with the tray empty and the quiet distance run. -/
def sweptWall : Wall := sweepAt 800 false .clear

/-- A sweep that a pulse has found stalled. -/
def stalledWall : Wall := sweepAt 2000 true .lodged

/-- A retract that has drained. -/
def drainedWall : Wall := retracting .draining 0 readyWall

/-- A CAPTURE that waits for the conveyor. -/
def queuedWall : Wall := capturing true readyWall

/-- A CAPTURE's envelope on the conveyor. -/
def carriedWall : Wall := capturing false readyWall

/-- Zone 0 ARMED with the raw input of its delayed point 0 at 1. -/
def armedWall : Wall := raised 0 false (readyWall.modZone 0 fun z => { z with state := .armed })

/-- The raw input of point 6 of the 24-HOUR zone at 1. -/
def alwaysWall : Wall := raised 6 false readyWall

/-- Zone 0 ARMED under lockdown with the raw input of its point 1 at 1. -/
def lockedArmed : Wall := raised 1 false (locked (readyWall.modZone 0 fun z => { z with state := .armed }))

/-- Zone 0 in its entry delay. -/
def delayWall : Wall := 
  readyWall.modZone 0 fun z => { z with state := .entryDelay, trigger := some 0, lockdownFlag := false }

/-- Zone 0 ARMED with the raw input of its point 1 at 1. -/
def breachedWall : Wall := raised 1 false (readyWall.modZone 0 fun z => { z with state := .armed })

/-- A DISPENSE whose customer has left the bundle, its drawer on its way in, before the transport's first clearance. -/
def leftWall : Wall :=
  let w := drawer .closing .inward .take (readyWall.modTransport fun t => { t with state := .unknown })
  dispensing (context .inDrawer) (w.modLane 0 fun l => { l with itemSensor := true })

/-- A lane whose order in a slot waits for the drawer. -/
def waiting (x : SlotId) (w : Wall) : Wall := w.modLane 0 fun l => { l with owner := none, waiting := [x] }

/-- A DISPENSE that waits for the drawer. -/
def drawerWaiting : Wall := waiting 1 (dispensing (context .drawerWait) readyWall)

/-- A DISPENSE whose BUNDLE request waits. -/
def bundleWaiting : Wall :=
  (dispensing (context .bundleWait) readyWall).modTransport fun t => { t with queue := [{ lane := 0, kind := .bundle }] }

/-- A DISPENSE whose bundle is offered. -/
def offeredDispense : Wall := dispensing (context .inDrawer) offeredTake

/-- A DISPENSE whose drawer is on its way in. -/
def closingDispense : Wall := dispensing (context .inDrawer) (drawer .closing .inward .take readyWall)

/-- A DISPENSE that builds its bundle, with a note in the stacker. -/
def buildingOne : Wall := (tenure (context .building) readyWall).modTransport fun t => { t with composition := #v[1, 0, 0, 0] }

/-- A DISPENSE that builds its bundle and whose stacker is still empty. -/
def buildingNone : Wall := tenure (context .building) readyWall

/-- A RETRACT in slot 3 of lane 0 whose request waits. -/
def queuedRetract : Wall :=
  (retracting .queued 0 readyWall).modTransport fun t => { t with state := .unknown, join := .none, queue := [{ lane := 0, kind := .retract }] }

/-- A RETURN in slot 2 of lane 0 whose untaken envelope waits for the conveyor. -/
def backQueued : Wall :=
  (((order 0 2 .returnEnvelope .running [] readyWall).pocketMove 0 .captureWait (some 2)).modPocket 0 fun p => { p with abandoned := true }).modConveyor
    fun c => { c with queue := [0] }

/-- A RETURN in slot 2 of lane 0 that waits for the drawer. -/
def returnWaiting : Wall := (waiting 2 (order 0 2 .returnEnvelope .accepted [] readyWall)).pocketMove 0 .returning (some 2)

/-- The tally waits for a re-mix. -/
def remixing (w : Wall) : Wall := w.modTally 0 fun t => { t with remixWait := true }

/-- The DISPENSE of lane 0 is a MIX order. -/
def mixOrder (w : Wall) : Wall := w.modSlot 0 1 fun y => { y with body := orderBody .dispense 0#16 [1#16, 0#16, 3#16] }

/-- No cassette has notes. -/
def noNotes (w : Wall) : Wall := { w with cassettes := Vector.replicate 4 Cassette.reset }

/-- A fault's dump that is to end, of a tenure of lane 0 or of none. -/
def faultDump (n : Option LaneId) (w : Wall) : Wall :=
  w.modTransport fun t => { t with state := .faulted, dump := some { purpose := .fault n, leftMs := 0 } }

/-- Hold by the line. -/
def onHold (w : Wall) : Wall := w.modPort fun p => { p with lineCause := true }

/-- Zone 0 ARMED with no entry delay, and the raw input of its delayed point 0 at 1. -/
def undelayedWall : Wall := raised 0 false (readyWall.modZone 0 fun z => { z with state := .armed, entryDelay := 0 })

/-- Zone 0 in its entry delay with the raw input of a further point at 1. -/
def delayedAgain (p : PointId) : Wall := raised p false (readyWall.modZone 0 fun z => { z with state := .entryDelay, trigger := some 2 })

/-- Two open picks, the older past its window, the younger at the window's last pulse. -/
def latePicks : Wall := missWall.modGate fun g => { g with openPicks := [{ cassette := 0, travel := 401 }, { cassette := 1, travel := 400 }] }

/-- A close of a DEPOSIT with a cancel pending, with an item or without one. -/
def closingPending (item : Bool) : Wall :=
  ((closingOwned.modSlot 0 2 fun y => { y with cancelPending := true }).modFlag 0 fun f => f ||| 4#16).modLane 0 fun l => { l with itemSensor := item }

/-- A RETURN whose envelope was left, its drawer on its way in. -/
def closingLeft : Wall := closingReturn.modLane 0 fun l => { l with itemSensor := true }

/-- A DISPENSE whose bundle was taken, its drawer on its way in, before the transport's first clearance. -/
def takenWall (c : DispenseContext) : Wall := dispensing c (drawer .closing .inward .take (readyWall.modTransport fun t => { t with state := .unknown }))

/-- The retract of a DISPENSE that has drained, with `pieces` recovered of its bundle of two. -/
def drainedBundle (pieces : Nat) : Wall :=
  let w := (dispensing (context .retracting) readyWall).modTally 0 fun t => { t with bundleLeft := true }
  (w.modBundle 0 fun b => { b with slot := some 1, notes := 2, phase := .draining, dest := .retractBin, pieces := pieces }).modTransport fun t =>
    { t with state := .granted, join := .retract 0 }

/-- The drawer of lane 0 is forced. -/
def forcedOpen (w : Wall) : Wall := w.modLane 0 fun l => { l with forced := true }

/-- A retract in its sweep that stands for its forced drawer, with an overdue piece. -/
def standingRetract : Wall := (forcedOpen sweptWall).modTransport fun t => { t with watch := [watched 7 none 1200] }

/-- A LONG piece in the gate that has reached its exit, of an order at its reject limit, while a retract of lane 1 waits for the transport. -/
def lastReject : Wall :=
  let w := tenure { context .building with rejects := readyWall.rejectLimit } (order 1 3 .retract .running [] readyWall)
  let w1 := (w.modLane 1 fun l => { l with owner := some 3, drawer := .holding }).modGate fun g =>
    { g with inPassage := true, presence := true, runLength := 900, passages := [{ single with measure := none, reached := true }] }
  w1.modTransport fun t => { t with exitedEarly := [7], queue := [{ lane := 1, kind := .retract }] }

/-- A DISPENSE of 300 that waits for its re-mix with 400 routed. -/
def overRouted : Wall :=
  (dispensing { context .inDrawer with routed := #v[4, 0, 0, 0] } readyWall).modTally 0 fun t => { t with remixWait := true }

/-- A RETURN in CAPTURE WAIT whose cancel was answered TOO LATE in its cycle. -/
def lateReturn : Wall := backQueued.modSlot 0 2 fun y => { y with tooLate := true }

/-- Lane 0 CLOSING after a lockdown, with a DEPOSIT in progress. -/
def closingLane : Wall := (owning .deposit readyWall).modLane 0 fun l => { l with state := .closing, duress := true }

/-- Hold by the order, with a PROFILE COMMIT HELD on the service track. -/
def heldCommit : Wall := (order 4 1 .profileCommit .held [] readyWall).modPort fun p => { p with orderCause := true }

/-- The drawer of lane 0 HOLDING, with full bins. -/
def fullBins (ks : List BinId) : Wall := ks.foldl (fun w k => w.modBin k fun b => { b with full := true }) (drawer .holding .none .none readyWall)

/-- The wall before its first RUN, with the drawer of lane 0 found unstowed. -/
def unstowedWall : Wall := Wall.reset.modLane 0 fun l => { l with drawer := .closing, travel := .inward, budgetMs := 4000, stowedSensor := false }

/-- The transport of a wall in a state. -/
def path (st : TransportState) (w : Wall) : Wall := w.modTransport fun t => { t with state := st }

/-- A delivery that a cancel meets. -/
def cutDelivery : Wall :=
  let w := tenure { context .delivering with endCause := .cancel } readyWall
  w.modTransport fun t => { t with composition := #v[3, 0, 0, 0] }

/-- A RETURN's untaken envelope on the conveyor. -/
def carriedBack : Wall :=
  let w := ((order 0 2 .returnEnvelope .running [] readyWall).pocketMove 0 .capturing (some 2)).modPocket 0 fun p => { p with abandoned := true }
  w.modConveyor fun c => { c with state := .carrying, carried := some 0, carryMs := 8000 }

/-- An unattended envelope on the conveyor. -/
def carriedAlone : Wall :=
  let w := (readyWall.pocketMove 0 .capturing none).modPocket 0 fun p => { p with unattended := true }
  w.modConveyor fun c => { c with state := .carrying, carried := some 0, carryMs := 8000 }

/-- An entry of the gate trace. -/
def traced : TraceEntry :=
  { seq := 7, source := .cassette 0, cls := .single, length := 624, thickness := 120, gap := 200, estimate := 1, route := .stacker, cut := false }

/-- A gate trace with an entry. -/
def tracedWall : Wall := readyWall.modGate fun g => { g with trace := tabSet g.trace 0 (some traced) }

/-- Lane 0 in a lane state. -/
def laneIn (st : LaneState) (w : Wall) : Wall := w.modLane 0 fun l => { l with state := st }

/-- Lane 0 in CLOSING with nothing in progress but its LANE CLOSE in slot 3. -/
def settlingLane : Wall := laneIn .closing (order 0 3 .laneClose .running [] readyWall)

/-- A DISPENSE accepted in slot 1 of lane 0 that waits for the drawer. -/
def dispenseWaits : Wall := drawerWaiting.modSlot 0 1 fun y => { y with state := .accepted }

/-- An order accepted in a slot of lane 0 that waits for the drawer. -/
def orderWaits (x : SlotId) (k : Kind) (w : Wall) : Wall := waiting x (order 0 x k .accepted [] w)

/-- Behind a DEPOSIT that the HOLDING drawer keeps waiting, a RETRACT waits. -/
def retractBehind : Wall :=
  (order 0 2 .deposit .accepted [] (orderWaits 3 .retract (drawer .holding .none .none readyWall))).modLane 0 fun l => { l with waiting := [2, 3] }

/-- The drawer of lane 0 driven out, its stowed sensor not yet reported clear. -/
def leavingWall : Wall := openingWall.modLane 0 fun l => { l with stowedSensor := false, leaving := true }

/-- A close of the drawer of lane 0 that has bounced three times. -/
def bounced (w : Wall) : Wall := w.modLane 0 fun l => { l with bounce := 3 }

/-- A running PATH RESET of the drawer of lane 0. -/
def resetting (w : Wall) : Wall := order 4 1 .pathReset .running [2#16] w

/-- A DEPOSIT accepted in slot 2 of lane 0 waits for the drawer behind its owner. -/
def queuedBehind (w : Wall) : Wall := (order 0 2 .deposit .accepted [] w).modLane 0 fun l => { l with waiting := [2] }

/-- The envelope of lane 1 is unattended in the capture queue. -/
def unattendedQueued (w : Wall) : Wall :=
  ((w.pocketMove 1 .captureWait none).modPocket 1 fun p => { p with unattended := true }).modConveyor fun c => { c with queue := [1] }

/-- A clearance of the conveyor, begun in FAULTED by a PATH RESET, that has seen an envelope, with a stranded pocket in lane 0. -/
def faultClearance : Wall :=
  let w := ((held readyWall).modPocket 0 fun p => { p with holdMs := 0, timerRunning := false, stranded := true }).modConveyor fun c =>
    { c with state := .clearing, seen := 1, clearFromFault := true }
  order 4 1 .pathReset .running [1#16] w

/-- The zone of the internal points, 3, is a 24-HOUR zone that is ARMED, with the lockdown flag given. -/
def internalArmed (flag : Bool) (w : Wall) : Wall := w.modZone 3 fun z => { z with mode := .always, state := .armed, lockdownFlag := flag }

/-- A DISPENSE waits for the drawer of lane 0 while an envelope order's lift runs, and a PATH RESET of the drawer runs. -/
def liftWaited (k : Kind) (t : Travel) : Wall :=
  (owning k (resetting (drawer .lifting t .none (dispensing (context .drawerWait) readyWall)))).modLane 0 fun l => { l with waiting := [1] }

/-- The deposit bin full at its capacity, with an envelope queued. -/
def fullDeposit : Wall := queuedWall.modBin depositBin fun b => { b with count := b.capacity, full := true }

/-- The stored profile with a word replaced, and its check word right. -/
def storing (i : Fin 64) (v : Word) (w : Wall) : Wall :=
  w.modProfile fun p => { p with stored := (let q := tabSet profile i v; tabSet q 63 (profileCheck q)) }

/-- Zone 0 is in ALARM, and the stored profile makes it a 24-HOUR zone, with the settings of its outputs and lockdown given. -/
def alarmedLoad (v : Word) : Wall := storing 37 v (readyWall.modZone 0 fun z => { z with state := .alarm, trigger := some 1, lockdownFlag := false })

/-- The stored profile locks lane 0 out. -/
def lockingProfile (w : Wall) : Wall :=
  w.modProfile fun p => { p with stored := (let v := tabSet profile 36 1#16; tabSet v 63 (profileCheck v)) }

/-- A retract of a DISPENSE's bundle of two that sweeps, one piece recovered. -/
def retractingBundle : Wall := (drainedBundle 1).modLane 0 fun l => { l with drawer := .holding, bundle := { l.bundle with phase := .sweeping } }

/-- The retract of a DISPENSE whose request waits behind a clearance. -/
def bundleRetractQueued : Wall :=
  let w := (dispensing (context .retracting) readyWall).modBundle 0 fun b => { b with slot := some 1, notes := 2, phase := .queued }
  w.modTransport fun t => { t with state := .clearing, join := .clearance, queue := [{ lane := 0, kind := .retract }] }

/-- Requests that wait for the transport. -/
def asking (rs : List Request) (w : Wall) : Wall := w.modTransport fun t => { t with queue := rs }

/-- A RETRACT in slot 3 of lane 1 that has the drawer of its lane and waits for the transport, held back. -/
def heldBack (w : Wall) : Wall :=
  let w1 := (order 1 3 .retract .running [] w).modLane 1 fun l =>
    { l with owner := some 3, drawer := .holding, bundle := { l.bundle with phase := .heldBack } }
  asking [{ lane := 1, kind := .retract }] w1

/-- A serviced bin with its marks, the retract bin full. -/
def servicedBin (k : BinId) (w : Wall) : Wall :=
  (w.modBin retractBin fun b => { b with full := true, count := 900 }).modBin k fun b => { b with door := true, restarted := true }

/-- A piece of a class and an estimate that the gate has measured and routed REJECT, about to reach the diverter. -/
def rejectWall (cls : PieceClass) (estimate : Nat) (w : Wall) : Wall :=
  w.modGate fun g =>
    { g with passages := [{ single with measure := some { length := 800, thickness := 300, cls := cls, estimate := estimate, route := .reject } }],
             latch := some (.reject, 7) }

/-- A DOUBLE that is the fourth reject in a row, and one too many for its order, of a cassette that it counts out. -/
def limitWall : Wall :=
  let w := tenure { context .building with rejects := readyWall.rejectLimit } readyWall
  let w1 := (w.modTransport fun t => { t with watch := [watched 7 none 1010] }).modGate fun g => { g with acceptEnable := true }
  (rejectWall .double 2 w1).modCassette 0 fun c => { c with rejects := 3, drawn := 399 }

/-- A single whose latched decision the next piece has replaced. -/
def crowdedWall : Wall := diverterWall.modGate fun g => { g with latch := some (.reject, 8) }

/-- A piece in the gate whose front has passed the diverter, at its exit already or not. -/
def longPiece (exited : Bool) : Wall :=
  (gateWall.modGate fun g => { g with runLength := 1160, passages := [{ single with measure := none, reached := true }] }).modTransport fun t =>
    { t with watch := [watched 7 none 1140, watched 8 none 5], exitedEarly := if exited then [7] else [] }

/-- A piece of a retract in the gate that hold has cut. -/
def cutPiece : Wall :=
  (gateWall.modGate fun g => { g with cut := true, passages := [{ single with measure := none, source := .retract 1 }] }).modBundle 1 fun b =>
    { b with dest := .retractBin }

/-- The last watched piece of a bundle being built, routed. -/
def lastPiece (r : Route) (w : Wall) : Wall := w.modTransport fun t => { t with watch := [watched 7 (some (1, r)) 1150] }

/-- A tenure cut by a cancel, its stacker empty and its last piece at the reject exit, with a retract waiting. -/
def cutTenure : Wall := lastPiece .reject (tenure { context .building with endCause := .cancel } (heldBack readyWall))

/-- The end of hold finds the obstruction sensor of lane 0 active. -/
def blocked (w : Wall) : Wall := onHold (w.modLane 0 fun l => { l with obstructionSensor := true })

/-! ### Reset, form, places -/

/-- State.reset is what power-on makes of the sensors of log 7 and the store of log 8. -/
theorem test_powerOn_gives_reset : powerOnWall WallInputs.atReset (Vector.replicate 64 0#16) 0 = Wall.reset := by decide +kernel

/-- A write of POSTED to a slot's state word has the row POSTING_EVENT. -/
theorem test_illFormed_post : (Instr.hostWrite 0x0020#15 1#16).wellFormed = false := by decide

/-- A write of EMPTY to a slot's state word has the row GIVE_BACK. -/
theorem test_illFormed_giveBack : (Instr.hostWrite 0x0020#15 0#16).wellFormed = false := by decide

/-- A write to an order body has the row ORDER_BODY_WRITE. -/
theorem test_illFormed_body : (Instr.hostWrite 0x0021#15 9#16).wellFormed = false := by decide

/-- A write of SEEN or FREE to an entry's state word has a row of its own. -/
theorem test_illFormed_entry : (Instr.hostWrite 0x0D00#15 2#16).wellFormed = false ∧ (Instr.hostWrite 0x0D04#15 0#16).wellFormed = false := by
  decide

/-- A write to an alias window has a row of its own. -/
theorem test_illFormed_alias : (Instr.hostWrite 0x2000#15 1#16).wellFormed = false ∧ (Instr.hostWrite 0x201F#15 1#16).wellFormed = false := by
  decide

/-- A write to Run Control or the Attention Mask has a row of its own. -/
theorem test_illFormed_register : (Instr.hostWrite 0x3FFD#15 1#16).wellFormed = false ∧ (Instr.hostWrite 0x3FFF#15 1#16).wellFormed = false := by
  decide

/-- A read of a counter's words has a row of its own. -/
theorem test_illFormed_counter : (Instr.hostRead 0x0F83#15).wellFormed = false ∧ (Instr.hostRead 0x0F84#15).wellFormed = false := by decide

/-- The other writes and reads are well formed. -/
theorem test_wellFormed : (Instr.hostWrite 0x0020#15 5#16).wellFormed = true ∧ (Instr.hostWrite 0x1100#15 0#16).wellFormed = true
    ∧ (Instr.hostRead 0x0020#15).wellFormed = true := by decide

/-- Slot 1 of page 4 begins at 0x0880, and its body at 0x0881 (11.1). -/
theorem test_slot_places : place 0x0880 = .slotState 4 1 ∧ place 0x0881 = .orderBody 4 1 0 ∧ place 0x088E = .orderBody 4 1 13
    ∧ place 0x088F = .slip := by decide

/-- No word of the table spells a command. -/
theorem test_no_word_decodes : decodeTableWord 16 0x4401 = none := rfl

/-! ### The worked figures of the manual -/

/-- R72: with Ln 624 a piece of 4095 pulses is round(4095 / 624) = 7, clamped to 4. -/
theorem test_long_estimate : roundHalfUp 4095 624 = 7 ∧ clampNat 1 4 7 = 4 := by decide

/-- R73: 300 pulses give 0, clamped to 1; 1900 give 3; with Lmin 400 the 4095 give 10, clamped to 8. -/
theorem test_retract_estimate : roundHalfUp 300 624 = 0 ∧ clampNat 1 8 0 = 1 ∧ roundHalfUp 1900 624 = 3 ∧ clampNat 1 8 (roundHalfUp 4095 400) = 8 := by
  decide

/-- R77: with Tr 120 a note at Th 232 moves Tr by 14, and one within 7 moves it by nothing. -/
theorem test_learning : learnedTr 120 120 232 = 134 ∧ learnedTr 120 120 127 = 120 ∧ learnedTr 120 120 113 = 120 := by decide

/-- R78: a Tn of 200 moves a Tr of 126 to 150. -/
theorem test_clampTr : clampTr 200 126 = 150 := by decide

/-- R173: the default profile's words pass the profile check with the check word the part computes. -/
theorem test_default_profile_passes : passesCheck defaultProfile = true := by decide +kernel

/-! ### One step each -/

/-- The one field of the next state that a test looks at. -/
def after {α : Type} (c : Instr) (s : State) (f : State → α) : Option α :=
  match step { s with pending := [c] } with
  | .next t => some (f t)
  | _ => none

/-- The identity register reads 0x4401 (11.4). -/
theorem test_identity : after (.hostRead 0x3FFC#15) State.reset State.busData = some 0x4401#16 := by decide +kernel

/-- A word written to the general area reads back, at its last address too. -/
theorem test_general_area : after (.hostWrite 0x1FFF#15 0xBEEF#16) State.reset (fun t => t.readWord 0x1FFF) = some 0xBEEF#16 := by decide +kernel

/-- A write to a record is a slip: the count is 1 and PROTOCOL SLIP with the address is on the board behind PROFILE DEFAULTED. -/
theorem test_slip : after (.hostWrite 0x0A00#15 1#16) State.reset (fun t => (t.wall.port.slips, (t.wall.board.get 1).key, (t.wall.board.get 1).detail))
    = some (1, 61, 0x0A00#16) := by decide +kernel

/-- An order posted before the first RUN stays POSTED (R29). -/
theorem test_posted_before_run : after (.laneOpen 0 0 1#16) State.reset (fun t => (t.wall.slot 0 0).state) = some .posted := by decide +kernel

/-- LANE OPEN opens a CLOSED lane and finishes DONE. -/
theorem test_laneOpen : after (.laneOpen 1 0 1#16) (at' id) (fun t => ((t.wall.lanes.get 1).state, (t.wall.slot 1 0).state)) = some (.opened, .finished) := by
  decide +kernel

/-- A DISPENSE of 380 takes three notes of 100, one of 50, one of 20 and one of 10 (R56). -/
theorem test_dispense_mix : after (.dispense 0 1 1#16 0#16 380#16 0#16 0#16 0#16 0#16) (at' id) (fun t => (t.wall.tallyOf 0).map fun y => y.chosen.toList)
    = some (some [3, 1, 1, 1]) := by decide +kernel

/-- An amount of 385 has no mix, and the order is refused with code 68. -/
theorem test_dispense_noMix : after (.dispense 0 1 1#16 0#16 385#16 0#16 0#16 0#16 0#16) (at' id) (fun t => (t.wall.slot 0 1).result.head?)
    = some (some 68#16) := by decide +kernel

/-- A COUNT SET of a counted cassette is refused NOT SERVICED. -/
theorem test_countSet_notServiced : after (.countSet 0 1#16 2#16 50#16) (at' id) (fun t => (t.wall.slot 4 0).result.head?) = some (some 75#16) := by
  decide +kernel

/-- A PROFILE COMMIT of a wall whose lane has a deposit running is refused NOT QUIET. -/
theorem test_commit_notQuiet : after (.profileCommit 0 1#16) (at' (owning .deposit)) (fun t => (t.wall.slot 4 0).result.head?) = some (some 74#16) := by
  decide +kernel

/-- An order in an unknown mode is refused BAD PARAMETER. -/
theorem test_badParameter : after (.dispense 0 1 1#16 2#16 380#16 0#16 0#16 0#16 0#16) (at' id) (fun t => (t.wall.slot 0 1).result.head?)
    = some (some 65#16) := by decide +kernel

/-- A cancel of an owning DEPOSIT whose drawer is on its way out closes the drawer and waits for the stowed sensor (R126). -/
theorem test_cancel_deposit : after (.flagSetAlias 0 4#16) (at' fun _ => openingWall) (fun t => ((t.wall.lanes.get 0).drawer, t.wall.flags.get 0))
    = some (.closing, 4#16) := by decide +kernel

/-- The first obstruction of an owned close reverses the drawer (R7). -/
theorem test_bounce : after (.drawerObstruction 0) (at' fun _ => closingOwned) (fun t => ((t.wall.lanes.get 0).drawer, (t.wall.lanes.get 0).bounce))
    = some (.opening, 1) := by decide +kernel

/-- Lockdown leaves a single-delay breach no lane OPEN (R18). -/
theorem test_lockdown : after (.liveChange 1) (at' fun _ => breachedWall) (fun t => (t.wall.alarm.lockdown, (t.wall.lanes.get 0).state))
    = some (true, .closed) := by decide +kernel

/-- A third miss in a row empties its cassette (R52). -/
theorem test_third_miss : after .miss (at' fun _ => missWall.modCassette 0 fun c => { c with misses := 2 }) (fun t => (t.wall.cassettes.get 0).state)
    = some .empty := by decide +kernel

/-- The end of a tenure in a trailing edge grants the waiting retract, whose first gap is FIRST (R85, R89). -/
theorem test_trailing_grant : after .trailingEdge (at' fun _ => lastReject) (fun t => (t.wall.transport.join, t.wall.gate.gapCounter, t.wall.gate.presence))
    = some (.retract 1, none, false) := by decide +kernel

/-- A lift of a forced drawer does not complete (R10). -/
theorem test_forced_lift : after (.liftComplete 0) (at' fun _ => forcedOpen liftingOut) (fun t => (t.wall.lanes.get 0).drawer) = some .lifting := by
  decide +kernel

/-- The quiet distance of a retract stands still while its drawer is forced (R112). -/
theorem test_forced_retract : after (.encoderRisingEdge 500#10) (at' fun _ => standingRetract) (fun t => t.wall.transport.quiet) = some 800 := by
  decide +kernel

/-- Hold stops a drawer before it has left the stowed sensor: forced off it, it gets the mark and point 14 (R10). -/
theorem test_sweep_end_needs_pulse : after .sweepEnd (at' fun _ => sweepAt 800 false .none) (fun t => (t.wall.lanes.get 0).drawer) = some .holding := by
  decide +kernel

/-- R110 step 2, R111: the pulse that completes the quiet distance finds the sweep ended, or with an item on the tray stalled at 2000. -/
theorem test_pulse_tests_sweep :
    after (.encoderRisingEdge 500#10) (at' fun _ => sweepAt 799 false .none) (fun t => t.wall.transport.sweepFound) = some .clear
      ∧ after (.encoderRisingEdge 500#10) (at' fun _ => sweepAt 800 true .none) (fun t => t.wall.transport.sweepFound) = some .none
      ∧ after (.encoderRisingEdge 500#10) (at' fun _ => sweepAt 1999 true .none) (fun t => t.wall.transport.sweepFound) = some .lodged := by
  decide +kernel

/-- R69, R52, R53: a release at four open picks makes the oldest a miss, here the third of its cassette, which is then EMPTY. -/
theorem test_fifth_pick :
    (fourPicks.releasePick 1).gate.openPicks.length = 4 ∧ ((fourPicks.releasePick 1).cassettes.get 0).state = .empty
      ∧ ((fourPicks.releasePick 1).board.get 1).detail = 2#16 := by decide +kernel

/-- R18, R102: lockdown closes the drawer that a DISPENSE's bundle is offered in, and the order ends when that close completes. -/
theorem test_lockdown_closes : let w := offeredDispense.enterLockdown 0
    ((w.lanes.get 0).drawer, (w.lanes.get 0).closeCause, (w.lanes.get 0).budgetMs) = (.closing, .lockdown, 4000)
      ∧ (w.contextOf 0).map DispenseContext.endCause = some .lockdown := by decide +kernel

theorem test_forced_held : after (.drawerForced 0) (at' fun _ => onHold leavingWall) (fun t => ((t.wall.lanes.get 0).forced, (t.wall.points.get 14).live))
    = some (true, true) := by decide +kernel

/-- A RETURN answered TOO LATE is answered so again, in CAPTURE WAIT too (R41): its bit is clear and it stays in progress. -/
theorem test_tooLate_again : after (.flagSetAlias 0 4#16) (at' fun _ => lateReturn)
    (fun t => (t.wall.flags.get 0, (t.wall.slot 0 2).state, (t.wall.lanes.get 0).pocket.state)) = some (0#16, .running, .captureWait) := by
  decide +kernel

/-- An order that has routed more than its value finds no mix and becomes final (R59, R60). -/
theorem test_remix_beyond : after .remix (at' fun _ => overRouted) (fun t => (t.wall.contextOf 0).map DispenseContext.final) = some (some true) := by
  decide +kernel

/-- On an empty queue 10 ms of the second timer pass. -/
theorem test_idle : (match step State.reset with | .next t => t.wall.port.secondMs | _ => 0) = 10 := by decide +kernel

/-! ### A state that meets the hypotheses of each statement, for each of its clauses -/

/-- The hypotheses of Obligations.CommandsLeaveTheQueue are met together. -/
theorem witness_CommandsLeaveTheQueue :
    ({ State.reset with supply := false } : State).supply = false
      ∧ ∀ i, Instr.run ≠ .powerOn i := ⟨rfl, nofun⟩

/-- The hypotheses of Obligations.StepRunsTheFrontCommand on an empty queue are met together. -/
theorem witness_StepRunsTheFrontCommand :
    State.reset.pending = []
      ∧ (State.reset.supply = true ∧ State.reset.wall.dueCommand = none)
      ∧ ((at' fun _ => jamWall).pending = [] ∧ jamWall.dueCommand = some .transportJam) := by decide +kernel

/-- The hypotheses of Obligations.MemoryStaysCanonical are met together. -/
theorem witness_MemoryStaysCanonical :
    ({ State.reset with pending := [.hostWrite 0x1100#15 5#16] } : State).memoryOk
      ∧ ∃ t, step { State.reset with pending := [.hostWrite 0x1100#15 5#16] } = .next t := ⟨rfl, _, rfl⟩

/-- The hypotheses of Obligations.BoardKeysStayUnique are met together. -/
theorem witness_BoardKeysStayUnique :
    State.reset.wall.uniqueKeys
      ∧ ∃ t, step { State.reset with pending := [.hostWrite 0x0D01#15 5#16] } = .next t := ⟨by unfold Wall.uniqueKeys; decide +kernel, _, rfl⟩

/-- The hypotheses of Obligations.LockdownHoldsInAlarm are met together. -/
theorem witness_LockdownHoldsInAlarm :
    (at' (locked ∘ Wall.modZone 0 fun z => { z with state := .alarm })).wall.lockdownLaw
      ∧ ∃ t, step { (at' (locked ∘ Wall.modZone 0 fun z => { z with state := .alarm })) with pending := [.lockdownClear 0 1] } = .next t := ⟨by unfold Wall.lockdownLaw; decide +kernel, _, rfl⟩

/-- The hypotheses of Obligations.ReferenceStaysInRange are met together. -/
theorem witness_ReferenceStaysInRange :
    readyWall.referencesInRange
      ∧ ∃ t, step { (at' id) with pending := [.profileLoad 0 1] } = .next t := ⟨by unfold Wall.referencesInRange; decide +kernel, _, rfl⟩

/-- The hypotheses of Obligations.ReservedBitsStayClear are met together. -/
theorem witness_ReservedBitsStayClear :
    readyWall.reservedClear
      ∧ ∃ t, step { (at' id) with pending := [.flagSetAlias 3 0xFFFF#16] } = .next t := ⟨by unfold Wall.reservedClear; decide +kernel, _, rfl⟩

/-- The hypotheses of Obligations.PostingListsStayExact are met together, with an order in the list. -/
theorem witness_PostingListsStayExact :
    ((readyWall.place 0 2 .deposit 1#16 []).postingLaw ∧ ((readyWall.place 0 2 .deposit 1#16 []).pages.get 0).posting = [2])
      ∧ ∃ t, step { (at' fun w => w.place 0 2 .deposit 1#16 []) with pending := [.holdLineOn] } = .next t :=
  ⟨by unfold Wall.postingLaw; decide +kernel, _, rfl⟩

/-- The hypotheses of Obligations.ReservationsStayExact are met together, by a DISPENSE that holds the transport. -/
theorem witness_ReservationsStayExact :
    (tenure (context .building) readyWall).reservationLaw
      ∧ ∃ t, step { (at' (tenure (context .building))) with pending := [.cassetteRemoval 0] } = .next t :=
  ⟨by unfold Wall.reservationLaw; decide +kernel, _, rfl⟩

/-- The hypotheses of Obligations.MixIsTheGreatestAdmissible are met together. -/
theorem witness_MixIsTheGreatestAdmissible :
    ((readyWall.slot 0 0).param 0 = 0
      ∧ readyWall.lockdown = false
      ∧ (readyWall.lanes.get 0).state = .opened
      ∧ readyWall.transport.state ≠ .faulted
      ∧ (readyWall.bins.get rejectBin).full = false
      ∧ (readyWall.lanes.get 0).drawer ≠ .jammed
      ∧ (readyWall.lanes.get 0).leftHolding = false)
      ∧ (readyWall.chooseMix 380 40).isSome = true
      ∧ (readyWall.chooseMix 385 40).isNone = true := by decide +kernel

/-- The hypotheses of Obligations.HostWrites are met together. -/
theorem witness_HostWrites :
    State.reset.supply = true
      ∧ (0x1100 ≤ (0x1100#15).toNat ∧ (0x1FFF#15).toNat < 0x2000)
      ∧ (0x0F00 ≤ (0x0F00#15).toNat ∧ (0x0F3F#15).toNat < 0x0F40)
      ∧ ((0x001F#15).toNat % 0x200 < 0x20 ∧ 0x1A0 ≤ (0x09A0#15).toNat % 0x200 ∧ (0x0A00#15).toNat = 0x0A00
        ∧ 15 ≤ ((0x002F#15).toNat % 0x200 - 0x20) % 0x60)
      ∧ (0x0A00 ≤ (0x0CFF#15).toNat ∧ (0x0CFF#15).toNat < 0x0D00)
      ∧ (0x0D00 ≤ (0x0D01#15).toNat ∧ (0x0DBF#15).toNat < 0x0DC0 ∧ (0x0DBF#15).toNat % 4 ≠ 0)
      ∧ (0x0DC0 ≤ (0x0DC0#15).toNat ∧ (0x0EFF#15).toNat < 0x0F00)
      ∧ (0x0F40 ≤ (0x0F40#15).toNat ∧ (0x10FF#15).toNat < 0x1100)
      ∧ ((0x3FFC#15).toNat = 0x3FFC ∧ (0x3FFE#15).toNat = 0x3FFE)
      ∧ (0x2020 ≤ (0x2020#15).toNat ∧ (0x3FFB#15).toNat < 0x3FFC ∧ 0x4000 ≤ (0x7FFF#15).toNat)
      ∧ (3 ≤ (3 : Fin 16).val ∧ 3 ≤ (15 : Fin 16).val) := by decide +kernel

/-- The hypotheses of Obligations.SlipCounts are met together. -/
theorem witness_SlipCounts :
    0 < (readyWall.slip 0x0D01).port.slips
      ∧ (readyWall.port.slips = 0 ∧ readyWall.freeEntry.isSome = true)
      ∧ (fullBoard readyWall).port.slips = 0
      ∧ (fullBoard readyWall).entryOf 61 = none
      ∧ (fullBoard readyWall).freeEntry = none := by decide +kernel

/-- The hypotheses of the clauses of Obligations.SlipCounts about a post are met, each together. -/
theorem witness_SlipCounts_post :
    ((readyWall.slip 0x0D01).uniqueKeys ∧ ((readyWall.slip 0x0D01).board.get 1).state ≠ .free
        ∧ ((readyWall.slip 0x0D01).board.get 1).key = News.protocolSlip.key)
      ∧ ((∀ d, (readyWall.board.get d).state ≠ .free → (readyWall.board.get d).key ≠ News.protocolSlip.key)
        ∧ (readyWall.board.get 1).state = .free ∧ ∀ d, d < 1 → (readyWall.board.get d).state ≠ .free)
      ∧ (∀ d, ((fullBoard readyWall).board.get d).state ≠ .free ∧ ((fullBoard readyWall).board.get d).key ≠ News.protocolSlip.key) := by
  unfold Wall.uniqueKeys; decide +kernel

/-- The hypotheses of Obligations.SlotWrites are met together. -/
theorem witness_SlotWrites :
    State.reset.supply = true
      ∧ ((State.reset.wall.slot 0 0).state = .empty ∧ State.reset.wall.takingEnabled = false)
      ∧ ((at' (order 0 2 .deposit .finished [])).wall.slot 0 2).state = .finished
      ∧ ((at' (order 4 3 .clockSet .refused [])).wall.slot 4 3).state = .refused
      ∧ ((at' (owning .deposit)).wall.slot 0 2).state = .running
      ∧ (State.reset.wall.slot 4 3).state = .empty := by decide +kernel

/-- The hypotheses of Obligations.AcknowledgeEvents are met together. -/
theorem witness_AcknowledgeEvents :
    (at' fun w => w.modPoint 0 fun x => { x with live := true, alert := true }).supply = true := by decide +kernel

/-- The hypotheses of Obligations.CancelEvents about a POSTED slot, the two registers, and a slot with no order in progress are met. -/
theorem witness_CancelEvents :
    ((order 0 1 .deposit .posted [] readyWall).slot 0 1).state = .posted
      ∧ (State.reset.supply = true)
      ∧ (4#16 &&& flagMask (cancelPlace 0 2).1 &&& ~~~(readyWall.flags.get (cancelPlace 0 2).1) = 1#16 <<< (cancelPlace 0 2).2
        ∧ 0#16 &&& flagMask (cancelPlace 0 2).1 &&& ~~~(readyWall.flags.get (cancelPlace 0 2).1) = 0#16)
      ∧ (2#16 &&& flagMask (cancelPlace 4 1).1 &&& ~~~(readyWall.flags.get (cancelPlace 4 1).1) = 1#16 <<< (cancelPlace 4 1).2
        ∧ (cancelPlace 4 1).1 = 1)
      ∧ ((readyWall.slot 0 1).state = .empty ∧ ((order 0 2 .deposit .finished [] readyWall).slot 0 2).state = .finished
        ∧ ((order 4 3 .clockSet .refused [] readyWall).slot 4 3).state = .refused)
      ∧ ((order 4 1 .pathReset .running [0#16] readyWall).slot 4 1).state.inProgress = true
      ∧ (((queuedWall.modSlot 0 3 fun y => { y with tooLate := true }).slot 0 3).state.inProgress = true
        ∧ ((queuedWall.modSlot 0 3 fun y => { y with tooLate := true }).slot 0 3).tooLate = true
        ∧ queuedWall.kindAt 0 3 = some .capture)
      ∧ ((lateReturn.slot (lanePage 0) 2).state.inProgress = true ∧ (lateReturn.slot (lanePage 0) 2).tooLate = true
        ∧ lateReturn.kindAt (lanePage 0) 2 = some .returnEnvelope ∧ (lateReturn.lanes.get 0).pocket.state = .captureWait)
      ∧ (((order 0 3 .laneClose .accepted [] readyWall).slot 0 3).state.inProgress = true
        ∧ (order 0 3 .laneClose .accepted [] readyWall).kindAt 0 3 = some .laneClose) := by decide +kernel

/-- What Obligations.CancelEvents asks of a DISPENSE in slot 1 of lane 0 with a context. -/
def cancelsDispense (w : Wall) (c : DispenseContext) (ty : Tally) : Bool :=
  decide ((w.slot (lanePage 0) 1).state.inProgress = true ∧ (w.slot (lanePage 0) 1).tooLate = false ∧ w.kindAt (lanePage 0) 1 = some .dispense
    ∧ w.orderOf 0 .dispense = some 1 ∧ w.contextOf 0 = some c ∧ w.tallyOf 0 = some ty)

/-- The hypotheses of Obligations.CancelEvents about a DISPENSE are met, each together. -/
theorem witness_CancelEvents_dispense :
    cancelsDispense (dispensing { context .inDrawer with endCause := .cancel } readyWall) { context .inDrawer with endCause := .cancel } tally
      ∧ cancelsDispense (dispensing { context .inDrawer with endCause := .lockdown } readyWall) { context .inDrawer with endCause := .lockdown } tally
      ∧ (cancelsDispense drawerWaiting (context .drawerWait) tally ∧ drawerWaiting.engine.loaded.map Loaded.lane ≠ some 0)
      ∧ (cancelsDispense bundleWaiting (context .bundleWait) tally ∧ bundleWaiting.engine.loaded.map Loaded.lane ≠ some 0)
      ∧ (cancelsDispense offeredDispense (context .inDrawer) tally ∧ (offeredDispense.lanes.get 0).drawer = .offered)
      ∧ (cancelsDispense closingDispense (context .inDrawer) tally ∧ (closingDispense.lanes.get 0).drawer = .closing)
      ∧ (cancelsDispense (dispensing (context .inDrawer) readyWall) (context .inDrawer) tally ∧ (readyWall.lanes.get 0).drawer = .stowed)
      ∧ (cancelsDispense deliveryWall (context .delivering) tally ∧ cancelsDispense purgingWall { context .purging with endCause := .cancel } tally)
      ∧ (cancelsDispense buildingOne (context .building) tally ∧ buildingOne.transport.join = .dispense 0
        ∧ buildingOne.transport.state = .granted ∧ 0 < buildingOne.transport.stackerCount
        ∧ buildingOne.engine.loaded = some { lane := 0, slot := 1, context := context .building })
      ∧ (cancelsDispense buildingNone (context .building) tally ∧ buildingNone.pathSettled = true ∧ buildingNone.transport.stackerCount = 0
        ∧ buildingNone.transport.queue = [] ∧ buildingNone.engine.loaded = some { lane := 0, slot := 1, context := context .building }) := by
  decide +kernel

/-- What Obligations.CancelEvents asks of an order of another kind in a slot of lane 0. -/
def cancelsKind (w : Wall) (x : SlotId) (k : Kind) : Bool :=
  decide ((w.slot (lanePage 0) x).state.inProgress = true ∧ (w.slot (lanePage 0) x).tooLate = false ∧ w.kindAt (lanePage 0) x = some k)

/-- The hypotheses of Obligations.CancelEvents about a RETRACT and a DEPOSIT are met, each together. -/
theorem witness_CancelEvents_drawer :
    (cancelsKind (waiting 3 (order 0 3 .retract .accepted [] readyWall)) 3 .retract
        ∧ 3 ∈ ((waiting 3 (order 0 3 .retract .accepted [] readyWall)).lanes.get 0).waiting)
      ∧ (cancelsKind queuedRetract 3 .retract ∧ 3 ∉ (queuedRetract.lanes.get 0).waiting ∧ (queuedRetract.lanes.get 0).bundle.phase = .queued
        ∧ queuedRetract.orderOf 0 .dispense = none ∧ queuedRetract.orderOf 0 .retract = some 3 ∧ (queuedRetract.lanes.get 0).owner = some 3)
      ∧ (cancelsKind sweptWall 3 .retract ∧ 3 ∉ (sweptWall.lanes.get 0).waiting ∧ (sweptWall.lanes.get 0).bundle.phase = .sweeping)
      ∧ (cancelsKind drainedWall 3 .retract ∧ 3 ∉ (drainedWall.lanes.get 0).waiting ∧ (drainedWall.lanes.get 0).bundle.phase = .draining)
      ∧ (cancelsKind (waiting 2 (order 0 2 .deposit .accepted [] readyWall)) 2 .deposit
        ∧ ((waiting 2 (order 0 2 .deposit .accepted [] readyWall)).lanes.get 0).owner ≠ some 2)
      ∧ (cancelsKind openingWall 2 .deposit ∧ (openingWall.lanes.get 0).owner = some 2
        ∧ (openingWall.slot (lanePage 0) 2).cancelPending = false ∧ (openingWall.lanes.get 0).drawer = .opening)
      ∧ (cancelsKind (openingWall.modSlot 0 2 fun y => { y with cancelPending := true }) 2 .deposit
        ∧ ((openingWall.modSlot 0 2 fun y => { y with cancelPending := true }).slot (lanePage 0) 2).cancelPending = true)
      ∧ (cancelsKind closingOwned 2 .deposit ∧ (closingOwned.lanes.get 0).owner = some 2 ∧ (closingOwned.lanes.get 0).drawer = .closing)
      ∧ (cancelsKind liftingDeposit 2 .deposit ∧ (liftingDeposit.lanes.get 0).owner = some 2
        ∧ (liftingDeposit.lanes.get 0).drawer = .lifting) := by decide +kernel

/-- The hypotheses of Obligations.CancelEvents about a CAPTURE and a RETURN are met, each together. -/
theorem witness_CancelEvents_pocket :
    (cancelsKind queuedWall 3 .capture ∧ (queuedWall.lanes.get 0).pocket.state = .captureWait)
      ∧ (cancelsKind carriedWall 3 .capture ∧ (carriedWall.lanes.get 0).pocket.state ≠ .captureWait)
      ∧ (cancelsKind backQueued 2 .returnEnvelope ∧ (backQueued.lanes.get 0).pocket.state = .captureWait)
      ∧ (cancelsKind returnWaiting 2 .returnEnvelope ∧ (returnWaiting.lanes.get 0).pocket.state = .returning
        ∧ (returnWaiting.lanes.get 0).owner ≠ some 2)
      ∧ (cancelsKind liftingOut 2 .returnEnvelope ∧ (liftingOut.lanes.get 0).pocket.state ≠ .captureWait
        ∧ (liftingOut.lanes.get 0).owner = some 2) := by decide +kernel

/-- The hypotheses of Obligations.BoardEntryWrites are met together. -/
theorem witness_BoardEntryWrites :
    State.reset.supply = true
      ∧ (State.reset.wall.board.get 0).state = .new
      ∧ (State.reset.wall.board.get 47).state = .free
      ∧ ((readyWall.slip 0x0D01).board.get 1).key = 61 := by decide +kernel

/-- The hypotheses of Obligations.HostReads are met together. -/
theorem witness_HostReads :
    State.reset.supply = true
      ∧ State.reset.latch.map Latch.counter ≠ some .slipTotal
      ∧ (readHasRow 0x0000 = false ∧ readHasRow 0x0F80 = false ∧ readHasRow 0x7FFF = false)
      ∧ ((readyWall.slot 0 1).context = none ∧ ((tenure (context .building) readyWall).slot 0 1).context = some (context .building))
      ∧ (∀ p : PointId, (0x0007#16).getLsbD p.val = decide ((readyWall.points.get p).zone = 0))
      ∧ (readyWall.gate.trace.get 0 = none ∧ tracedWall.gate.trace.get 0 = some traced) := by decide +kernel

/-- The hypotheses of Obligations.RunHaltAndMask are met together. -/
theorem witness_RunHaltAndMask :
    State.reset.supply = true
      ∧ readyWall.port.running = true
      ∧ ((at' (Wall.modPort fun p => { p with running := false })).wall.port.running = false
          ∧ (at' (Wall.modPort fun p => { p with running := false })).wall.port.startUpMark = false)
      ∧ (State.reset.wall.port.running = false ∧ State.reset.wall.port.startUpMark = true)
      ∧ ((unstowedWall.lanes.get 0).drawer = .closing ∧ unstowedWall.port.startUpMark = true) := by decide +kernel

/-- The conditions of Obligations.PowerOnEmptiesTheSlots are met: a stored profile that passes and one that fails, no zone in ALARM, and a 24-HOUR zone with
its lowest ACTIVE point. -/
theorem witness_PowerOnEmptiesTheSlots :
    readyWall.profile.programming = none
      ∧ (let t := powerOnWall WallInputs.atReset profile 0; passesCheck t.profile.stored = true ∧ ∀ z, (t.zones.get z).state ≠ .alarm)
      ∧ passesCheck (powerOnWall WallInputs.atReset (Vector.replicate 64 0#16) 0).profile.stored = false
      ∧ (let t := powerOnWall { WallInputs.atReset with raw := tabSet WallInputs.atReset.raw 6 true } profile 0;
          (t.zones.get 2).mode = .always ∧ (t.points.get 6).zone = 2 ∧ (t.points.get 6).live = true
            ∧ (∀ p, p < 6 → (t.points.get p).zone = 2 → (t.points.get p).live = false) ∧ (t.zones.get 2).state = .alarm) := by decide +kernel

/-- The hypotheses of Obligations.WallResetDiscardsEverything are met together. -/
theorem witness_WallResetDiscardsEverything :
    (at' (tenure (context .building))).supply = true
      ∧ (at' (tenure (context .building))).wall.openSlots = 1
      ∧ ((readyWall.modLane 0 fun l => { l with envelopeSensor := true }).lanes.get 0).envelopeSensor = true
      ∧ ((onHold readyWall).port.lineCause = true ∧ readyWall.port.lineCause = false ∧ readyWall.openSlots = 0)
      ∧ ((locked readyWall).alarm.lockdown = true ∧ readyWall.profile.programming = none)
      ∧ ((readyWall.cassettes.get 0).state = .inService ∧ (Wall.reset.cassettes.get 0).state ≠ .inService) := by decide +kernel

/-- The hypotheses of Obligations.SupplyFailureCutsProgramming are met together. -/
theorem witness_SupplyFailureCutsProgramming :
    State.reset.supply = true
      ∧ State.reset.wall.profile.programming = none
      ∧ (at' fun w => w.modProfile fun p => { p with programming := some p.commit }).wall.profile.programming ≠ none := by decide +kernel

/-- The hypotheses of Obligations.ChecksAndRefusals are met together. -/
theorem witness_ChecksAndRefusals :
    ((order 0 0 .deposit .posted [] (locked readyWall)).refusal 0 0 = some .lockdown
      ∧ ((order 0 0 .deposit .posted [] (locked readyWall)).slot 0 0).cancelPending = false)
      ∧ (order 4 0 .dispense .posted [] readyWall).kindAt 4 0 = none
      ∧ ((order 0 0 .dispense .posted [2#16] readyWall).kindAt 0 0 = some .dispense
        ∧ readyWall.wellFormed .dispense ((order 0 0 .dispense .posted [2#16] readyWall).slot 0 0) = false)
      ∧ ((order 0 0 .dispense .posted [0#16, 380#16] readyWall).kindAt (lanePage 0) 0 = some .dispense
        ∧ readyWall.wellFormed .dispense ((order 0 0 .dispense .posted [0#16, 380#16] readyWall).slot 0 0) = true)
      ∧ ((order 4 0 .pathReset .posted [5#16] readyWall).kindAt servicePage 0 = some .pathReset
        ∧ readyWall.wellFormed .pathReset ((order 4 0 .pathReset .posted [5#16] readyWall).slot 4 0) = true)
      ∧ ((order 4 0 .pathReset .posted [5#16] readyWall).slot 4 0).param 0 = 2 + (3 : LaneId).val
      ∧ (((order 4 0 .countSet .posted [3#16] readyWall).slot 4 0).param 0 = (3 : CassId).val
        ∧ ((order 4 0 .binReset .posted [2#16] readyWall).slot 4 0).param 0 = (2 : BinId).val
        ∧ ((order 4 0 .zoneArm .posted [3#16] readyWall).slot 4 0).param 0 = (3 : ZoneId).val) := by decide +kernel

/-- The wall meets the hypotheses of Obligations.Evaluations about a drawer that goes to an order waiting in lane 0. -/
def grants (w : Wall) (earlier : List SlotId) (x : SlotId) (later : List SlotId) (k : Kind) : Bool :=
  decide ((∀ m, w.settles m = false) ∧ (w.lanes.get 0).owner = none ∧ (w.lanes.get 0).waiting = earlier ++ x :: later
    ∧ (∀ y ∈ earlier, w.grantable 0 y = false) ∧ w.grantable 0 x = true ∧ (w.slot (lanePage 0) x).state = .accepted ∧ x ∉ earlier ∧ x ∉ later
    ∧ w.kindAt (lanePage 0) x = some k)

/-- The wall meets the hypotheses of Obligations.Evaluations about a slot that is taken next, the first of its page. -/
def takes (w : Wall) (p : PageId) (x : SlotId) (younger : List SlotId) (e : Option OrderEnd) (k : Kind) : Bool :=
  decide ((∀ m, w.settles m = false) ∧ (∀ m, (w.lanes.get m).owner = none → ∀ y ∈ (w.lanes.get m).waiting, w.grantable m y = false)
    ∧ (∀ q, q < p → ∀ y ∈ (w.pages.get q).posting, w.takeable q y = false) ∧ (w.pages.get p).posting = x :: younger
    ∧ w.takeable p x = true ∧ w.refusal p x = e ∧ w.kindAt p x = some k)

/-- The hypotheses of Obligations.Evaluations about a lane that settles are met, with a LANE CLOSE and without one. -/
theorem witness_Evaluations_settle :
    (settlingLane.settles 0 = true ∧ settlingLane.orderOf 0 .laneClose = some 3 ∧ (settlingLane.slot (lanePage 0) 3).cancelPending = false
        ∧ (settlingLane.lanes.get 0).owner ≠ some 3 ∧ 3 ∉ (settlingLane.lanes.get 0).waiting)
      ∧ ((laneIn .closing readyWall).settles 0 = true ∧ (laneIn .closing readyWall).orderOf 0 .laneClose = none)
      ∧ (readyWall.evaluateOnce = none ∧ settlingLane.evaluateOnce = some (settlingLane.settleLane 0)) := by decide +kernel

/-- The hypotheses of Obligations.Evaluations about a waiting order are met, for each kind. -/
theorem witness_Evaluations_grant :
    grants (orderWaits 2 .deposit readyWall) [] 2 [] .deposit
      ∧ grants returnWaiting [] 2 [] .returnEnvelope
      ∧ (grants retractBehind [2] 3 [] .retract ∧ grants (path .unknown retractBehind) [2] 3 [] .retract)
      ∧ (grants (path .faulted retractBehind) [2] 3 [] .retract ∧ retractBehind.orderOf 0 .dispense = none
        ∧ retractBehind.orderOf 0 .retract = some 3)
      ∧ (grants (path .unknown dispenseWaits) [] 1 [] .dispense ∧ grants (path .faulted dispenseWaits) [] 1 [] .dispense
        ∧ grants (locked dispenseWaits) [] 1 [] .dispense)
      ∧ (dispenseWaits.orderOf 0 .dispense = some 1 ∧ dispenseWaits.engine.loaded.map Loaded.lane ≠ some 0
        ∧ (dispenseWaits.slot (lanePage 0) 1).context = some (context .drawerWait) ∧ dispenseWaits.tallyOf 0 = some tally
        ∧ dispenseWaits.lockdown = false) := by decide +kernel

/-- The hypotheses of Obligations.Evaluations about a taking are met, on a lane page and the service page, refused and accepted, and past a HELD order. -/
theorem witness_Evaluations_take :
    takes (readyWall.posted 0 2 .deposit 1#16 []) 0 2 [] none .deposit
      ∧ takes ((readyWall.posted 0 2 .deposit 1#16 []).posted 0 1 .capture 2#16 []) 0 2 [1] none .deposit
      ∧ takes (locked (readyWall.posted 0 2 .deposit 1#16 [])) 0 2 [] (some .lockdown) .deposit
      ∧ takes (readyWall.posted 4 0 .clockSet 1#16 [0#16, 9#16]) 4 0 [] none .clockSet
      ∧ takes (heldCommit.posted 4 0 .releaseWall 1#16 []) 4 0 [] none .releaseWall := by decide +kernel

/-- The hypotheses of Obligations.LaneOrders are met together. -/
theorem witness_LaneOrders :
    State.reset.supply = true
      ∧ (readyWall.takesNow (lanePage 0) 0 .laneOpen = true
      ∧ readyWall.lockdown = false
      ∧ (readyWall.lanes.get 0).state ≠ .lockedOut)
      ∧ ((closingLane.modLane 0 fun l => { l with state := .opened }).takesNow (lanePage 0) 0 .laneOpen = true
        ∧ closingLane.lockdown = false ∧ (closingLane.lanes.get 0).state = .closing
        ∧ (closingLane.slot (lanePage 0) 2).state.inProgress = true ∧ closingLane.kindAt (lanePage 0) 2 ≠ some .laneClose)
      ∧ (at' locked).wall.takesNow (lanePage 0) 0 .laneOpen = true
      ∧ ((at' (Wall.modLane 1 fun l => { l with state := .lockedOut })).wall.takesNow (lanePage 1) 0 .laneOpen = true
      ∧ ((readyWall.modLane 1 fun l => { l with state := .lockedOut }).lanes.get 1).state = .lockedOut)
      ∧ (readyWall.takesNow (lanePage 1) 3 .laneClose = true
      ∧ (readyWall.lanes.get 1).state ≠ .opened)
      ∧ (readyWall.takesNow (lanePage 0) 3 .laneClose = true
      ∧ (∀ y, (readyWall.slot (lanePage 0) y).state.inProgress = false))
      ∧ ((at' (owning .deposit)).wall.takesNow (lanePage 0) 3 .laneClose = true
      ∧ (∃ y, ((owning .deposit readyWall).slot (lanePage 0) y).state.inProgress = true))
      ∧ ((readyWall.modLane 2 fun l => { l with state := .closing }).lanes.get 2).state = .closing := by decide +kernel

/-- The hypotheses of Obligations.CassetteCommands are met together. -/
theorem witness_CassetteCommands :
    State.reset.supply = true
      ∧ ((at' (Wall.modCassette 3 fun c => { c with state := .uncounted })).wall.takesNow servicePage 0 .countSet = true
      ∧ ((3000#16).toNat ≤ 3000 ∧ (0#16).toNat ≤ 3000)
      ∧ ((readyWall.modCassette 3 fun c => { c with state := .uncounted }).cassettes.get 3).state = .uncounted)
      ∧ readyWall.takesNow servicePage 0 .cassetteClear = true
      ∧ (readyWall.cassettes.get 3).present = true
      ∧ ((readyWall.modCassette 0 fun c => { c with present := false }).cassettes.get 0).present = false := by decide +kernel

/-- The hypotheses of Obligations.BinResets are met together. -/
theorem witness_BinResets :
    State.reset.supply = true
      ∧ readyWall.takesNow servicePage 0 .binReset = true
      ∧ ((readyWall.modBin 2 fun b => { b with door := true }).bins.get 2).door = true
      ∧ ((readyWall.modBin 0 fun b => { b with door := true }).bins.get 0).door = true
      ∧ readyWall.transport.queue = [] := by decide +kernel

/-- The hypotheses of Obligations.PathResets are met together. -/
theorem witness_PathResets :
    State.reset.supply = true
      ∧ readyWall.takesNow servicePage 0 .pathReset = true
      ∧ (readyWall.transport.join = .none ∧ readyWall.transport.queue = [])
      ∧ (readyWall.conveyor.carried = none ∧ readyWall.conveyor.queue = [])
      ∧ ((readyWall.lanes.get 3).owner = none ∧ (readyWall.lanes.get 3).stowedSensor = true)
      ∧ ((readyWall.modLane 0 fun l => { l with stowedSensor := false }).lanes.get 0).stowedSensor = false := by decide +kernel

/-- The hypotheses of Obligations.ZoneOrders are met together. -/
theorem witness_ZoneOrders :
    State.reset.supply = true
      ∧ (readyWall.takesNow servicePage 0 .zoneArm = true
      ∧ (readyWall.zones.get 0).mode = .armable
      ∧ readyWall.activeMember 0 = none)
      ∧ (readyWall.takesNow servicePage 0 .zoneDisarm = true
      ∧ (((readyWall.modZone 1 fun z => { z with state := .alarm }).zones.get 1).mode = .armable
          ∧ (readyWall.zones.get 0).mode = .armable ∧ (readyWall.zones.get 0).state = .disarmed))
      ∧ (readyWall.takesNow servicePage 0 .zoneReset = true
      ∧ (readyWall.zones.get 2).mode = .always
      ∧ readyWall.activeMember 2 = none
      ∧ (∀ p ∈ readyWall.members 2, (readyWall.points.get p).alert = false)
      ∧ (readyWall.zones.get 2).state ≠ .alarm
      ∧ ((readyWall.modZone 2 fun z => { z with state := .alarm }).zones.get 2).state = .alarm) := by decide +kernel

/-- The hypotheses of Obligations.LockdownClearAndEntry are met together. -/
theorem witness_LockdownClearAndEntry :
    (at' locked).supply = true
      ∧ (at' locked).wall.takesNow servicePage 0 .lockdownClear = true
      ∧ (∀ z, ((locked readyWall).zones.get z).lockdownAlarm = false)
      ∧ ((locked readyWall).lockdown = true ∧ readyWall.takesNow servicePage 0 .lockdownClear = true)
      ∧ (readyWall.lockdown = false ∧ readyWall.transport.queue = []) := by decide +kernel

/-- The wall meets the hypotheses of Obligations.LockdownClearAndEntry about an unfinished DISPENSE with this context and this tally. -/
def lockdownMeets (w : Wall) (c : DispenseContext) (ty : Tally) : Prop :=
  w.orderOf 0 .dispense = some 1 ∧ w.contextOf 0 = some c ∧ w.tallyOf 0 = some ty

/-- The hypotheses of Obligations.LockdownClearAndEntry are met by a lane's drawer, by a DEPOSIT and by a DISPENSE in each phase. -/
theorem witness_LockdownClearAndEntry_lane :
    ((readyWall.contextOf 0).map DispenseContext.phase ≠ some .building ∧ readyWall.contextOf 0 = none ∧ readyWall.orderOf 0 .dispense = none
        ∧ readyWall.orderOf 0 .deposit = none)
      ∧ ((offeredTake.lanes.get 0).drawer = .offered ∧ ((owning .returnEnvelope offeredTake).lanes.get 0).owner ≠ none
        ∧ (openingWall.lanes.get 0).drawer = .opening ∧ (readyWall.lanes.get 0).drawer = .stowed)
      ∧ ((closingOwned.lanes.get 0).drawer = .closing ∧ closingOwned.ownerLocks 0 = true)
      ∧ (closingOwned.orderOf 0 .deposit = some 2 ∧ (closingOwned.lanes.get 0).owner = some 2 ∧ closingOwned.engine.loaded.map Loaded.lane ≠ some 0)
      ∧ ((queuedBehind readyWall).orderOf 0 .deposit = some 2 ∧ ((queuedBehind readyWall).lanes.get 0).owner ≠ some 2)
      ∧ (lockdownMeets drawerWaiting (context .drawerWait) tally ∧ drawerWaiting.engine.loaded.map Loaded.lane ≠ some 0)
      ∧ (lockdownMeets bundleWaiting (context .bundleWait) tally ∧ bundleWaiting.engine.loaded.map Loaded.lane ≠ some 0)
      ∧ (lockdownMeets offeredDispense (context .inDrawer) tally ∧ lockdownMeets deliveryWall (context .delivering) tally)
      ∧ (lockdownMeets purgeWall { context .building with endCause := .cancel } tally ∧ purgeWall.endBegun 0 = true)
      ∧ (∀ w ∈ [buildingOne, buildingNone], lockdownMeets w (context .building) tally ∧ w.transport.join = .dispense 0
        ∧ w.transport.state = .granted ∧ w.engine.loaded = some { lane := 0, slot := 1, context := context .building })
      ∧ (0 < buildingOne.transport.stackerCount ∧ buildingNone.pathSettled = true ∧ buildingNone.transport.stackerCount = 0) := by
  unfold lockdownMeets; decide +kernel

/-- The hypotheses of Obligations.HoldCommands are met together. -/
theorem witness_HoldCommands :
    State.reset.supply = true
      ∧ (readyWall.held = false)
      ∧ (readyWall.takesNow servicePage 0 .holdWall = true
      ∧ readyWall.held = false)
      ∧ ((at' (fun w => (w.modPort fun p => { p with lineCause := true }).eachSlot Slot.suspend)).wall.port.lineCause = true
      ∧ (at' (fun w => (w.modPort fun p => { p with lineCause := true }).eachSlot Slot.suspend)).wall.port.orderCause = false
      ∧ (at' (fun w => (w.modPort fun p => { p with lineCause := true }).eachSlot Slot.suspend)).wall.transport.queue = []
      ∧ (∀ n, ((at' (fun w => (w.modPort fun p => { p with lineCause := true }).eachSlot Slot.suspend)).wall.lanes.get n).drawer ≠ .opening
          ∧ ((at' (fun w => (w.modPort fun p => { p with lineCause := true }).eachSlot Slot.suspend)).wall.lanes.get n).drawer ≠ .closing))
      ∧ ((at' (Wall.modPort fun p => { p with orderCause := true })).wall.takesNow servicePage 0 .releaseWall = true
      ∧ (at' (Wall.modPort fun p => { p with orderCause := true })).wall.port.lineCause = false
      ∧ (at' (Wall.modPort fun p => { p with orderCause := true })).wall.port.orderCause = true
      ∧ (at' (Wall.modPort fun p => { p with orderCause := true })).wall.transport.queue = []
      ∧ (∀ n, ((at' (Wall.modPort fun p => { p with orderCause := true })).wall.lanes.get n).drawer ≠ .opening
          ∧ ((at' (Wall.modPort fun p => { p with orderCause := true })).wall.lanes.get n).drawer ≠ .closing)) := by decide +kernel

/-- The hypotheses of Obligations.HoldCommands are met by a RELEASE WALL past a HELD order, and while the other cause is in force. -/
theorem witness_HoldCommands_other :
    (heldCommit.takesNow servicePage 0 .releaseWall = true ∧ heldCommit.takesNow servicePage 0 .holdWall = false ∧ heldCommit.port.lineCause = false
        ∧ heldCommit.port.orderCause = true ∧ heldCommit.transport.queue = []
        ∧ ∀ n, (heldCommit.lanes.get n).drawer ≠ .opening ∧ (heldCommit.lanes.get n).drawer ≠ .closing)
      ∧ ((onHold heldCommit).held = true ∧ (onHold heldCommit).port.orderCause = true)
      ∧ ((onHold readyWall).takesNow servicePage 0 .holdWall = true ∧ (onHold readyWall).held = true)
      ∧ ((onHold readyWall).takesNow servicePage 0 .releaseWall = true ∧ (onHold readyWall).port.lineCause = true
        ∧ readyWall.takesNow servicePage 0 .releaseWall = true ∧ readyWall.port.orderCause = false) := by decide +kernel

/-- The hypotheses of Obligations.ProfileOrders are met together. -/
theorem witness_ProfileOrders :
    State.reset.supply = true
      ∧ (readyWall.takesNow servicePage 0 .profileCommit = true
      ∧ readyWall.quiet = true)
      ∧ ((at' fun w => (w.modProfile fun p => { p with programming := some p.commit }).modLane 0 fun l => { l with state := .closed }).wall.profile.programming.isSome = true)
      ∧ ((order 4 2 .profileCommit .running [] readyWall).serviceOrder .profileCommit = some 2 ∧ readyWall.held = false
        ∧ ((onHold readyWall).held = true))
      ∧ ((at' (Wall.modLane 0 fun l => { l with state := .closed })).wall.takesNow servicePage 0 .profileLoad = true
      ∧ (at' (Wall.modLane 0 fun l => { l with state := .closed })).wall.quiet = true
      ∧ (∀ n, ((at' (Wall.modLane 0 fun l => { l with state := .closed })).wall.lanes.get n).state ≠ .opened)) := by decide +kernel

/-- The hypotheses of Obligations.ProfileOrders are met by a PROFILE LOAD that locks an OPEN lane out. -/
theorem witness_ProfileOrders_lockout :
    ((lockingProfile readyWall).takesNow servicePage 0 .profileLoad = true ∧ (lockingProfile readyWall).quiet = true
        ∧ ((lockingProfile readyWall).lanes.get 0).state = .opened)
      ∧ (((lockingProfile readyWall).load 3).applyProfile.alarm.lockdown = readyWall.alarm.lockdown ∧ ((lockingProfile readyWall).load 3).applyProfile.lockedOut 0 = true)
      ∧ ((∀ p y, ((lockingProfile readyWall).slot p y).state ≠ .posted) ∧ ∀ n, ((lockingProfile readyWall).lanes.get n).waiting = []) := by
  decide +kernel

/-- The conditions in Wall.loadedBy are met: a load without an entry of lockdown and with no DISPENSE, one whose new lockdown flag takes the wall into
lockdown with every mode unchanged, one that takes a zone out of ALARM by a change of its mode, and one of a profile that fails its check. -/
theorem witness_ProfileOrders_loads :
    (((lockingProfile readyWall).load 3).applyProfile.alarm.lockdown = readyWall.alarm.lockdown ∧ ∀ n, (lockingProfile readyWall).contextOf n = none)
      ∧ (((alarmedLoad 32#16).load 3).applyProfile.alarm.lockdown ≠ (alarmedLoad 32#16).alarm.lockdown
        ∧ ∀ z, (alarmedLoad 32#16).withActive.loadedMode z = ((alarmedLoad 32#16).zones.get z).mode)
      ∧ ((alarmedLoad 1#16).withActive.loadedMode 0 ≠ ((alarmedLoad 1#16).zones.get 0).mode ∧ ((alarmedLoad 1#16).zones.get 0).state = .alarm
        ∧ ((alarmedLoad 1#16).load 3).applyProfile.alarm.lockdown = (alarmedLoad 1#16).alarm.lockdown)
      ∧ passesCheck (readyWall.modProfile fun p => { p with stored := Vector.replicate 64 0#16 }).profile.stored = false := by decide +kernel

/-- The hypotheses of Obligations.ProfileOrders about the end of programming are met with a field clamped and with none, and with a commit and without. -/
theorem witness_ProfileOrders_clamped :
    (let w := readyWall.modProfile fun p => { p with image := tabSet p.image 24 0#16 };
        0 < w.profile.commit.clamped ∧ readyWall.profile.commit.clamped = 0)
      ∧ readyWall.serviceOrder .profileCommit = none
      ∧ (order 4 1 .profileCommit .running [] readyWall).serviceOrder .profileCommit = some 1 := by decide +kernel

/-- The hypotheses of Obligations.ClockCommands are met together. -/
theorem witness_ClockCommands :
    State.reset.supply = true
      ∧ readyWall.takesNow servicePage 3 .clockSet = true := by decide +kernel

/-- The hypotheses of Obligations.DispenseBegins are met together. -/
theorem witness_DispenseBegins :
    State.reset.supply = true
      ∧ readyWall.takesNow (lanePage 0) 1 .dispense = true
      ∧ (readyWall.posted (lanePage 0) 1 .dispense 7#16 [0#16, 380#16, 0#16, 0#16, 0#16, 0#16]).refusal (lanePage 0) 1 = none
      ∧ (readyWall.posted (lanePage 0) 1 .dispense 7#16 [1#16, 0#16, 40#16, 0#16, 0#16, 0#16]).refusal (lanePage 0) 1 = none
      ∧ (readyWall.orderMix { readyWall.slot (lanePage 0) 1 with body := orderBody .dispense 7#16 [0#16, 380#16, 0#16, 0#16, 0#16, 0#16] }).isSome = true
      ∧ ((readyWall.lanes.get 0).drawer = .stowed ∧ (readyWall.lanes.get 0).forced = false ∧ (readyWall.lanes.get 0).owner = none)
      ∧ readyWall.engine.loaded.map Loaded.lane ≠ some 0
      ∧ (readyWall.transport.state = .idle ∧ readyWall.held = false ∧ readyWall.transport.queue = [])
      ∧ ((at' (tenure (context .building))).wall.takesNow (lanePage 1) 1 .dispense = true
      ∧ (tenure (context .building) readyWall).transport.state ≠ .idle
      ∧ ((tenure (context .building) (readyWall.modLane 1 fun l => { l with state := .opened })).posted (lanePage 1) 1 .dispense 7#16 [0#16, 380#16, 0#16, 0#16, 0#16, 0#16]).refusal (lanePage 1) 1 = none) := by decide +kernel

/-- The hypotheses of Obligations.RetractBegins are met together. -/
theorem witness_RetractBegins :
    State.reset.supply = true
      ∧ (at' (drawer .holding .none .none)).wall.takesNow (lanePage 0) 3 .retract = true
      ∧ (((at' (drawer .holding .none .none)).wall.lanes.get 0).drawer = .holding
          ∧ ((at' (drawer .holding .none .none)).wall.lanes.get 0).owner = none
          ∧ ((at' (drawer .holding .none .none)).wall.lanes.get 0).forced = false)
      ∧ ((at' (drawer .holding .none .none)).wall.transport.state = .idle ∧ (at' (drawer .holding .none .none)).wall.held = false
          ∧ (at' (drawer .holding .none .none)).wall.transport.queue = []
          ∧ ((at' (drawer .holding .none .none)).wall.bins.get retractBin).full = false)
      ∧ ((at' (fun w => drawer .holding .none .none (w.modTransport fun t => { t with state := .unknown }))).wall.takesNow (lanePage 0) 3 .retract = true
      ∧ (drawer .holding .none .none (readyWall.modTransport fun t => { t with state := .unknown })).transport.state ≠ .idle)
      ∧ ((fullBins [1]).takesNow (lanePage 0) 3 .retract = true ∧ ((fullBins [1]).bins.get retractBin).full = true
        ∧ ((fullBins [1]).bins.get rejectBin).full = false ∧ (fullBins [1]).transport.state = .idle)
      ∧ ((fullBins [0, 1]).takesNow (lanePage 0) 3 .retract = true ∧ ((fullBins [0, 1]).bins.get retractBin).full = true
        ∧ ((fullBins [0, 1]).bins.get rejectBin).full = true ∧ (fullBins [0, 1]).transport.queue = []) := by decide +kernel

/-- The hypotheses of Obligations.EnvelopeOrdersBegin about a DEPOSIT are met together. -/
theorem witness_EnvelopeOrdersBegin_deposit :
    State.reset.supply = true
      ∧ readyWall.takesNow (lanePage 0) 2 .deposit = true
      ∧ (readyWall.lockdown = false ∧ (readyWall.lanes.get 0).state = .opened ∧ (readyWall.lanes.get 0).pocket.state = .empty)
      ∧ (readyWall.bins.get depositBin).count < (readyWall.bins.get depositBin).capacity
      ∧ ((readyWall.lanes.get 0).drawer = .stowed ∧ (readyWall.lanes.get 0).forced = false
          ∧ (readyWall.lanes.get 0).owner = none) := by decide +kernel

/-- The hypotheses of Obligations.EnvelopeOrdersBegin about a CAPTURE and a RETURN are met together. -/
theorem witness_EnvelopeOrdersBegin_pocket :
    (at' held).supply = true
      ∧ ((held readyWall).lanes.get 0).pocket.state = .held
      ∧ (at' held).wall.takesNow (lanePage 0) 2 .capture = true
      ∧ ((held readyWall).bins.get depositBin).count < ((held readyWall).bins.get depositBin).capacity
      ∧ (held readyWall).conveyor.state ≠ .faulted
      ∧ (at' held).wall.takesNow (lanePage 0) 2 .returnEnvelope = true
      ∧ (((held readyWall).lanes.get 0).drawer = .stowed ∧ ((held readyWall).lanes.get 0).forced = false
          ∧ ((held readyWall).lanes.get 0).owner = none) := by decide +kernel

/-- The hypotheses of Obligations.ExtendedSensor are met together. -/
theorem witness_ExtendedSensor :
    State.reset.supply = true
      ∧ (readyWall.lanes.get 0).drawer ≠ .opening
      ∧ ((locked openingWall).lanes.get 0).drawer = .opening
      ∧ (locked openingWall).lockdown = true
      ∧ ((locked openingWall).lanes.get 0).owner ≠ none
      ∧ (openingWall.modLane 0 fun l => { l with ownerClose := some .order }).lockdown = false
      ∧ ((openingWall.modLane 0 fun l => { l with ownerClose := some .order }).lanes.get 0).ownerClose = some .order
      ∧ (openingWall.lanes.get 0).ownerClose = none := by decide +kernel

/-- The hypotheses of Obligations.StowedSensor are met together. -/
theorem witness_StowedSensor :
    State.reset.supply = true
      ∧ ((closingOwnerless.lanes.get 0).drawer = .closing ∧ (closingOwnerless.lanes.get 0).forced = false
          ∧ (closingOwnerless.points.get 14).live = closingOwnerless.anyForced)
      ∧ closingOwnerless.pathReset 2 = none
      ∧ (order 4 1 .pathReset .running [2#16] readyWall).pathReset 2 = some 1
      ∧ ((closingOwned.lanes.get 0).drawer = .closing ∧ (closingOwned.lanes.get 0).forced = false
          ∧ (closingOwned.points.get 14).live = closingOwned.anyForced)
      ∧ closingOwned.kindAt (lanePage 0) 2 = some .deposit
      ∧ (closingOwned.slot (lanePage 0) 2).cancelPending = false
      ∧ ((closingReturn.lanes.get 0).drawer = .closing ∧ (closingReturn.lanes.get 0).forced = false
          ∧ (closingReturn.points.get 14).live = closingReturn.anyForced)
      ∧ closingReturn.kindAt (lanePage 0) 2 = some .returnEnvelope
      ∧ (closingReturn.lanes.get 0).itemSensor = false := by decide +kernel

/-- The hypotheses of Obligations.StowedSensor are met together. -/
theorem witness_StowedSensor_left :
    ((leftWall.points.get 14).live = leftWall.anyForced)
      ∧ (leftWall.lanes.get 0).owner = some 1
      ∧ leftWall.orderOf 0 .dispense = some 1
      ∧ (leftWall.slot (lanePage 0) 1).context = some (context .inDrawer)
      ∧ leftWall.engine.loaded.map Loaded.lane ≠ some 0
      ∧ (leftWall.lanes.get 0).itemSensor = true
      ∧ leftWall.transport.state = .unknown := by decide +kernel

/-- The hypotheses of Obligations.Obstructions are met together. -/
theorem witness_Obstructions :
    State.reset.supply = true
      ∧ ((closingOwned.lanes.get 0).drawer = .closing ∧ closingOwned.drawerDriven 0 = true)
      ∧ ((closingOwned.lanes.get 0).owner ≠ none ∧ ((closingOwned.modLane 0 fun l => { l with bounce := 2 }).lanes.get 0).bounce < 3)
      ∧ ((readyWall.lanes.get 0).drawer ≠ .closing
        ∧ (closingOwnerless.modLane 0 fun l => { l with obstructed := true }).drawerDriven 0 = false)
      ∧ (closingOwnerless.drawerDriven 0 = true ∧ (closingOwnerless.lanes.get 0).owner = none)
      ∧ (3 ≤ ((closingOwnerless.modLane 0 fun l => { l with bounce := 3 }).lanes.get 0).bounce
          ∧ closingOwnerless.pathReset 2 = none)
      ∧ ((closingOwned.modLane 0 fun l => { l with bounce := 3 }).drawerDriven 0 = true ∧ (closingOwned.lanes.get 0).owner = some 2
        ∧ closingOwned.kindAt (lanePage 0) 2 = some .deposit ∧ closingReturn.kindAt (lanePage 0) 2 = some .returnEnvelope)
      ∧ (closingDispense.orderOf 0 .dispense = some 1 ∧ (closingDispense.lanes.get 0).owner = some 1 ∧ closingDispense.contextOf 0 ≠ none
        ∧ (closingDispense.tallyOf 0).map Tally.faulted = some false ∧ closingDispense.engine.loaded.map Loaded.lane ≠ some 0
        ∧ closingDispense.drawerDriven 0 = true ∧ closingDispense.tallyOf 0 = some tally
        ∧ closingDispense.contextOf 0 = some (context .inDrawer))
      ∧ ((closingOwned.lanes.get 0).travel = .inward ∧ (closingReturn.lanes.get 0).travel = .inward
        ∧ (closingReturn.lanes.get 0).owner = some 2) := by decide +kernel

/-- Orders that wait for the drawer behind its owner, and a running PATH RESET of it, as Obligations.Obstructions and Obligations.DrawerJams ask for them. -/
theorem witness_jams_end_orders :
    ((resetting (bounced closingOwnerless)).pathReset 2 = some 1 ∧ (resetting (bounced closingOwnerless)).drawerDriven 0 = true
        ∧ 3 ≤ ((resetting (bounced closingOwnerless)).lanes.get 0).bounce)
      ∧ (let w := queuedBehind (bounced closingDispense); w.drawerDriven 0 = true ∧ (w.lanes.get 0).owner = some 1 ∧ (w.lanes.get 0).waiting = [2]
          ∧ (w.lanes.get 0).waiting.Nodup ∧ w.kindAt (lanePage 0) 2 = some .deposit ∧ w.orderOf 0 .dispense = some 1
          ∧ (w.kindAt (lanePage 0) 2).map Kind.track ≠ (w.kindAt (lanePage 0) 1).map Kind.track)
      ∧ (let w := (waiting 1 (dispensing (context .drawerWait) closingOwned)).modLane 0 fun l => { l with owner := some 2 };
          w.drawerDriven 0 = true ∧ (w.lanes.get 0).owner = some 2 ∧ (w.lanes.get 0).waiting = [1] ∧ w.kindAt (lanePage 0) 1 = some .dispense
            ∧ w.orderOf 0 .dispense = some 1 ∧ w.contextOf 0 ≠ none ∧ (w.tallyOf 0).map Tally.faulted = some false)
      ∧ (let w := (orderWaits 2 .returnEnvelope (closingDispense.pocketMove 0 .returning (some 2))).modLane 0 fun l => { l with owner := some 1 };
          w.drawerDriven 0 = true ∧ (w.lanes.get 0).owner = some 1 ∧ (w.lanes.get 0).waiting = [2] ∧ w.kindAt (lanePage 0) 2 = some .returnEnvelope
            ∧ (w.kindAt (lanePage 0) 1).map Kind.track ≠ some .envelope) := by decide +kernel

/-- The hypotheses of Obligations.ButtonsItemSensorAndTimers are met together. -/
theorem witness_ButtonsItemSensorAndTimers :
    State.reset.supply = true
      ∧ offeredTake.offering 0 .take = true
      ∧ ((offeredTake.modLane 0 fun l => { l with window := some 2000 }).lanes.get 0).window ≠ none
      ∧ (offeredTake.lanes.get 0).itemSensor = false
      ∧ (offeredTake.lanes.get 0).window = none
      ∧ offeredDeposit.offering 0 .deposit = true
      ∧ readyWall.offering 0 .take = false
      ∧ readyWall.offering 0 .deposit = false
      ∧ ((offeredDeposit.lanes.get 0).drawer = .offered ∧ (offeredDeposit.lanes.get 0).cycle = .deposit
        ∧ ((offeredDeposit.modLane 0 fun l => { l with itemSensor := true }).lanes.get 0).itemSensor = true)
      ∧ (readyWall.lanes.get 0).drawer ≠ .offered := by decide +kernel

/-- The hypotheses of Obligations.DrawerJams are met together. -/
theorem witness_DrawerJams :
    State.reset.supply = true
      ∧ (readyWall.pathReset 2 = none)
      ∧ (closingOwnerless.drawerDriven 0 = true ∧ (closingOwnerless.lanes.get 0).owner = none)
      ∧ (closingOwned.drawerDriven 0 = true ∧ (closingOwned.lanes.get 0).owner = some 2 ∧ closingOwned.kindAt (lanePage 0) 2 = some .deposit)
      ∧ ((closingOwned.lanes.get 0).travel = .inward ∧ (openingWall.lanes.get 0).travel = .outward)
      ∧ (closingDispense.drawerDriven 0 = true ∧ (closingDispense.lanes.get 0).owner = some 1
        ∧ closingDispense.orderOf 0 .dispense = some 1 ∧ closingDispense.contextOf 0 = some (context .inDrawer)
        ∧ closingDispense.tallyOf 0 = some tally ∧ closingDispense.engine.loaded.map Loaded.lane ≠ some 0)
      ∧ (closingReturn.drawerDriven 0 = true ∧ (closingReturn.lanes.get 0).owner = some 2
        ∧ closingReturn.kindAt (lanePage 0) 2 = some .returnEnvelope ∧ (closingReturn.lanes.get 0).travel = .inward)
      ∧ ((liftingDeposit.lanes.get 0).drawer = .lifting ∧ (liftingDeposit.lanes.get 0).travel = .liftToPocket ∧ liftingDeposit.held = false
          ∧ (liftingDeposit.lanes.get 0).forced = false)
      ∧ (liftingDeposit.lanes.get 0).owner = some 2
      ∧ liftingDeposit.kindAt (lanePage 0) 2 = some .deposit
      ∧ ((liftingOut.lanes.get 0).drawer = .lifting ∧ (liftingOut.lanes.get 0).travel = .liftToDrawer ∧ liftingOut.held = false
          ∧ (liftingOut.lanes.get 0).forced = false ∧ (liftingOut.lanes.get 0).owner = some 2
          ∧ liftingOut.kindAt (lanePage 0) 2 = some .returnEnvelope) := by decide +kernel

/-- The hypotheses of Obligations.DrawerJams about a jammed lift with a waiting order and a PATH RESET are met, and those of the commands that act on nothing. -/
theorem witness_DrawerJams_lift :
    (∀ w ∈ [liftWaited .deposit .liftToPocket, liftWaited .returnEnvelope .liftToDrawer], (w.lanes.get 0).drawer = .lifting ∧ w.held = false
        ∧ (w.lanes.get 0).forced = false ∧ w.pathReset 2 = some 1 ∧ (w.lanes.get 0).waiting = [1] ∧ (w.lanes.get 0).owner = some 2
        ∧ w.kindAt (lanePage 0) 1 = some .dispense ∧ w.orderOf 0 .dispense = some 1 ∧ w.contextOf 0 ≠ none
        ∧ (w.tallyOf 0).map Tally.faulted = some false)
      ∧ (let w := ((order 0 2 .returnEnvelope .accepted [] (dispensing (context .inDrawer) (drawer .lifting .liftToPocket .none readyWall))).modLane 0 fun l =>
            { l with owner := some 1, waiting := [2] });
          (w.lanes.get 0).waiting = [2] ∧ w.kindAt (lanePage 0) 2 = some .returnEnvelope
            ∧ (w.kindAt (lanePage 0) 1).map Kind.track ≠ some .envelope)
      ∧ (readyWall.drawerDriven 0 = false ∧ (readyWall.lanes.get 0).drawer ≠ .lifting)
      ∧ ((onHold liftingDeposit).held = true ∧ ((forcedOpen liftingDeposit).lanes.get 0).forced = true) := by decide +kernel

/-- The hypotheses of Obligations.StowedSensor are met by a DEPOSIT with a cancel pending and by a RETURN whose envelope was left. -/
theorem witness_StowedSensor_pending :
    (∀ item, ((closingPending item).lanes.get 0).drawer = .closing
        ∧ ((closingPending item).points.get 14).live = (closingPending item).anyForced
        ∧ ((closingPending item).lanes.get 0).owner = some 2 ∧ (closingPending item).kindAt (lanePage 0) 2 = some .deposit
        ∧ ((closingPending item).lanes.get 0).cycle = .deposit ∧ ((closingPending item).slot (lanePage 0) 2).cancelPending = true
        ∧ ((closingPending item).lanes.get 0).itemSensor = item)
      ∧ ((closingLeft.points.get 14).live = closingLeft.anyForced ∧ (closingLeft.lanes.get 0).owner = some 2
        ∧ closingLeft.kindAt (lanePage 0) 2 = some .returnEnvelope ∧ (closingLeft.lanes.get 0).cycle = .take
        ∧ (closingLeft.lanes.get 0).itemSensor = true) := by decide +kernel

/-- A DISPENSE with this context meets the hypotheses of Obligations.StowedSensor about a bundle that was taken. -/
def takenBundle (c : DispenseContext) : Bool :=
  decide (((takenWall c).lanes.get 0).drawer = .closing ∧ ((takenWall c).lanes.get 0).forced = false
    ∧ ((takenWall c).points.get 14).live = (takenWall c).anyForced ∧ ((takenWall c).lanes.get 0).owner = some 1
    ∧ (takenWall c).orderOf 0 .dispense = some 1 ∧ ((takenWall c).slot (lanePage 0) 1).context = some c
    ∧ (takenWall c).tallyOf 0 = some tally ∧ (takenWall c).engine.loaded.map Loaded.lane ≠ some 0
    ∧ ((takenWall c).lanes.get 0).cycle = .take ∧ ((takenWall c).lanes.get 0).itemSensor = false)

/-- The hypotheses of Obligations.StowedSensor are met by a taken bundle that is not the last, and by the last ones. -/
theorem witness_StowedSensor_taken :
    (takenBundle (context .inDrawer) ∧ 0 < Counts.total (context .inDrawer).outstanding ∧ (takenWall (context .inDrawer)).lockdown = false
        ∧ (takenWall (context .inDrawer)).transport.state = .unknown)
      ∧ takenBundle { context .inDrawer with outstanding := Counts.zero } ∧ takenBundle { context .inDrawer with final := true }
      ∧ takenBundle { context .inDrawer with endCause := .cancel } := by decide +kernel

/-- A DISPENSE whose close is about to end meets the hypotheses of Obligations.StowedSensor that concern a grant or an end at once. -/
def endsClose (w : Wall) (item : Bool) : Bool :=
  decide ((w.lanes.get 0).drawer = .closing ∧ (w.lanes.get 0).forced = false ∧ (w.points.get 14).live = w.anyForced
    ∧ w.transport.queue = [] ∧ (w.lanes.get 0).owner = some 1 ∧ w.orderOf 0 .dispense = some 1
    ∧ (w.slot (lanePage 0) 1).context = some (context .inDrawer) ∧ w.tallyOf 0 = some tally ∧ w.engine.loaded = none
    ∧ (w.lanes.get 0).cycle = .take ∧ (w.lanes.get 0).itemSensor = item)

/-- The hypotheses of Obligations.StowedSensor are met on an IDLE path, on a FAULTED one and under lockdown, with the bundle left and taken. -/
theorem witness_StowedSensor_path :
    (endsClose (path .idle leftWall) true ∧ (path .idle leftWall).held = false ∧ (leftWall.bins.get retractBin).full = false)
      ∧ endsClose (path .faulted leftWall) true
      ∧ (endsClose (path .idle closingDispense) false ∧ (path .idle closingDispense).held = false ∧ closingDispense.lockdown = false)
      ∧ (endsClose (path .faulted closingDispense) false ∧ 0 < Counts.total (context .inDrawer).outstanding)
      ∧ (endsClose (locked closingDispense) false ∧ (locked closingDispense).lockdown = true) := by decide +kernel

/-- The hypotheses of Obligations.StowedSensor are met by lanes in CLOSING under lockdown, with a lane that then settles, and by an order that then gets the drawer. -/
theorem witness_StowedSensor_evaluates :
    (let w := laneIn .closing (locked closingOwned); (w.lanes.get 0).state = .closing ∧ (w.lanes.get 0).drawer = .closing
        ∧ (w.lanes.get 0).forced = false ∧ (w.points.get 14).live = w.anyForced ∧ (w.lanes.get 0).owner = some 2
        ∧ 2 ∉ (w.lanes.get 0).waiting ∧ ∀ y, ((w.stowedAsserts 0).slot (lanePage 0) y).state.inProgress = false)
      ∧ (let w := (orderWaits 1 .deposit closingReturn).modLane 0 fun l => { l with owner := some 2 };
          (w.lanes.get 0).owner = some 2 ∧ (w.lanes.get 0).waiting = [1] ∧ ((w.stowedAsserts 0).lanes.get 0).owner = none
            ∧ ((w.stowedAsserts 0).lanes.get 0).waiting = [] ++ 1 :: [] ∧ (w.stowedAsserts 0).grantable 0 1 = true
            ∧ (∀ m, (w.stowedAsserts 0).settles m = false) ∧ ∀ m, m < 0 → ((w.stowedAsserts 0).lanes.get m).waiting = []) := by decide +kernel

/-- The hypotheses of Obligations.LiftsComplete are met together. -/
theorem witness_LiftsComplete :
    State.reset.supply = true
      ∧ ((liftingDeposit.lanes.get 0).drawer = .lifting ∧ (liftingDeposit.lanes.get 0).owner = some 2
          ∧ (liftingDeposit.lanes.get 0).travel = .liftToPocket)
      ∧ liftingDeposit.kindAt (lanePage 0) 2 = some .deposit
      ∧ (liftingBack.lanes.get 0).travel = .liftToPocket
      ∧ liftingBack.kindAt (lanePage 0) 2 = some .returnEnvelope
      ∧ ((liftingOut.lanes.get 0).travel = .liftToDrawer ∧ liftingOut.lockdown = false ∧ (liftingOut.lanes.get 0).ownerClose = none)
      ∧ ((liftingOut.modLane 0 fun l => { l with ownerClose := some .order }).lanes.get 0).ownerClose = some .order
      ∧ ((liftingOut.lanes.get 0).forced = false ∧ (liftingBack.lanes.get 0).forced = false ∧ (liftingDeposit.lanes.get 0).forced = false)
      ∧ (((forcedOpen liftingOut).lanes.get 0).forced = true
        ∧ ((forcedOpen liftingOut).lanes.get 0).drawer = .lifting)
      ∧ ((locked liftingOut).lockdown = true
        ∧ (locked liftingOut).kindAt (lanePage 0) 2 = some .returnEnvelope) := by decide +kernel

/-- The hypotheses of Obligations.ForcedMark are met together. -/
theorem witness_ForcedMark :
    State.reset.supply = true
      ∧ readyWall.supervised 14
      ∧ ((readyWall.lanes.get 0).stowedSensor = true ∧ readyWall.drawerDriven 0 = false)
      ∧ ((openingWall.lanes.get 0).stowedSensor = true ∧ openingWall.drawerDriven 0 = true)
      ∧ ((readyWall.modLane 3 fun l => { l with forced := true }).lanes.get 3).forced = true
      ∧ (readyWall.lanes.get 3).drawer = .stowed := by unfold Wall.supervised; decide +kernel

/-- The hypotheses of Obligations.ForcedMark are met by a drawer that has not left its stowed sensor: driven, stopped by hold, and JAMMED. -/
theorem witness_ForcedMark_leaving :
    ((leavingWall.lanes.get 0).leaving = true ∧ leavingWall.drawerDriven 0 = true ∧ (leavingWall.lanes.get 0).drawer = .opening
        ∧ (leavingWall.lanes.get 0).owner = some 2)
      ∧ (((onHold leavingWall).lanes.get 0).leaving = true ∧ (onHold leavingWall).drawerDriven 0 = false)
      ∧ (((leavingWall.travelOverrun 0).lanes.get 0).leaving = true ∧ (leavingWall.travelOverrun 0).drawerDriven 0 = false)
      ∧ ((leavingWall.lanes.get 1).stowedSensor = true ∧ ((forcedOpen closingOwned).lanes.get 0).leaving = false) := by decide +kernel

/-- The hypotheses of Obligations.HoldLimitExpires are met together. -/
theorem witness_HoldLimitExpires :
    State.reset.supply = true
      ∧ readyWall.holdLimitRuns 0 = false
      ∧ (held readyWall).holdLimitRuns 0 = true
      ∧ (readyWall.bins.get depositBin).full = false
      ∧ readyWall.conveyor.state ≠ .faulted
      ∧ ((readyWall.modBin 2 fun b => { b with full := true }).bins.get depositBin).full = true
      ∧ (readyWall.modConveyor fun c => { c with state := .faulted }).conveyor.state = .faulted := by decide +kernel

/-- The hypotheses of Obligations.GateEdges are met together. -/
theorem witness_GateEdges :
    State.reset.supply = true
      ∧ readyWall.gate.inPassage = false
      ∧ gateWall.gate.current = some ([], { single with measure := none }, [])
      ∧ gateWall.transport.watch ≠ []
      ∧ (retracting .sweeping 0 readyWall).transport.join = .retract 0
      ∧ readyWall.startClearance.transport.join = .clearance
      ∧ (tenure (context .building) readyWall).transport.join = .dispense 0
      ∧ (latePicks.transport.join = .dispense 0 ∧ latePicks.gate.inPassage = false
        ∧ latePicks.gate.openPicks = [{ cassette := 0, travel := 401 }] ++ { cassette := 1, travel := 400 } :: [])
      ∧ ((∀ q ∈ missWall.gate.openPicks, 400 < q.travel) ∧ missWall.gate.lastPick = none
        ∧ (missWall.modGate fun g => { g with lastPick := some 0 }).gate.lastPick = some 0)
      ∧ single.reached = false
      ∧ (readyWall.transport.state ≠ .granted) := by decide +kernel

/-- The hypotheses of Obligations.ClassesAndRoutes are met, each at its boundary. -/
theorem witness_ClassesAndRoutes :
    (readyWall.noteLength 0 + readyWall.lengthTolerance 0 < 645 ∧ 644 ≤ readyWall.noteLength 0 + readyWall.lengthTolerance 0
        ∧ 0 < readyWall.noteLength 0)
      ∧ (603 + readyWall.lengthTolerance 0 < readyWall.noteLength 0 ∧ readyWall.noteLength 0 ≤ 604 + readyWall.lengthTolerance 0)
      ∧ (readyWall.doubleThreshold 0 < 166 ∧ 165 ≤ readyWall.doubleThreshold 0 ∧ 0 < (readyWall.cassettes.get 0).tr)
      ∧ (59 < (readyWall.cassettes.get 0).tr / 2 ∧ (readyWall.cassettes.get 0).tr / 2 ≤ 60)
      ∧ (79 < readyWall.gapSettle 0 ∧ readyWall.gapSettle 0 ≤ 80)
      ∧ (Source.retract 0 ≠ .cassette 0 ∧ Source.clearance ≠ .retract 0 ∧ 0 < readyWall.shortestNote ∧ 0 < readyWall.denomination 0)
      ∧ (∀ c, Wall.reset.denomination c = 0) := by decide +kernel

/-- The hypotheses of Obligations.DiverterEdges are met together. -/
theorem witness_DiverterEdges :
    State.reset.supply = true
      ∧ (diverterWall.transport.watch ≠ [] ∧ 7 ∉ diverterWall.transport.exitedEarly)
      ∧ (splitAtFirst (fun y => !y.reached) diverterWall.gate.passages).isSome = true
      ∧ (single.source = .cassette 0 ∧ (single.measure.map Measure.cls) = some .single ∧ (single.measure.map Measure.estimate) = some 1)
      ∧ (diverterWall.gate.latch = some (.stacker, single.seq) ∧ diverterWall.gate.acceptEnable = true ∧ diverterWall.transport.join = .dispense 0)
      ∧ diverterWall.orderOf 0 .dispense = some 1
      ∧ diverterWall.engine.loaded.map Loaded.lane = some 0
      ∧ (diverterWall.modGate fun g => { g with acceptEnable := false }).gate.acceptEnable = false := by decide +kernel

/-- The hypotheses of Obligations.EncoderEdges are met together. -/
theorem witness_EncoderEdges :
    State.reset.supply = true
      ∧ readyWall.gate.loss = false
      ∧ (readyWall.modGate fun g => { g with loss := true }).gate.loss = true
      ∧ (gateWall.gate.presence = true ∧ readyWall.gate.presence = false ∧ gateWall.held = false ∧ gateWall.transport.join = .dispense 0)
      ∧ (standingRetract.transport.join = .retract 0 ∧ (standingRetract.lanes.get 0).forced = true ∧ standingRetract.gate.loss = false)
      ∧ (sweptWall.transport.join = .retract 0 ∧ (sweptWall.lanes.get 0).forced = false)
      ∧ (let w := sweepAt 799 false .none; w.transport.join = .retract 0 ∧ w.transport.state = .granted
        ∧ (w.lanes.get 0).bundle.phase = .sweeping ∧ w.transport.sweepFound = .none)
      ∧ (sweptWall.transport.sweepFound ≠ .none ∧ (drainedWall.lanes.get 0).bundle.phase ≠ .sweeping)
      ∧ (onHold gateWall).held = true := by decide +kernel

/-- The hypotheses of Obligations.PicksAndMisses are met together. -/
theorem witness_PicksAndMisses :
    State.reset.supply = true
      ∧ (locked readyWall).lockdown = true
      ∧ readyWall.transport.state ≠ .granted
      ∧ ((tenure (context .building) readyWall).readyPick = some 0 ∧ (tenure (context .building) readyWall).gate.openPicks.length < 4)
      ∧ (missWall.transport.watch ≠ [] ∧ missWall.gate.openPicks = [{ cassette := 0, travel := 401 }])
      ∧ (fourPicks.readyPick = some 1 ∧ fourPicks.gate.openPicks = List.replicate 4 { cassette := 0, travel := 300 })
      ∧ (let w := missWall.modTransport fun t => { t with watch := [], state := .idle, join := .none };
          w.transport.watch = [] ∧ w.transport.state ≠ .granted ∧ w.gate.openPicks = [{ cassette := 0, travel := 401 }])
      ∧ (let w := missWall.modTransport fun t => { t with watch := [] };
          w.transport.join = .dispense 0 ∧ w.contextOf 0 = some (context .building) ∧ (context .building).endCause = .none
            ∧ (context .building).final = false)
      ∧ readyWall.gate.missDue = false
      ∧ ((fourPicks.cassettes.get 0).misses = 2 ∧ (missWall.cassettes.get 0).misses < 2)
      ∧ (missWall.cassettes.get 0).state = .inService
      ∧ readyWall.readyPick = none := by decide +kernel

/-- Each condition of Wall.readyPick decides at its boundary: the target, the pacing, and the count that is pending from the first cassette. -/
theorem witness_PicksAndMisses_ready :
    (let w := buildingNone.modEngine fun e => { e with routedInBundle := 2 }; w.readyPick = some 0)
      ∧ (let w := buildingNone.modEngine fun e => { e with routedInBundle := 3 }; w.readyPick = none)
      ∧ (let k := readyWall.noteLength 0 + readyWall.gapSettle 0 + 100;
          (buildingNone.modEngine fun e => { e with lastRelease := some 0, sinceRelease := k }).readyPick = some 0
            ∧ (buildingNone.modEngine fun e => { e with lastRelease := some 0, sinceRelease := k - 1 }).readyPick = none)
      ∧ (let w := (tenure { context .building with outstanding := #v[1, 1, 0, 0] } readyWall).modGate fun g =>
            { g with openPicks := [{ cassette := 0, travel := 0 }] };
          w.readyPick = some 1)
      ∧ (remixing buildingNone).readyPick = none ∧ (onHold buildingNone).readyPick = none ∧ (locked buildingNone).readyPick = none := by
  decide +kernel

/-- The hypotheses of Obligations.TransportFaults are met together. -/
theorem witness_TransportFaults :
    State.reset.supply = true
      ∧ (jamWall.transport.overdue = true ∧ jamWall.held = false ∧ jamWall.transport.join = .none ∧ (onHold jamWall).held = true)
      ∧ (standingRetract.transport.overdue = true ∧ standingRetract.transport.join = .retract 0
        ∧ (standingRetract.lanes.get 0).forced = true)
      ∧ ((forcedOpen sweptWall).transport.watch = [] ∧ (forcedOpen sweptWall).transport.state ≠ .clearing)
      ∧ ((tenure (context .delivering) readyWall).deliveringLane = some 0 ∧ (tenure (context .delivering) readyWall).held = false
          ∧ ((tenure (context .delivering) readyWall).lanes.get 0).forced = false)
      ∧ (readyWall.transport.watch = [] ∧ readyWall.transport.state ≠ .clearing ∧ readyWall.held = false ∧ (onHold readyWall).held = true)
      ∧ (tenure (context .building) readyWall).beltDriven = true
      ∧ (readyWall.jamDue = false ∧ jamWall.jamDue = true ∧ (onHold jamWall).jamDue = false ∧ standingRetract.jamDue = false)
      ∧ (readyWall.modTransport fun t => { t with watch := [watched 7 none 1199] }).transport.overdue = false
      ∧ readyWall.beltDriven = false := by decide +kernel

/-- The conditions in Wall.madeActive are met: a point that goes ACTIVE in an ARMED zone with the lockdown flag and without it, in a SUPERVISORY zone, in an
ARMABLE zone with an entry delay, and one that was ACTIVE already. -/
theorem witness_madeActive :
    (∀ p ∈ [12, 13, 15], (internalArmed true readyWall).pointLocks p = true ∧ (internalArmed false readyWall).pointAlarms p = true
        ∧ (internalArmed false readyWall).pointLocks p = false ∧ readyWall.pointAlarms p = false)
      ∧ ((raised 12 true (internalArmed true readyWall)).pointAlarms 12 = false)
      ∧ (let w := (readyWall.modZone 3 fun z => { z with mode := .armable, state := .armed, entryDelay := 1 }).modPoint 12 fun x =>
            { x with entryDelay := true };
          w.pointAlarms 12 = false ∧ (w.zoneMet 12).state = .entryDelay)
      ∧ (locked (internalArmed true readyWall)).pointLocks 12 = false := by decide +kernel

/-- The wall meets the hypotheses of Obligations.FaultEndings about a DISPENSE of lane 0 that holds the path. -/
def faultsTenure (w : Wall) (c : DispenseContext) : Bool :=
  decide (w.transport.join = .dispense 0 ∧ w.orderOf 0 .dispense = some 1 ∧ w.tallyOf 0 = some tally
    ∧ w.engine.loaded = some { lane := 0, slot := 1, context := c } ∧ w.transport.queue = [])

/-- The hypotheses of Obligations.FaultEndings about the holder of the path are met, each together. -/
theorem witness_FaultEndings_holder :
    (readyWall.gate.inPassage = false ∧ readyWall.gate.passages = [])
      ∧ (faultsTenure buildingNone (context .building) ∧ buildingNone.transport.stackerCount = 0)
      ∧ (faultsTenure buildingOne (context .building) ∧ 0 < buildingOne.transport.stackerCount ∧ buildingOne.transport.dump = none)
      ∧ (faultsTenure deliveryWall (context .delivering) ∧ 0 < deliveryWall.transport.stackerCount ∧ deliveryWall.gate.passages = [])
      ∧ (faultsTenure purgingWall { context .purging with endCause := .cancel }
        ∧ purgingWall.transport.dump = some { purpose := .tenure, leftMs := 0 })
      ∧ (sweptWall.transport.join = .retract 0 ∧ sweptWall.orderOf 0 .dispense = none ∧ sweptWall.orderOf 0 .retract = some 3
        ∧ sweptWall.gate.passages = [] ∧ sweptWall.transport.queue = [] ∧ 0 < (sweptWall.lanes.get 0).bundle.pieces)
      ∧ ((stalledWall.stallSweep 0).transport.join = .retract 0 ∧ ((stalledWall.stallSweep 0).lanes.get 0).bundle.stalled.isSome = true
        ∧ (stalledWall.stallSweep 0).orderOf 0 .retract = some 3 ∧ ((stalledWall.stallSweep 0).lanes.get 0).drawer = .jammed)
      ∧ (sweptWall.modBundle 0 fun b => { b with pieces := 0 }).transport.join = .retract 0
      ∧ (retractingBundle.transport.join = .retract 0 ∧ retractingBundle.orderOf 0 .dispense = some 1
        ∧ retractingBundle.contextOf 0 = some (context .retracting) ∧ retractingBundle.tallyOf 0 = some { tally with bundleLeft := true }
        ∧ retractingBundle.engine.loaded.map Loaded.lane ≠ some 0)
      ∧ ((order 4 1 .pathReset .running [0#16] clearanceDump).transport.join = .clearance
        ∧ (order 4 1 .pathReset .running [0#16] clearanceDump).pathReset 0 = some 1)
      ∧ ((∀ q ∈ [12, 15], deliveryWall.pointLocks q = false ∧ (internalArmed true deliveryWall).pointLocks q = true
          ∧ retractingBundle.pointLocks q = false ∧ (internalArmed true retractingBundle).pointLocks q = true)
        ∧ (deliveryWall.lanes.get 0).drawer = .stowed ∧ deliveryWall.transport.queue = []) := by decide +kernel

/-- The hypotheses of Obligations.FaultEndings about the exit watch and the queue are met, each together. -/
theorem witness_FaultEndings_queue :
    ((gateWall.gate.passages.map Passage.seq).Nodup ∧ gateWall.transport.watch ≠ [] ∧ gateWall.transport.exitedEarly = []
        ∧ gateWall.gate.inPassage = true ∧ ∀ x ∈ gateWall.gate.passages, x.measure = none ∧ x.reached = false)
      ∧ (∀ x ∈ diverterWall.gate.passages, x.measure ≠ none ∧ x.reached = false)
      ∧ (bundleWaiting.transport.queue = [{ lane := 0, kind := .bundle }] ∧ bundleWaiting.orderOf 0 .dispense = some 1
        ∧ bundleWaiting.tallyOf 0 = some tally ∧ bundleWaiting.transport.join = .none
        ∧ (bundleWaiting.slot (lanePage 0) 1).context = some (context .bundleWait) ∧ bundleWaiting.engine.loaded.map Loaded.lane ≠ some 0
        ∧ bundleWaiting.gate.passages = [])
      ∧ (queuedRetract.transport.queue = [{ lane := 0, kind := .retract }] ∧ queuedRetract.transport.join = .none
        ∧ queuedRetract.orderOf 0 .dispense = none ∧ queuedRetract.orderOf 0 .retract = some 3 ∧ queuedRetract.engine.loaded = none)
      ∧ (bundleRetractQueued.transport.queue = [{ lane := 0, kind := .retract }] ∧ bundleRetractQueued.transport.join = .clearance
        ∧ bundleRetractQueued.orderOf 0 .dispense = some 1 ∧ bundleRetractQueued.tallyOf 0 = some tally
        ∧ (bundleRetractQueued.slot (lanePage 0) 1).context = some (context .retracting)
        ∧ bundleRetractQueued.engine.loaded.map Loaded.lane ≠ some 0)
      ∧ (∀ q ∈ [12, 15], bundleWaiting.pointLocks q = false ∧ (internalArmed true bundleWaiting).pointLocks q = true
        ∧ queuedRetract.pointLocks q = false ∧ (internalArmed true bundleRetractQueued).pointLocks q = true)
      ∧ ((context .bundleWait).endCause = .none ∧ tally.faulted = false)
      ∧ ((bundleRetractQueued.lanes.get 0).drawer ≠ .offered ∧ (bundleRetractQueued.lanes.get 0).drawer ≠ .opening
        ∧ bundleRetractQueued.contextOf 0 = some (context .retracting)) := by decide +kernel

/-- The hypotheses of Obligations.ExitEdges are met together. -/
theorem witness_ExitEdges :
    State.reset.supply = true
      ∧ ((watched 7 (some (1, .stacker)) 1150).settled = some (1, .stacker) ∧ (watched 7 (some (2, .reject)) 1150).settled = some (2, .reject))
      ∧ (drainedWall.transport.join = .retract 0 ∧ (tenure (context .building) readyWall).transport.join = .dispense 0)
      ∧ (readyWall.startClearance.transport.watch = [] ∧ readyWall.startClearance.transport.state = .clearing)
      ∧ (earlyWall.transport.watch = [watched 7 none 1150] ∧ earlyWall.transport.join = .dispense 0
        ∧ earlyWall.contextOf 0 = some (context .building) ∧ (context .building).endCause = .none ∧ (context .building).final = false) := by
  decide +kernel

/-- The hypotheses of Obligations.Remixes about the command are met, each together. -/
theorem witness_Remixes :
    State.reset.supply = true
      ∧ (readyWall.nextRemix = none ∧ readyWall.remixReady 0 = false)
      ∧ remixWall.nextRemix = some 0
      ∧ ((remixing buildingNone).remixReady 0 = true
        ∧ ((remixing buildingNone).modGate fun g => { g with openPicks := [{ cassette := 0, travel := 0 }] }).remixReady 0 = false)
      ∧ (remixWall.remixReady 0 = true ∧ remixWall.orderOf 0 .dispense = some 1 ∧ remixWall.contextOf 0 = some (context .bundleWait)
        ∧ remixWall.tallyOf 0 = some { tally with remixWait := true })
      ∧ ((remixWall.slot (lanePage 0) 1).param 0 = 0
        ∧ remixWall.valueOf (context .bundleWait).routed ≤ (remixWall.slot (lanePage 0) 1).param 1
        ∧ Counts.total (context .bundleWait).routed ≤ remixWall.noteLimit)
      ∧ ((remixWall.releaseOutstanding 0).chooseMix
          ((remixWall.slot (lanePage 0) 1).param 1 - remixWall.valueOf (context .bundleWait).routed)
          (remixWall.noteLimit - Counts.total (context .bundleWait).routed)).isSome = true := by decide +kernel

/-- What Obligations.Remixes asks of an order of lane 0 that becomes final. -/
def becomesFinal (w : Wall) (c : DispenseContext) : Bool :=
  decide (w.remixReady 0 = true ∧ w.orderOf 0 .dispense = some 1 ∧ w.contextOf 0 = some c ∧ w.tallyOf 0 = some { tally with remixWait := true }
    ∧ ((w.slot (lanePage 0) 1).param 0 ≠ 0 ∨ (w.slot (lanePage 0) 1).param 1 < w.valueOf c.routed ∨ w.noteLimit < Counts.total c.routed
      ∨ (w.releaseOutstanding 0).chooseMix ((w.slot (lanePage 0) 1).param 1 - w.valueOf c.routed) (w.noteLimit - Counts.total c.routed) = none))

/-- The hypotheses of Obligations.Remixes about an order that becomes final are met in each phase, by an AMOUNT order and by a MIX order. -/
theorem witness_Remixes_final :
    becomesFinal (noNotes remixLate) (context .inDrawer)
      ∧ becomesFinal overRouted { context .inDrawer with routed := #v[4, 0, 0, 0] }
      ∧ becomesFinal (mixOrder remixLate) (context .inDrawer)
      ∧ becomesFinal (mixOrder (remixing deliveryWall)) (context .delivering)
      ∧ (becomesFinal (noNotes (remixing drawerWaiting)) (context .drawerWait) ∧ drawerWaiting.engine.loaded.map Loaded.lane ≠ some 0)
      ∧ (becomesFinal (mixOrder (remixing bundleWaiting)) (context .bundleWait) ∧ bundleWaiting.engine.loaded.map Loaded.lane ≠ some 0)
      ∧ (becomesFinal (noNotes (remixing buildingOne)) (context .building) ∧ 0 < buildingOne.transport.stackerCount
        ∧ buildingOne.engine.loaded = some { lane := 0, slot := 1, context := context .building }
        ∧ buildingOne.transport.join = .dispense 0 ∧ buildingOne.transport.state = .granted)
      ∧ (becomesFinal (mixOrder (remixing buildingNone)) (context .building) ∧ buildingNone.pathSettled = true
        ∧ buildingNone.transport.stackerCount = 0 ∧ buildingNone.transport.queue = []) := by decide +kernel

/-- The hypotheses of Obligations.Deliveries are met together. -/
theorem witness_Deliveries :
    State.reset.supply = true
      ∧ (readyBundle.orderOf 0 .dispense = some 1)
      ∧ readyBundle.readyDelivery = some 0
      ∧ (readyWall.readyDelivery = none ∧ readyWall.deliveringLane = none)
      ∧ ((readyBundle.modEngine fun e => { e with routedInBundle := 2 }).readyDelivery = none ∧ (remixing readyBundle).readyDelivery = none
        ∧ (onHold readyBundle).readyDelivery = none ∧ (forcedOpen readyBundle).readyDelivery = none)
      ∧ (deliveryWall.orderOf 0 .dispense = some 1 ∧ deliveryWall.deliveringLane = some 0)
      ∧ deliveryWall.engine.loaded = some { lane := 0, slot := 1, context := context .delivering }
      ∧ (deliveryWall.tallyOf 0 = some tally ∧ deliveryWall.transport.queue = [] ∧ deliveryWall.lockdown = false)
      ∧ (deliveryWall.held = false ∧ (deliveryWall.lanes.get 0).forced = false ∧ (onHold deliveryWall).held = true
        ∧ (onHold deliveryWall).deliveringLane = some 0)
      ∧ (cutDelivery.orderOf 0 .dispense = some 1 ∧ cutDelivery.deliveringLane = some 0 ∧ cutDelivery.held = false
        ∧ (cutDelivery.lanes.get 0).forced = false ∧ (cutDelivery.lanes.get 0).owner = some 1 ∧ cutDelivery.tallyOf 0 = some tally
        ∧ cutDelivery.engine.loaded = some { lane := 0, slot := 1, context := { context .delivering with endCause := .cancel } }
        ∧ cutDelivery.transport.queue = [] ∧ (cutDelivery.bins.get retractBin).full = false) := by decide +kernel

/-- The hypotheses of Obligations.PurgesAndClearances are met together. -/
theorem witness_PurgesAndClearances :
    State.reset.supply = true
      ∧ (purgeWall.readyPurge = some 0 ∧ purgeWall.orderOf 0 .dispense = some 1)
      ∧ (purgingWall.transport.dump.map Dump.purpose = some .tenure ∧ purgingWall.held = false
          ∧ purgingWall.transport.join = .dispense 0 ∧ purgingWall.orderOf 0 .dispense = some 1)
      ∧ (purgingWall.engine.loaded.map Loaded.slot = some 1 ∧ purgingWall.tallyOf 0 = some tally ∧ purgingWall.transport.queue = [])
      ∧ (clearanceDump.transport.dump.map Dump.purpose = some .clearance ∧ clearanceDump.held = false ∧ clearanceDump.transport.queue = []
          ∧ clearanceDump.pathReset 0 = none)
      ∧ (order 4 1 .pathReset .running [0#16] clearanceDump).pathReset 0 = some 1
      ∧ (0 < (clearanceDump.modTransport fun t => { t with seen := 1 }).transport.seen ∧ clearanceDump.transport.seen = 0
        ∧ clearanceDump.transport.unaccounted = 0)
      ∧ (faultDump none readyWall).transport.dump.map Dump.purpose = some (.fault none)
      ∧ (let w := faultDump (some 0) ((dispensing (context .purging) readyWall).modTally 0 fun t => { t with faulted := true });
          w.transport.dump.map Dump.purpose = some (.fault (some 0)) ∧ w.held = false ∧ w.orderOf 0 .dispense = some 1
            ∧ w.contextOf 0 = some (context .purging) ∧ w.tallyOf 0 = some { tally with faulted := true }
            ∧ w.engine.loaded.map Loaded.lane ≠ some 0)
      ∧ (onHold purgingWall).held = true
      ∧ readyWall.transport.dump = none
      ∧ (clearedBelt.beltCleared = true)
      ∧ (readyWall.readyPurge = none ∧ buildingOne.readyPurge = none ∧ (onHold purgeWall).readyPurge = none)
      ∧ (readyWall.beltCleared = false ∧ (clearedBelt.modTransport fun t => { t with clearPulses := 1 }).beltCleared = false
        ∧ clearanceDump.beltCleared = false) := by decide +kernel

/-- The hypotheses of Obligations.Sweeps are met together. -/
theorem witness_Sweeps :
    State.reset.supply = true
      ∧ sweptWall.readySweepEnd = some 0
      ∧ (stalledWall.readyStall = some 0 ∧ stalledWall.pathReset 2 = none)
      ∧ ((queuedBehind stalledWall).readyStall = some 0 ∧ ((queuedBehind stalledWall).lanes.get 0).waiting = [2]
        ∧ (queuedBehind stalledWall).kindAt (lanePage 0) 2 = some .deposit)
      ∧ (drainedWall.readyRetractEnd = some 0 ∧ drainedWall.orderOf 0 .dispense = none
          ∧ drainedWall.orderOf 0 .retract = some 3)
      ∧ (drainedWall.engine.loaded = none ∧ drainedWall.transport.queue = [] ∧ (drainedWall.lanes.get 0).bundle.stalled = none)
      ∧ (drainedWall.modBundle 0 fun b => { b with stalled := some drainedWall.decision }).readyRetractEnd = some 0
      ∧ 0 < (drainedWall.lanes.get 0).bundle.pieces
      ∧ (readyWall.readySweepEnd = none ∧ readyWall.readyStall = none ∧ readyWall.readyRetractEnd = none) := by decide +kernel

/-- The wall meets the hypotheses of Obligations.Sweeps about the end of a DISPENSE's retract, with `pieces` recovered. -/
def endsBundle (w : Wall) (pieces : Nat) : Bool :=
  decide (w.readyRetractEnd = some 0 ∧ w.orderOf 0 .dispense = some 1
    ∧ (w.slot (lanePage 0) 1).context = some (context .retracting) ∧ w.tallyOf 0 = some { tally with bundleLeft := true }
    ∧ w.engine.loaded = none ∧ w.transport.queue = [] ∧ (w.lanes.get 0).bundle.pieces = pieces)

/-- The hypotheses of Obligations.Sweeps are met by a DISPENSE whose retract ends with fewer pieces than its bundle had, with more, and after a stall. -/
theorem witness_Sweeps_dispense :
    endsBundle (drainedBundle 1) 1 ∧ endsBundle (drainedBundle 3) 3
      ∧ endsBundle ((drainedBundle 2).modBundle 0 fun b => { b with stalled := some readyWall.decision }) 2 := by decide +kernel

/-- The hypotheses of Obligations.ConveyorEvents are met together. -/
theorem witness_ConveyorEvents :
    State.reset.supply = true
      ∧ (queuedWall.readyServe = some 0 ∧ (queuedWall.lanes.get 0).pocket.owner = some 3 ∧ (queuedWall.slot (lanePage 0) 3).state = .accepted)
      ∧ (carriedWall.conveyor.state = .carrying ∧ carriedWall.conveyor.carried = some 0 ∧ (carriedWall.lanes.get 0).pocket.owner = some 3
          ∧ carriedWall.kindAt (lanePage 0) 3 = some .capture)
      ∧ readyWall.startConveyorClearance.conveyor.state = .clearing
      ∧ (readyWall.conveyor.state = .idle ∧ readyWall.conveyor.queue = [])
      ∧ (carriedBack.conveyor.state = .carrying ∧ carriedBack.conveyor.carried = some 0 ∧ (carriedBack.lanes.get 0).pocket.owner = some 2
        ∧ carriedBack.kindAt (lanePage 0) 2 = some .returnEnvelope ∧ carriedBack.carryingLane = some 0)
      ∧ (carriedAlone.conveyor.state = .carrying ∧ carriedAlone.conveyor.carried = some 0 ∧ (carriedAlone.lanes.get 0).pocket.owner = none
        ∧ carriedAlone.carryingLane = some 0)
      ∧ (carriedWall.carryingLane = some 0 ∧ carriedWall.conveyor.queue = [])
      ∧ (readyWall.startConveyorClearance.conveyorClears = true ∧ readyWall.startConveyorClearance.pathReset 1 = none
          ∧ readyWall.startConveyorClearance.conveyor.clearFromFault = false)
      ∧ (faultClearance.conveyorClears = true ∧ 0 < faultClearance.conveyor.seen ∧ faultClearance.conveyor.clearFromFault = true
        ∧ faultClearance.pathReset 1 = some 1 ∧ (faultClearance.lanes.get 0).pocket.state = .held
        ∧ (faultClearance.lanes.get 0).pocket.stranded = true)
      ∧ ((unattendedQueued readyWall).conveyor.state = .idle ∧ (unattendedQueued readyWall).conveyor.queue.Nodup
        ∧ ((unattendedQueued readyWall).lanes.get 1).pocket.unattended = true)
      ∧ ((unattendedQueued carriedWall).carryingLane = some 0 ∧ 0 ∉ (unattendedQueued carriedWall).conveyor.queue
        ∧ (unattendedQueued carriedWall).conveyor.queue = [1])
      ∧ ((fullDeposit.bins.get depositBin).capacity ≤ (fullDeposit.bins.get depositBin).count ∧ fullDeposit.readyServe = none
        ∧ (fullDeposit.modBin depositBin fun b => { b with count := b.capacity - 1 }).readyServe = some 0)
      ∧ (readyWall.carryingLane = none ∧ readyWall.conveyorClears = false)
      ∧ (readyWall.pointLocks 13 = false ∧ (internalArmed true readyWall).pointLocks 13 = true ∧ readyWall.transport.queue = []
        ∧ carriedWall.pointLocks 13 = false ∧ (internalArmed true carriedWall).pointLocks 13 = true) := by decide +kernel

/-- The hypotheses of Obligations.PointChanges are met together. -/
theorem witness_PointChanges :
    State.reset.supply = true
      ∧ ((readyWall.points.get 0).candidate = (readyWall.points.get 0).live)
      ∧ (readyWall.supervised 11
          ∧ ((raised 11 false readyWall).points.get 11).candidate ≠ ((raised 11 false readyWall).points.get 11).live) := by unfold Wall.supervised; decide +kernel

/-- The hypotheses of Obligations.ZoneReactions are met together. -/
theorem witness_ZoneReactions :
    State.reset.supply = true
      ∧ ((armedWall.points.get 0).zone = 0 ∧ (armedWall.points.get 0).live = false ∧ (armedWall.points.get 0).candidate = true)
      ∧ ((armedWall.zones.get 0).mode = .armable ∧ (armedWall.zones.get 0).state = .armed ∧ (armedWall.points.get 0).entryDelay = true
          ∧ 0 < (armedWall.zones.get 0).entryDelay)
      ∧ ((lockedArmed.points.get 1).candidate = true ∧ (lockedArmed.points.get 1).live = false
          ∧ (lockedArmed.zones.get 0).state = .armed ∧ (lockedArmed.points.get 1).entryDelay = false ∧ lockedArmed.lockdown = true)
      ∧ ((alwaysWall.points.get 6).zone = 2 ∧ (alwaysWall.points.get 6).candidate = true ∧ (alwaysWall.zones.get 2).state = .armed
          ∧ (alwaysWall.zones.get 2).mode = .always ∧ (alwaysWall.zones.get 2).lockdownFlag = false)
      ∧ ((delayWall.zones.get 0).state = .entryDelay ∧ (delayWall.zones.get 0).trigger = some 0 ∧ (delayWall.zones.get 0).lockdownFlag = false)
      ∧ ((undelayedWall.zones.get 0).state = .armed ∧ (undelayedWall.points.get 0).entryDelay = true ∧ (undelayedWall.zones.get 0).entryDelay = 0
          ∧ (undelayedWall.points.get 0).live = false ∧ (undelayedWall.points.get 0).candidate = true)
      ∧ (((delayedAgain 1).zones.get 0).state = .entryDelay ∧ ((delayedAgain 1).points.get 1).entryDelay = false
          ∧ ((delayedAgain 1).points.get 1).candidate = true ∧ (locked (delayedAgain 1)).lockdown = true)
      ∧ (((delayedAgain 0).zones.get 0).mode = .armable ∧ ((delayedAgain 0).zones.get 0).state = .entryDelay
          ∧ ((delayedAgain 0).points.get 0).entryDelay = true ∧ ((delayedAgain 0).points.get 0).candidate = true)
      ∧ (readyWall.zones.get 0).state ≠ .entryDelay := by decide +kernel

/-- The hypotheses of Obligations.AlarmLocksTheWall are met together. -/
theorem witness_AlarmLocksTheWall :
    State.reset.supply = true
      ∧ ((breachedWall.points.get 1).zone = 0 ∧ (breachedWall.points.get 1).live = false ∧ (breachedWall.points.get 1).candidate = true)
      ∧ ((breachedWall.zones.get 0).state = .armed ∧ (breachedWall.zones.get 0).mode = .armable ∧ (breachedWall.points.get 1).entryDelay = false)
      ∧ ((breachedWall.zones.get 0).lockdownFlag = true ∧ breachedWall.lockdown = false)
      ∧ ((undelayedWall.zones.get 0).entryDelay = 0 ∧ (undelayedWall.zones.get 0).lockdownFlag = true ∧ (undelayedWall.points.get 0).zone = 0)
      ∧ (((delayedAgain 1).zones.get 0).state = .entryDelay ∧ ((delayedAgain 1).zones.get 0).lockdownFlag = true
          ∧ (delayedAgain 1).lockdown = false ∧ ((delayedAgain 1).zones.get 0).mode ≠ .supervisory) := by
  decide +kernel

/-! ### Requests that wait, and the forms beside the plain ones -/

/-- A grant evaluation that Obligations.RetractBegins speaks of: the path IDLE without hold, and the first requests of the two kinds. -/
def evaluates (w : Wall) (r b : Option Request) : Bool :=
  decide (w.transport.state = .idle ∧ w.held = false ∧ w.transport.queue.find? (fun q => q.kind == .retract) = r
    ∧ w.transport.queue.find? (fun q => q.kind == .bundle) = b)

/-- The hypotheses of Obligations.RetractBegins about the grant evaluation are met: a retract with room, in the reject bin alone, and with none; a bundle
alone, behind retracts held back, and under lockdown; an empty queue, hold, and a path that is not IDLE. -/
theorem witness_RetractBegins_evaluation :
    (let r : Request := { lane := 1, kind := .retract }
     let b : Request := { lane := 0, kind := .bundle }
     let both := fun w => asking [r, b] (heldBack (dispensing (context .bundleWait) w))
     evaluates (heldBack readyWall) (some r) none ∧ ((heldBack readyWall).bins.get retractBin).full = false
      ∧ evaluates (heldBack (fullBins [1])) (some r) none ∧ ((heldBack (fullBins [1])).bins.get rejectBin).full = false
      ∧ evaluates (heldBack (fullBins [0, 1])) (some r) none ∧ ((heldBack (fullBins [0, 1])).bins.get rejectBin).full = true
      ∧ evaluates (both (fullBins [0, 1])) (some r) (some b) ∧ ((both (fullBins [0, 1])).bins.get retractBin).full = true
      ∧ evaluates bundleWaiting none (some b) ∧ bundleWaiting.lockdown = false ∧ bundleWaiting.orderOf 0 .dispense = some 1
      ∧ (bundleWaiting.slot (lanePage 0) 1).context = some (context .bundleWait)
      ∧ evaluates (locked bundleWaiting) none (some b) ∧ evaluates readyWall none none
      ∧ (onHold (heldBack readyWall)).held = true ∧ (path .unknown (heldBack readyWall)).transport.state ≠ .idle) := by decide +kernel

/-- The hypotheses of Obligations.RetractBegins, DispenseBegins and Evaluations about an order are met while another request waits. -/
theorem witness_requests_wait :
    (let w := heldBack (drawer .holding .none .none readyWall); w.takesNow (lanePage 0) 3 .retract = true ∧ (w.lanes.get 0).owner = none
        ∧ w.transport.state = .idle ∧ w.held = false ∧ w.transport.queue ≠ [])
      ∧ (let w := heldBack readyWall; w.takesNow (lanePage 0) 1 .dispense = true ∧ w.transport.queue ≠ [] ∧ (w.lanes.get 0).drawer = .stowed
        ∧ (w.posted (lanePage 0) 1 .dispense 7#16 [0#16, 380#16, 0#16, 0#16, 0#16, 0#16]).refusal (lanePage 0) 1 = none)
      ∧ (grants (heldBack retractBehind) [2] 3 [] .retract ∧ (heldBack retractBehind).transport.state ≠ .faulted)
      ∧ (grants (heldBack dispenseWaits) [] 1 [] .dispense ∧ (heldBack dispenseWaits).lockdown = false) := by decide +kernel

/-- The hypotheses of Obligations.BinResets are met by each bin while a RETRACT waits: an empty one, its request held back, hold, and a stranded pocket. -/
theorem witness_BinResets_retract :
    (∀ k ∈ [rejectBin, retractBin], (servicedBin k (heldBack readyWall)).takesNow servicePage 0 .binReset = true
        ∧ ((servicedBin k (heldBack readyWall)).bins.get k).door = true ∧ ((servicedBin k (heldBack readyWall)).bins.get retractBin).full = true
        ∧ evaluates (servicedBin k (heldBack readyWall)) (some { lane := 1, kind := .retract }) none)
      ∧ (((heldBack readyWall).modBin rejectBin fun b => { b with door := true }).bins.get retractBin).full = false
      ∧ (onHold (servicedBin rejectBin (heldBack readyWall))).takesNow servicePage 0 .binReset = true
      ∧ (let w := (servicedBin depositBin (held readyWall)).modPocket 0 fun p => { p with stranded := true, timerRunning := false, holdMs := 0 };
          w.takesNow servicePage 0 .binReset = true ∧ (w.lanes.get 0).pocket.state = .held ∧ (w.lanes.get 0).pocket.stranded = true)
      ∧ ((readyWall.modBin depositBin fun b => { b with full := true, door := true }).bins.get depositBin).full = true := by decide +kernel

/-- The hypotheses of Obligations.HoldCommands about the end of hold are met: a travel out, a close that goes on, and one whose obstruction sensor is active:
with an owner, without one, and at its fourth obstruction with a PATH RESET and with each kind of owner. -/
theorem witness_HoldCommands_resumes :
    ((openingWall.lanes.get 0).drawer = .opening ∧ openingWall.held = false)
      ∧ (closingOwned.drawerDriven 0 = true ∧ (closingOwned.lanes.get 0).obstructionSensor = false)
      ∧ (∀ w ∈ [closingOwned, closingOwnerless], (((blocked w).modPort fun p => { p with lineCause := false }).drawerDriven 0 = true
        ∧ ((blocked w).lanes.get 0).obstructionSensor = true ∧ ((blocked w).lanes.get 0).bounce < 3))
      ∧ (∀ w ∈ [closingOwned, closingReturn, closingDispense], let v := (blocked (bounced (resetting w))).modPort fun p => { p with lineCause := false };
          v.held = false ∧ v.drawerDriven 0 = true ∧ 3 ≤ (v.lanes.get 0).bounce ∧ v.pathReset 2 = some 1 ∧ (v.lanes.get 0).waiting = []
            ∧ (v.lanes.get 0).obstructionSensor = true)
      ∧ (closingDispense.contextOf 0 ≠ none ∧ (closingDispense.tallyOf 0).map Tally.faulted = some false
        ∧ closingDispense.engine.loaded.map Loaded.lane ≠ some 0)
      ∧ ((blocked closingOwned).port.lineCause = true ∧ (blocked closingOwned).port.orderCause = false
        ∧ (onHold (heldBack readyWall)).transport.queue ≠ [])
      ∧ (let w := (heldBack closingOwned).modPort fun p => { p with orderCause := true }; w.takesNow servicePage 0 .releaseWall = true
        ∧ w.port.lineCause = false) := by decide +kernel

/-- The hypotheses of Obligations.StowedSensor about a bundle are met with other requests in the queue, and with the retract bin or both bins full. -/
theorem witness_StowedSensor_queue :
    (let w := heldBack (path .idle leftWall); (w.lanes.get 0).drawer = .closing ∧ (w.lanes.get 0).owner = some 1 ∧ (w.lanes.get 0).itemSensor = true
        ∧ w.transport.queue ≠ [] ∧ w.transport.state ≠ .faulted ∧ (w.points.get 14).live = w.anyForced)
      ∧ (let w := heldBack (path .idle closingDispense); (w.lanes.get 0).owner = some 1 ∧ (w.lanes.get 0).itemSensor = false
        ∧ w.transport.queue ≠ [] ∧ w.lockdown = false)
      ∧ ([[retractBin], [rejectBin, retractBin]].all fun ks =>
          let w := ks.foldl (fun w k => w.modBin k fun b => { b with full := true }) (path .idle leftWall)
          endsClose w true && !w.held && (w.bins.get retractBin).full) := by decide +kernel

/-- The hypotheses of Obligations.DiverterEdges about a piece that is not let into the stacker are met: a pick by each of its routes to the settlement (one that
ends its order, one whose decision another piece has replaced), a piece still in the gate, and a piece of a retract. -/
theorem witness_DiverterEdges_rejects :
    (∀ w ∈ [rejectWall .thin 1 diverterWall, limitWall, crowdedWall, diverterWall.modGate fun g => { g with acceptEnable := false }],
        w.transport.watch ≠ [] ∧ 7 ∉ w.transport.exitedEarly ∧ (splitAtFirst (fun y => !y.reached) w.gate.passages).isSome = true
          ∧ (w.gate.latch ≠ some (.stacker, 7) ∨ w.gate.acceptEnable = false))
      ∧ (crowdedWall.gate.latch ≠ none ∧ crowdedWall.gate.latch.map Prod.snd ≠ some 7 ∧ single.measure.map Measure.route = some .stacker)
      ∧ (limitWall.transport.join = .dispense 0 ∧ (limitWall.contextOf 0).map DispenseContext.rejects = some readyWall.rejectLimit
        ∧ limitWall.tallyOf 0 = some tally ∧ 0 < (context .building).outstanding.get 0 ∧ limitWall.endBegun 0 = false)
      ∧ (gateWall.transport.watch ≠ [] ∧ ({ single with measure := none } : Passage).reached = false)
      ∧ (∀ c, (Source.retract 1) ≠ .cassette c) ∧ cutPiece.gate.passages.map Passage.source = [.retract 1] := by decide +kernel

/-- The hypotheses of Obligations.GateEdges about a passage whose front the diverter has met are met, by a pick and by a piece of a retract, which has left the
exit or not; and those about a cut passage. -/
theorem witness_GateEdges_past :
    (∀ e, ((longPiece e).gate.current = some ([], { single with measure := none, reached := true }, []) ∧ (longPiece e).transport.watch ≠ []))
      ∧ (7 ∈ (longPiece true).transport.exitedEarly ∧ 7 ∉ (longPiece false).transport.exitedEarly)
      ∧ (let w := retracting .sweeping 0 ((longPiece true).modGate fun g => { g with passages := g.passages.map fun x => { x with source := .retract 0 } });
          w.transport.join = .retract 0 ∧ w.gate.current = some ([], { single with measure := none, reached := true, source := .retract 0 }, []))
      ∧ (let w := (longPiece true).modTransport fun t => { t with watch := [] }; w.transport.watch = [] ∧ w.transport.state = .granted
        ∧ (w.contextOf 0).map DispenseContext.endCause = some .none ∧ (w.contextOf 0).map DispenseContext.final = some false
        ∧ (w.contextOf 0).map DispenseContext.rejects = some 0 ∧ 0 < w.rejectLimit)
      ∧ (cutPiece.gate.cut = true ∧ cutPiece.gate.current = some ([], { single with measure := none, source := .retract 1 }, [])) := by
  decide +kernel

/-- The hypotheses of Obligations.ExitEdges about the last piece on the watch are met, in a bundle that goes on, in a retract, and in a tenure that ends. -/
theorem witness_ExitEdges_last :
    (let w := lastPiece .stacker (tenure (context .building) readyWall); w.transport.state = .granted ∧ w.transport.watch = [watched 7 (some (1, .stacker)) 1150]
        ∧ (context .building).endCause = .none ∧ (context .building).final = false)
      ∧ ((lastPiece .retractBin drainedWall).transport.join = .retract 0
        ∧ (lastPiece .retractBin drainedWall).transport.watch = [watched 7 (some (1, .retractBin)) 1150])
      ∧ (cutTenure.transport.watch = [watched 7 (some (1, .reject)) 1150] ∧ cutTenure.transport.state = .granted
        ∧ cutTenure.transport.join = .dispense 0 ∧ cutTenure.orderOf 0 .dispense = some 1 ∧ cutTenure.tallyOf 0 = some tally
        ∧ cutTenure.engine.loaded = some { lane := 0, slot := 1, context := { context .building with endCause := .cancel } }
        ∧ cutTenure.gate.pendingPicks = 0 ∧ cutTenure.transport.stackerCount = 0 ∧ cutTenure.transport.queue ≠ []) := by decide +kernel

/-- The hypotheses of Obligations.CassetteCommands are met by a SUSPECT cassette with notes, with few, and with none, and by a removal while an order owes
notes of the cassette. -/
theorem witness_CassetteCommands_news :
    (∀ d ∈ [0, 395, 400], let w := readyWall.modCassette 3 fun c => { c with state := .suspect, rejects := 4, drawn := d };
        w.takesNow servicePage 0 .cassetteClear = true ∧ (w.cassettes.get 3).state = .suspect)
      ∧ (readyWall.cassettes.get 3).state ≠ .suspect
      ∧ (let w := dispensing (context .inDrawer) readyWall; (w.cassettes.get 0).present = true ∧ (w.cassettes.get 0).state ≠ .absent
        ∧ w.contextOf 0 = some (context .inDrawer) ∧ w.tallyOf 0 = some tally ∧ 0 < (context .inDrawer).outstanding.get 0)
      ∧ ((readyWall.modCassette 0 fun c => { c with present := false, state := .absent }).cassettes.get 0).present = false := by decide +kernel

/-- The hypotheses of Obligations.DrawerJams about a RETURN's lift back to the pocket are met. -/
theorem witness_DrawerJams_back :
    (liftingBack.lanes.get 0).drawer = .lifting ∧ (liftingBack.lanes.get 0).travel = .liftToPocket ∧ liftingBack.held = false
      ∧ (liftingBack.lanes.get 0).forced = false ∧ (liftingBack.lanes.get 0).owner = some 2 ∧ (liftingBack.lanes.get 0).waiting = []
      ∧ liftingBack.kindAt (lanePage 0) 2 = some .returnEnvelope := by decide +kernel

/-- The hypotheses of Obligations.ForcedMark are met where point 14's zone is not SUPERVISORY, and by a forced drawer that is JAMMED, in a lift, or on its way
in without an owner. -/
theorem witness_ForcedMark_other :
    (let w := readyWall.modPoint 14 fun p => { p with zone := 0 }; (w.zones.get (w.points.get 14).zone).mode ≠ .supervisory
        ∧ (w.lanes.get 0).stowedSensor = true ∧ w.drawerDriven 0 = false)
      ∧ (∀ w ∈ [drawer .jammed .none .none readyWall, liftingOut, closingOwnerless],
          let v := (forcedOpen w).modPoint 14 fun p => { p with live := true }; (v.lanes.get 0).forced = true ∧ v.anyForced = (v.points.get 14).live
            ∧ (v.lanes.get 0).drawer ≠ .stowed ∧ (v.lanes.get 0).drawer ≠ .holding ∧ v.pathReset 2 = none)
      ∧ ((closingOwnerless.lanes.get 0).drawer = .closing ∧ (closingOwnerless.lanes.get 0).cycle = .none)
      ∧ (readyWall.lanes.get 0).forced = false := by decide +kernel

/-- The hypotheses of Obligations.Deliveries, PurgesAndClearances, Sweeps and Remixes about the end of a tenure are met while another request waits. -/
theorem witness_tenure_ends_with_requests :
    (∀ w ∈ [deliveryWall, cutDelivery], (heldBack w).deliveringLane = some 0 ∧ (heldBack w).transport.queue ≠ [] ∧ (heldBack w).tallyOf 0 = some tally
        ∧ (heldBack w).orderOf 0 .dispense = some 1)
      ∧ ((heldBack purgingWall).transport.dump.map Dump.purpose = some .tenure ∧ (heldBack purgingWall).transport.queue ≠ [])
      ∧ ((heldBack clearanceDump).transport.dump.map Dump.purpose = some .clearance ∧ (heldBack clearanceDump).transport.queue ≠ [])
      ∧ ((heldBack drainedWall).readyRetractEnd = some 0 ∧ (heldBack drainedWall).orderOf 0 .retract = some 3)
      ∧ (heldBack (drainedBundle 1)).readyRetractEnd = some 0
      ∧ (becomesFinal (mixOrder (remixing (heldBack buildingNone))) (context .building) ∧ (heldBack buildingNone).pathSettled = true
        ∧ (heldBack buildingNone).transport.queue ≠ []) := by decide +kernel

/-- The hypotheses of Obligations.AlarmLocksTheWall and ZoneReactions about the ZONE ALARM post are met: no request waits, and the delay has its trigger. -/
theorem witness_zone_news :
    breachedWall.transport.queue = [] ∧ undelayedWall.transport.queue = [] ∧ ((delayedAgain 1).zones.get 0).trigger = some 2
      ∧ (delayedAgain 1).transport.queue = [] ∧ (delayWall.zones.get 0).trigger = some 0 := by decide +kernel

/-- R130: no envelope is served into a full deposit bin. -/
theorem test_full_bin_serves_nothing : after .servingEvaluation (at' fun _ => fullDeposit) (fun t => (t.wall.conveyor.state, t.wall.conveyor.queue))
    = some (.idle, [0]) := by decide +kernel

/-- R98, R102, R154 (log 74): a jam whose point takes the wall into lockdown lets the order whose BUNDLE request waits end LOCKDOWN. -/
theorem test_jam_locks_down : after .transportJam (at' fun _ => internalArmed true (bundleWaiting.modTransport fun t => { t with watch := [watched 7 none 1200] }))
    (fun t => ((t.wall.slot 0 1).result.head?, t.wall.alarm.lockdown)) = some (some (word OrderEnd.lockdown.code), true) := by decide +kernel

/-- R157, R149: a load that changes the mode of a zone in ALARM posts ZONE CLEARED with detail 3 and restarts the zone. -/
theorem test_load_clears_zone : (((alarmedLoad 1#16).load 3).applyProfile.zones.get 0).state = .armed
    ∧ ((((alarmedLoad 1#16).load 3).applyProfile).board.get 1).detail = 3#16 := by decide +kernel

/-- R81: a piece of a retract that hold has cut is sent to the reject bin, whatever the retract's destination. -/
theorem test_cut_retract_rejected : after .trailingEdge (at' fun _ => cutPiece) (fun t => t.wall.gate.latch) = some (some (.reject, 7)) := by
  decide +kernel

/-- R119: emptying the reject bin brings a RETRACT that is held back forward, to that bin. -/
theorem test_binReset_brings_retract :
    after (.binReset 0 1#16 0#16) (at' fun w => servicedBin rejectBin (heldBack w))
      (fun t => (t.wall.transport.join, (t.wall.lanes.get 1).bundle.dest)) = some (.retract 1, .reject) := by decide +kernel

/-- R53, R51: the fourth reject in a row makes a cassette SUSPECT, the order beyond its reject limit begins its end, and both are counted. -/
theorem test_reject_limit :
    after .diverterLeadingEdge (at' fun _ => limitWall)
      (fun t => ((t.wall.cassettes.get 0).state, (t.wall.cassettes.get 0).drawn, (t.wall.contextOf 0).map DispenseContext.endCause))
      = some (.suspect, 401, some .rejectLimit) := by decide +kernel

end Sys2Proof.Tests
end

section
/-! SUPPORT. What a meaning that acts on the wall answers, and the lanes. -/

namespace Sys2Proof.Machine

theorem mem_laneIds (n : LaneId) : n ∈ laneIds := by revert n; decide

/-- A meaning that acts on the wall answers with the wall it makes. -/
theorem State.onWall_eq {s : State} {f : Wall → Wall} {v : Wall} (hs : s.supply = true) (h : f s.wall = v) :
    s.onWall f = .next { s with wall := v } := by
  rw [State.onWall_next f hs, h]

/-- A meaning that finds nothing to act on answers the state as it was (log 20). -/
theorem State.onWall_idle {s : State} {f : Wall → Wall} (h : f s.wall = s.wall) : s.onWall f = .next s := by
  unfold State.onWall
  rw [h]
  exact ite_self _

/-- A meaning that ends with the evaluations. -/
theorem State.onWall_evaluated {s : State} {f : Wall → Wall} {v : Wall} (hs : s.supply = true) (h : f s.wall = v) :
    (s.onWall fun w => (f w).evaluate) = .next (State.evaluated { s with wall := v }) := by
  rw [State.onWall_next _ hs, h]
  rfl

/-- Two changes of one lane are one change. -/
theorem Wall.modLane_modLane (n : LaneId) (f g : Lane → Lane) (w : Wall) : (w.modLane n f).modLane n g = w.modLane n fun l => g (f l) := by
  simp only [Wall.modLane, tabMod_tabMod]

end Sys2Proof.Machine
end

section
namespace Sys2Proof.Machine

theorem whenDue_eq_nil {b : Bool} {c : Instr} : whenDue b c = [] ↔ b = false := by cases b <;> simp [whenDue]

/-- Nothing is due: none of the four lists of what can be has an entry. -/
theorem Wall.dueCommand_eq_none {w : Wall} :
    w.dueCommand = none ↔ w.dueSteps = [] ∧ (∀ n, w.dueLane n = []) ∧ w.duePath = [] ∧ w.dueAlarm = [] := by
  simp only [Wall.dueCommand, List.head?_eq_none_iff, List.append_eq_nil_iff, List.flatMap_eq_nil_iff, and_assoc]
  exact ⟨fun ⟨h, hl, ha⟩ => ⟨h, fun n => hl n (mem_laneIds n), ha⟩, fun ⟨h, hl, ha⟩ => ⟨h, fun n _ => hl n, ha⟩⟩

/-- No step of the part waits. -/
theorem Wall.dueSteps_eq_nil {w : Wall} :
    w.dueSteps = [] ↔ w.nextRemix = none ∧ w.readyPurge = none ∧ w.readyDelivery = none ∧ w.readyPick = none
      ∧ w.gate.missDue = false ∧ w.jamDue = false ∧ w.readySweepEnd = none ∧ w.readyStall = none
      ∧ w.readyRetractEnd = none ∧ w.beltCleared = false ∧ w.readyServe = none := by
  simp only [Wall.dueSteps, List.append_eq_nil_iff, whenDue_eq_nil, Option.isSome_eq_false_iff, Option.isNone_iff_eq_none, and_assoc]

/-- No timer or budget of the lane has run out. -/
theorem Wall.dueLane_eq_nil {w : Wall} {n : LaneId} (h : w.dueLane n = []) :
    (w.offering n .take = true ∨ w.offering n .deposit = true → (w.lanes.get n).timerMs ≠ 0)
      ∧ (w.offering n .take = true → (w.lanes.get n).window ≠ some 0)
      ∧ (w.drawerDriven n = true → (w.lanes.get n).budgetMs ≠ 0)
      ∧ ((w.lanes.get n).drawer = .lifting → w.held = false → (w.lanes.get n).forced = false → (w.lanes.get n).budgetMs ≠ 0)
      ∧ (w.runningDelivery = some n → w.engine.deliveryMs ≠ 0)
      ∧ (w.holdLimitRuns n = true → (w.lanes.get n).pocket.holdMs ≠ 0) := by
  simp only [Wall.dueLane, List.append_eq_nil_iff, whenDue_eq_nil, and_assoc, Bool.and_eq_false_imp, beq_eq_false_iff_ne] at h
  obtain ⟨window, take, deposit, travel, lift, delivery, hold⟩ := h
  exact ⟨fun h => h.elim take deposit, window, travel, fun hd hh hf => lift (by simp [Wall.lifting, hd, hh, hf]),
    fun hr => delivery (by simp [Wall.delivering, hr]), hold⟩

/-- No budget of the path, the conveyor or the programming has run out. -/
theorem Wall.duePath_eq_nil {w : Wall} (h : w.duePath = []) :
    (∀ d, w.transport.dump = some d → w.held = false → d.leftMs ≠ 0)
      ∧ (∀ g, w.profile.programming = some g → w.held = false → g.leftMs ≠ 0)
      ∧ (∀ n, w.carryingLane = some n → w.conveyor.carryMs ≠ 0)
      ∧ (w.conveyorClears = true → w.conveyor.clearMs ≠ 0)
      ∧ (w.beltDriven = true → w.transport.silentMs < 50) := by
  simp only [Wall.duePath, List.append_eq_nil_iff, whenDue_eq_nil, and_assoc, Bool.and_eq_false_imp, beq_eq_false_iff_ne,
    decide_eq_false_iff_not, Nat.not_le] at h
  obtain ⟨dump, programming, carry, clear, silent⟩ := h
  refine ⟨fun d hd hh e => dump ?_, fun g hg hh e => programming (by simp [hh]) ?_, fun n hn => carry (by simp [hn]), clear, silent⟩
  · simp [Wall.runningDump, hh, hd, e]
  · simp [hg, e]

/-- No debounce, no timer of a zone and no second is complete. -/
theorem Wall.dueAlarm_eq_nil {w : Wall} (h : w.dueAlarm = []) :
    (∀ p : PointId, p.val < 12 → (w.points.get p).candidate ≠ (w.points.get p).live →
        (w.points.get p).stableMs < 10 * (w.points.get p).debounce)
      ∧ (∀ z, ((w.zones.get z).state = .entryDelay → (w.zones.get z).entryMs ≠ 0) ∧ (w.zones.get z).sirenMs ≠ some 0)
      ∧ w.port.secondMs < 1000 := by
  have hp : ∀ p : Fin 12, p ∈ externalIds := by decide
  have hz : ∀ z : ZoneId, z ∈ zoneIds := by decide
  simp only [Wall.dueAlarm, List.append_eq_nil_iff, List.flatMap_eq_nil_iff, whenDue_eq_nil, Bool.and_eq_false_imp, beq_eq_false_iff_ne,
    decide_eq_false_iff_not, Nat.not_le, bne_iff_ne, beq_iff_eq] at h
  obtain ⟨⟨points, zones⟩, second⟩ := h
  exact ⟨fun p hlt => points ⟨p.val, hlt⟩ (hp _), fun z => zones z (hz z), second⟩

/-- A delivery runs exactly where some lane's does. -/
theorem Wall.any_delivering (w : Wall) : laneIds.any w.delivering = w.runningDelivery.isSome := by
  unfold Wall.delivering
  cases w.runningDelivery with
  | none => rfl
  | some n => revert n; decide

/-- 10 ms of a lane's timers and budgets, by their conditions. -/
theorem Wall.tickLane_eq (w : Wall) (n : LaneId) (l : Lane) (h : w.lanes.get n = l) :
    w.tickLane n l =
      { l with
          timerMs := if l.drawer = .offered ∧ w.held = false then l.timerMs - 10 else l.timerMs,
          window := if l.drawer = .offered ∧ w.held = false then l.window.map (fun t => t - 10) else l.window,
          budgetMs := if w.drawerDriven n = true ∨ (l.drawer = .lifting ∧ w.held = false ∧ l.forced = false) then l.budgetMs - 10
            else l.budgetMs,
          pocket := { l.pocket with holdMs := if w.holdLimitRuns n = true then l.pocket.holdMs - 10 else l.pocket.holdMs } } := by
  subst h
  simp only [Wall.tickLane, less, Wall.lifting, Bool.and_eq_true, Bool.or_eq_true, beq_iff_eq, Bool.not_eq_true', and_assoc]

/-- Settles O1: the queue's front by definition of the step; on an empty queue the list of what is due, and else the tick. -/
theorem stepRunsTheFrontCommand : Obligations.StepRunsTheFrontCommand := by
  unfold Obligations.StepRunsTheFrontCommand
  refine ⟨fun c rest s => rfl, fun s hq => ?_⟩
  have hstep : step s = idle s := by unfold step; rw [hq]
  refine ⟨fun hs => ?_, fun c hs hc => ?_, fun hs hc => ?_⟩
  · simp [hstep, idle, hs]
  · simp [hstep, idle, hs, hc]
  obtain ⟨steps, lane, path, alarm⟩ := Wall.dueCommand_eq_none.mp hc
  obtain ⟨dump, programming, carry, clear, silent⟩ := Wall.duePath_eq_nil path
  obtain ⟨points, zones, second⟩ := Wall.dueAlarm_eq_nil alarm
  obtain ⟨remix, purge, delivery, pick, miss, jam, sweep, stall, retract, belt, serve⟩ := Wall.dueSteps_eq_nil.mp steps
  refine ⟨fun n => Wall.dueLane_eq_nil (lane n), dump, programming, carry, clear, silent, points, zones, second, remix, purge, delivery, pick,
    miss, jam, sweep, stall, retract, belt, serve, s.wall.tick, by simp [hstep, idle, hs, hc], fun n => ?_, fun z => ?_, fun p => ?_, ?_, ?_,
    ?_, ?_, rfl, rfl⟩
  · exact (tabMap_get _ _ n).trans (Wall.tickLane_eq s.wall n _ rfl)
  · refine (tabMap_get _ _ z).trans ?_
    simp only [Zone.tick, less, beq_iff_eq]
  · refine (tabMap_get _ _ p).trans ?_
    unfold Point.tick
    split <;> rfl
  · cases h : s.wall.held <;> simp [Wall.tick, less, h]
  · simp only [Wall.tick, less, Wall.any_delivering]
  · rfl
  · cases h : s.wall.held <;> simp [Wall.tick, less, h]

end Sys2Proof.Machine
end

section
namespace Sys2Proof.Machine

/-- A press of the call button sets its own bit of F3 (R5). -/
theorem Wall.callPress_bit (w : Wall) (n : LaneId) (i : Nat) :
    ((w.callPress n).flags.get 3).getLsbD i = ((w.flags.get 3).getLsbD i || decide (i = n.val)) := by
  have hn : n.val < 4 := n.isLt
  simp only [Wall.callPress, Wall.modFlag_flags, tabMod_get_same, BitVec.getLsbD_or, BitVec.getLsbD_shiftLeft]
  congr 1
  by_cases h : i = n.val
  · simp [h]; omega
  · simp [h]; omega

/-- Settles O40: each command's guard holds or fails, and what is left is a close or the wall as it was. -/
theorem buttonsItemSensorAndTimers : Obligations.ButtonsItemSensorAndTimers := by
  unfold Obligations.ButtonsItemSensorAndTimers
  intro s n hs
  refine ⟨?call, ?send, ?idleSend, ?item, ?window, ?taken, ?left, ?deposit, ?noTake, ?noDeposit⟩
  case call =>
    refine ⟨_, State.onWall_next (Wall.callPress n) hs, ?_, ?_, ?_, rfl⟩
    · simp [Wall.callPress_bit]
    · intro i hi; simp [Wall.callPress_bit, hi]
    · intro k hk; exact tabMod_get_other _ _ hk
  case send =>
    intro hd hc hi
    refine ⟨_, State.onWall_eq (f := Wall.sendPress n) hs (if_pos ⟨hd, hc, hi⟩), ?_⟩
    simpa using Wall.startClose_frame n .send s.wall
  case idleSend =>
    intro h
    refine State.onWall_idle (if_neg ?_)
    rintro ⟨hd, hc, hi⟩
    simp [hd, hc, hi] at h
  case item =>
    intro b
    exact ⟨_, State.onWall_next (Wall.itemChange n b) hs, by simp [Wall.itemChange], by simp [Wall.itemChange], by simp [Wall.itemChange],
      by simp [Wall.itemChange], fun m hm => Wall.modLane_get_other _ _ hm, rfl⟩
  case window => exact fun ho hw => State.onWall_eq hs (if_pos ⟨ho, hw⟩)
  case taken =>
    intro ho hi hw
    exact State.onWall_eq hs (by simp only [Wall.takeExpires, ho, hi, hw, if_true, ne_eq, not_false_eq_true, and_self])
  case left =>
    intro ho h
    have hn : ¬((s.wall.lanes.get n).itemSensor = false ∧ (s.wall.lanes.get n).window ≠ none) := by
      rintro ⟨hi, hw⟩
      simp [hi, hw] at h
    exact State.onWall_eq hs (by simp only [Wall.takeExpires, ho, if_true, if_neg hn])
  case deposit => exact fun ho => State.onWall_eq hs (if_pos ho)
  case noTake =>
    intro ho
    exact ⟨State.onWall_idle (by simp [Wall.windowExpires, ho]), State.onWall_idle (by simp [Wall.takeExpires, ho])⟩
  case noDeposit => exact fun ho => State.onWall_idle (by simp [Wall.depositExpires, ho])


/-- What the extended sensor shows of a drawer (R6, R10). -/
def Lane.extended (l : Lane) : Lane := { l with extendedSensor := true, stowedSensor := false, leaving := false }

/-- The extended sensor in another state than OPENING (log 20). -/
theorem Wall.extendedAsserts_other {w : Wall} {n : LaneId} (h : (w.lanes.get n).drawer ≠ .opening) :
    w.extendedAsserts n = w.modLane n Lane.extended := if_neg h

theorem Wall.extendedAsserts_opening {w : Wall} {n : LaneId} (h : (w.lanes.get n).drawer = .opening) :
    w.extendedAsserts n = (w.modLane n Lane.extended).arriveExtended n := if_pos h

/-- The close that a drawer meets at its arrival is the same after the sensors have changed, and in OFFERED. -/
theorem Wall.closeAtArrival_congr {v w : Wall} {k l : Lane} (hl : v.alarm = w.alarm) (ho : k.owner = l.owner) (hc : k.ownerClose = l.ownerClose) :
    v.closeAtArrival k = w.closeAtArrival l := by
  simp only [Wall.closeAtArrival, Wall.lockdown, hl, ho, hc]
  congr

/-- A travel out that ends where a close has been asked for closes again with that cause (R16, R18). -/
theorem Wall.arriveExtended_close {w : Wall} {n : LaneId} {cause : CloseCause} (h : w.closeAtArrival (w.lanes.get n) = some cause) :
    w.arriveExtended n = (w.modLane n fun l => { l with drawer := .offered, travel := .none, budgetMs := 0 }).startClose n cause := by
  have h' : w.closeAtArrival ((w.modLane n fun l => { l with drawer := .offered, travel := .none, budgetMs := 0 }).lanes.get n) = some cause := by
    rw [Wall.modLane_get_same, ← h]
    exact Wall.closeAtArrival_congr rfl rfl rfl
  unfold Wall.arriveExtended
  dsimp only
  rw [h']

/-- A travel out that ends with no close asked for is OFFERED, with the timer of its cycle or of a bounce (R7, R14, R17). -/
theorem Wall.arriveExtended_offered {w : Wall} {n : LaneId} (h : w.closeAtArrival (w.lanes.get n) = none) :
    w.arriveExtended n = w.modLane n fun l =>
      { l with
          drawer := .offered, travel := .none, budgetMs := 0, timerMs := w.arrivalTimer l, shortTimer := false,
          window := if l.cycle = .take ∧ l.itemSensor = false then some 2000 else none } := by
  have h' : w.closeAtArrival ((w.modLane n fun l => { l with drawer := .offered, travel := .none, budgetMs := 0 }).lanes.get n) = none := by
    rw [Wall.modLane_get_same, ← h]
    exact Wall.closeAtArrival_congr rfl rfl rfl
  unfold Wall.arriveExtended
  dsimp only
  rw [h']
  exact Wall.modLane_modLane n _ _ w

/-- Without lockdown, or without an owner, the close is the one the order has asked for (R16). -/
theorem Wall.closeAtArrival_order {w : Wall} {l : Lane} (h : w.lockdown = false ∨ l.owner = none) : w.closeAtArrival l = l.ownerClose := by
  unfold Wall.closeAtArrival
  rw [if_neg]
  rintro ⟨hl, ho⟩
  simp [hl, ho] at h

/-- The close at an arrival is lockdown's on an owner, or else the one the order has asked for. -/
theorem Wall.closeAtArrival_cases (w : Wall) (l : Lane) :
    (w.lockdown = true ∧ l.owner ≠ none ∧ w.closeAtArrival l = some .lockdown)
      ∨ ((w.lockdown = false ∨ l.owner = none) ∧ w.closeAtArrival l = l.ownerClose) := by
  by_cases h : w.lockdown = false ∨ l.owner = none
  · exact .inr ⟨h, Wall.closeAtArrival_order h⟩
  · simp only [not_or, Bool.not_eq_false] at h
    exact .inl ⟨h.1, h.2, if_pos h⟩

/-- Settles O37: the arrival closes again, is OFFERED, or changes the sensors alone. -/
theorem extendedSensor : Obligations.ExtendedSensor := by
  unfold Obligations.ExtendedSensor
  intro s n hs
  refine ⟨_, State.onWall_next (Wall.extendedAsserts n) hs, ?_⟩
  dsimp only
  by_cases hd : (s.wall.lanes.get n).drawer = .opening
  · rw [Wall.extendedAsserts_opening hd]
    have same : (s.wall.modLane n Lane.extended).closeAtArrival ((s.wall.modLane n Lane.extended).lanes.get n)
        = s.wall.closeAtArrival (s.wall.lanes.get n) := by
      rw [Wall.modLane_get_same]
      exact Wall.closeAtArrival_congr rfl rfl rfl
    rcases Wall.closeAtArrival_cases s.wall (s.wall.lanes.get n) with ⟨hl, ho, hc⟩ | ⟨ho, hc⟩
    · rw [Wall.arriveExtended_close (same.trans hc)]
      refine ⟨fun m hm => ?_, rfl, ?_⟩
      · rw [(Wall.startClose_frame n _ _).1 m hm, Wall.modLane_get_other _ _ hm, Wall.modLane_get_other _ _ hm]
      · simp [hd, hl, ho, Lane.extended]
    · rcases hq : (s.wall.lanes.get n).ownerClose with _ | cause
      · rw [Wall.arriveExtended_offered (same.trans (hc.trans hq))]
        refine ⟨fun m hm => ?_, rfl, ?_⟩
        · rw [Wall.modLane_get_other _ _ hm, Wall.modLane_get_other _ _ hm]
        · rw [Wall.modLane_get_same, Wall.modLane_get_same]
          refine ⟨rfl, rfl, absurd hd, fun _ hl h => ?_, nofun, fun _ _ _ => ⟨rfl, rfl, rfl, rfl⟩⟩
          simp [hl, h] at ho
      · rw [Wall.arriveExtended_close (same.trans (hc.trans hq))]
        refine ⟨fun m hm => ?_, rfl, ?_⟩
        · rw [(Wall.startClose_frame n _ _).1 m hm, Wall.modLane_get_other _ _ hm, Wall.modLane_get_other _ _ hm]
        · rw [Wall.startClose_lane, Wall.modLane_get_same, Wall.modLane_get_same]
          refine ⟨rfl, rfl, absurd hd, fun _ hl h => ?_, fun c _ _ e => ?_, nofun⟩
          · simp [hl, h] at ho
          · obtain rfl := Option.some.inj e
            exact ⟨rfl, rfl, rfl, rfl, rfl, hq⟩
  · rw [Wall.extendedAsserts_other hd]
    refine ⟨fun m hm => Wall.modLane_get_other _ _ hm, rfl, ?_⟩
    rw [Wall.modLane_get_same]
    exact ⟨rfl, rfl, fun _ => rfl, fun h => absurd h hd, fun _ h => absurd h hd, fun h => absurd h hd⟩

end Sys2Proof.Machine
end

section
/-! SUPPORT. The slots and lanes that the end of an order touches. -/

namespace Sys2Proof.Machine

/-! ### Pages and slots -/

@[simp] theorem laneOf_lanePage (n : LaneId) : laneOf (lanePage n) = some n := by revert n; decide

@[simp] theorem laneOf_servicePage : laneOf servicePage = none := by decide

theorem servicePage_ne_lanePage (n : LaneId) : servicePage ≠ lanePage n := by revert n; decide

theorem findSlot_true {f : SlotId → Bool} {x : SlotId} (h : findSlot f = some x) : f x = true := List.find?_some h

/-- The order of a kind that is in progress on a lane's page is in progress and of that kind. -/
theorem Wall.orderOf_some {w : Wall} {n : LaneId} {k : Kind} {x : SlotId} (h : w.orderOf n k = some x) :
    (w.slot (lanePage n) x).state.inProgress = true ∧ w.kindAt (lanePage n) x = some k := by
  simpa using findSlot_true h

theorem Wall.kindAt_congr {v w : Wall} {p : PageId} {x : SlotId} (h : (v.slot p x).body = (w.slot p x).body) : v.kindAt p x = w.kindAt p x := by
  simp only [Wall.kindAt, h]

/-- The order of a kind depends on what is in progress on the page, and of what kind. -/
theorem Wall.orderOf_congr {v w : Wall} {n : LaneId} {k : Kind}
    (h : ∀ x, w.kindAt (lanePage n) x = some k → (v.slot (lanePage n) x).state.inProgress = (w.slot (lanePage n) x).state.inProgress)
    (hk : ∀ x, v.kindAt (lanePage n) x = w.kindAt (lanePage n) x) : v.orderOf n k = w.orderOf n k := by
  unfold Wall.orderOf
  congr 1
  funext x
  rw [hk]
  by_cases e : w.kindAt (lanePage n) x = some k
  · rw [h x e]
  · rw [beq_eq_false_iff_ne.mpr e, Bool.and_false, Bool.and_false]

/-- The PATH RESET for a mechanism depends on the service page alone. -/
theorem Wall.pathReset_congr {v w : Wall} {m : Nat} (h : ∀ x, v.slot servicePage x = w.slot servicePage x) : v.pathReset m = w.pathReset m := by
  unfold Wall.pathReset
  congr 1
  funext x
  have hk : v.kindAt servicePage x = w.kindAt servicePage x := Wall.kindAt_congr (by rw [h x])
  rw [hk, h x]

theorem Wall.slot_congr {v w : Wall} (h : v.pages = w.pages) (p : PageId) (x : SlotId) : v.slot p x = w.slot p x := by
  simp only [Wall.slot, h]

/-- The lane's DISPENSE and its context depend on the lane's page and the engine alone. -/
theorem Wall.contextOf_congr {v w : Wall} {n : LaneId} (he : v.engine = w.engine) (hs : ∀ x, v.slot (lanePage n) x = w.slot (lanePage n) x) :
    v.orderOf n .dispense = w.orderOf n .dispense ∧ v.contextOf n = w.contextOf n ∧ v.tallyOf n = w.tallyOf n := by
  have ho : v.orderOf n .dispense = w.orderOf n .dispense :=
    Wall.orderOf_congr (fun x _ => by rw [hs]) fun x => Wall.kindAt_congr (by rw [hs])
  exact ⟨ho, by simp only [Wall.contextOf, he, ho, hs], by simp only [Wall.tallyOf, he]⟩

/-! ### What stands when a lane's orders end -/

/-- Between two walls orders of a lane have ended: no other lane, no body of an order and no other block has changed but the engine, the cassettes and the
transport; of the lane the drawer's owner, its waiting list, the duress mark, the pocket and the bundle record may have. -/
structure Wall.EndsInLane (n : LaneId) (w v : Wall) : Prop where
  frame : v =
    { w with
        pages := v.pages, flags := v.flags, lanes := v.lanes, engine := v.engine, cassettes := v.cassettes, transport := v.transport }
  otherLane : ∀ m, m ≠ n → v.lanes.get m = w.lanes.get m
  lane : v.lanes.get n =
    { w.lanes.get n with
        owner := (v.lanes.get n).owner, ownerClose := (v.lanes.get n).ownerClose, waiting := (v.lanes.get n).waiting,
        duress := (v.lanes.get n).duress, pocket := (v.lanes.get n).pocket, bundle := (v.lanes.get n).bundle }
  waits : ∀ y ∈ (v.lanes.get n).waiting, y ∈ (w.lanes.get n).waiting
  body : ∀ p x, (v.slot p x).body = (w.slot p x).body

namespace Wall.EndsInLane
variable {n : LaneId} {u v w : Wall}

theorem refl (n : LaneId) (w : Wall) : w.EndsInLane n w := ⟨rfl, fun _ _ => rfl, rfl, fun _ h => h, fun _ _ => rfl⟩

theorem trans (h : u.EndsInLane n v) (h' : v.EndsInLane n w) : u.EndsInLane n w where
  frame := by
    have e := h'.frame
    rw [h.frame] at e
    exact e
  otherLane m hm := (h'.otherLane m hm).trans (h.otherLane m hm)
  lane := by
    have e := h'.lane
    rw [h.lane] at e
    exact e
  waits y hy := h.waits y (h'.waits y hy)
  body p x := (h'.body p x).trans (h.body p x)

theorem kindAt (h : w.EndsInLane n v) (p : PageId) (x : SlotId) : v.kindAt p x = w.kindAt p x := Wall.kindAt_congr (h.body p x)

theorem port (h : w.EndsInLane n v) : v.port = w.port := by rw [h.frame]
theorem bins (h : w.EndsInLane n v) : v.bins = w.bins := by rw [h.frame]
theorem conveyor (h : w.EndsInLane n v) : v.conveyor = w.conveyor := by rw [h.frame]
theorem board (h : w.EndsInLane n v) : v.board = w.board := by rw [h.frame]
theorem lost (h : w.EndsInLane n v) : v.lost = w.lost := by rw [h.frame]
theorem zones (h : w.EndsInLane n v) : v.zones = w.zones := by rw [h.frame]
theorem profile (h : w.EndsInLane n v) : v.profile = w.profile := by rw [h.frame]

theorem valueOf (h : w.EndsInLane n v) : v.valueOf = w.valueOf := by
  funext c; simp only [Wall.valueOf, Wall.denomination, Wall.setting, h.profile]
theorem holdLimitMs (h : w.EndsInLane n v) : v.holdLimitMs = w.holdLimitMs := by simp only [Wall.holdLimitMs, Wall.setting, h.profile]
theorem decision (h : w.EndsInLane n v) : v.decision = w.decision := by simp only [Wall.decision, Wall.duressAlarm, h.port, h.zones]
theorem returnFields (h : w.EndsInLane n v) : v.returnFields = w.returnFields := by funext r; simp only [Wall.returnFields, h.bins]

/-- A change of a lane that keeps to the fields named. -/
theorem of_modLane {f : Lane → Lane} (hw : ∀ l, ∀ y ∈ (f l).waiting, y ∈ l.waiting)
    (hf : ∀ l : Lane, f l = { l with owner := (f l).owner, ownerClose := (f l).ownerClose, waiting := (f l).waiting, duress := (f l).duress,
                                     pocket := (f l).pocket, bundle := (f l).bundle }) : w.EndsInLane n (w.modLane n f) where
  frame := rfl
  otherLane _ hm := Wall.modLane_get_other _ _ hm
  lane := by rw [Wall.modLane_get_same]; exact hf _
  waits := by rw [Wall.modLane_get_same]; exact hw _
  body _ _ := rfl

/-- A change of the engine, the cassettes and the transport. -/
theorem of_stores (h : v = { w with engine := v.engine, cassettes := v.cassettes, transport := v.transport }) : w.EndsInLane n v := by
  rw [h]
  exact ⟨rfl, fun _ _ => rfl, rfl, fun _ h => h, fun _ _ => rfl⟩

end Wall.EndsInLane

/-- Between two walls no slot of another page than the lane's has changed. -/
def Wall.OnlyPage (n : LaneId) (w v : Wall) : Prop := ∀ p x, p ≠ lanePage n → v.slot p x = w.slot p x

theorem Wall.OnlyPage.of_pages (n : LaneId) {w v : Wall} (h : v.pages = w.pages) : w.OnlyPage n v := fun p x _ => Wall.slot_congr h p x

theorem Wall.OnlyPage.trans {n : LaneId} {u v w : Wall} (h : u.OnlyPage n v) (h' : v.OnlyPage n w) : u.OnlyPage n w := fun p x hp =>
  (h' p x hp).trans (h p x hp)

theorem Wall.OnlyPage.pathReset {n : LaneId} {w v : Wall} (h : w.OnlyPage n v) (m : Nat) : v.pathReset m = w.pathReset m :=
  Wall.pathReset_congr fun x => h servicePage x (servicePage_ne_lanePage n)

/-- Between two walls a slot of the lane has changed in its progress area alone. -/
def Wall.SlotKept (n : LaneId) (y : SlotId) (w v : Wall) : Prop :=
  v.slot (lanePage n) y = { w.slot (lanePage n) y with context := (v.slot (lanePage n) y).context }

theorem Wall.SlotKept.of_eq {n : LaneId} {y : SlotId} {w v : Wall} (h : v.slot (lanePage n) y = w.slot (lanePage n) y) : w.SlotKept n y v := by
  unfold Wall.SlotKept
  rw [h]

theorem Wall.SlotKept.trans {n : LaneId} {y : SlotId} {u v w : Wall} (h : u.SlotKept n y v) (h' : v.SlotKept n y w) : u.SlotKept n y w := by
  unfold Wall.SlotKept at *
  rw [h] at h'
  exact h'

theorem Wall.SlotKept.state {n : LaneId} {y : SlotId} {w v : Wall} (h : w.SlotKept n y v) :
    (v.slot (lanePage n) y).state = (w.slot (lanePage n) y).state := by rw [h]

theorem Wall.SlotKept.result {n : LaneId} {y : SlotId} {w v : Wall} (h : w.SlotKept n y v) :
    (v.slot (lanePage n) y).result = (w.slot (lanePage n) y).result := by rw [h]

theorem Wall.SlotKept.tooLate {n : LaneId} {y : SlotId} {w v : Wall} (h : w.SlotKept n y v) :
    (v.slot (lanePage n) y).tooLate = (w.slot (lanePage n) y).tooLate := by rw [h]

/-! ### The end of an order (R32) -/

/-- A lane's drawer without an order: released where the order owned it, and not waited for by it (R12, R13). -/
def Lane.leave (x : SlotId) (l : Lane) : Lane :=
  { l with
      owner := if l.owner = some x then none else l.owner, ownerClose := if l.owner = some x then none else l.ownerClose,
      waiting := l.waiting.filter fun t => t ≠ x }

/-- The end of an order of a lane changes its lane as leaving the drawer does (R12, R13). -/
theorem Wall.finishAt_lanes (t : DWord) (n : LaneId) (x : SlotId) (e : OrderEnd) (fields : List Word) (w : Wall) :
    (w.finishAt t (lanePage n) x e fields).lanes = tabMod w.lanes n (Lane.leave x) := by
  simp only [Wall.finishAt, laneOf_lanePage, Wall.leaveDrawer, Wall.modLane_lanes]
  rw [Wall.closeSlotAt_frame]
  rfl

/-- The end of a service order changes no lane. -/
theorem Wall.finishAt_service (t : DWord) (x : SlotId) (e : OrderEnd) (fields : List Word) (w : Wall) :
    (w.finishAt t servicePage x e fields).lanes = w.lanes := by
  simp only [Wall.finishAt, laneOf_servicePage]
  rw [Wall.closeSlotAt_frame]

/-- The end of an order leaves every other slot as it was. -/
theorem Wall.finishAt_other {p q : PageId} {x y : SlotId} (t : DWord) (e : OrderEnd) (fields : List Word) (w : Wall) (h : (q, y) ≠ (p, x)) :
    (w.finishAt t p x e fields).slot q y = w.slot q y := by
  simp only [Wall.finishAt]
  split
  · exact Wall.closeSlotAt_other t .finished e fields w h
  · exact Wall.closeSlotAt_other t .finished e fields w h

theorem Wall.finishAt_body (t : DWord) (p : PageId) (x : SlotId) (e : OrderEnd) (fields : List Word) (w : Wall) (q : PageId) (y : SlotId) :
    ((w.finishAt t p x e fields).slot q y).body = (w.slot q y).body := by
  by_cases h : (q, y) = (p, x)
  · obtain ⟨rfl, rfl⟩ := Prod.mk.inj h
    rw [Wall.finishAt_slot]
  · rw [Wall.finishAt_other t e fields w h]

theorem Wall.finishAt_ends (t : DWord) (n : LaneId) (x : SlotId) (e : OrderEnd) (fields : List Word) (w : Wall) :
    w.EndsInLane n (w.finishAt t (lanePage n) x e fields) where
  frame := by rw [Wall.finishAt_frame]
  otherLane m hm := by rw [Wall.finishAt_lanes, tabMod_get_other _ _ hm]
  lane := by rw [Wall.finishAt_lanes, tabMod_get_same]; rfl
  waits y hy := by rw [Wall.finishAt_lanes, tabMod_get_same] at hy; exact (List.mem_filter.mp hy).1
  body := Wall.finishAt_body t _ x e fields w

theorem Wall.finishAt_onlyPage (t : DWord) (n : LaneId) (x : SlotId) (e : OrderEnd) (fields : List Word) (w : Wall) :
    w.OnlyPage n (w.finishAt t (lanePage n) x e fields) := fun _ _ hp => Wall.finishAt_other t e fields w fun h => hp (Prod.mk.inj h).1

theorem Wall.finishAt_kept {n : LaneId} {x y : SlotId} (t : DWord) (e : OrderEnd) (fields : List Word) (w : Wall) (h : y ≠ x) :
    w.SlotKept n y (w.finishAt t (lanePage n) x e fields) := .of_eq (Wall.finishAt_other t e fields w fun e => h (Prod.mk.inj e).2)

/-! ### The context of a DISPENSE (R91) -/

/-- Between two walls the context of a lane's DISPENSE has changed, in the progress area, in the engine, or in both. -/
structure Wall.ContextMoves (n : LaneId) (w v : Wall) : Prop where
  frame : v = { w with pages := v.pages, engine := { w.engine with loaded := v.engine.loaded } }
  onlyPage : w.OnlyPage n v
  slot : ∀ p x, v.slot p x = { w.slot p x with context := (v.slot p x).context }

theorem Wall.ContextMoves.refl (n : LaneId) (w : Wall) : w.ContextMoves n w := ⟨rfl, fun _ _ _ => rfl, fun _ _ => rfl⟩

theorem Wall.ContextMoves.trans {n : LaneId} {u v w : Wall} (h : u.ContextMoves n v) (h' : v.ContextMoves n w) : u.ContextMoves n w where
  frame := by
    have e := h'.frame
    rw [h.frame] at e
    exact e
  onlyPage := h.onlyPage.trans h'.onlyPage
  slot p x := by
    have e := h'.slot p x
    rw [h.slot p x] at e
    exact e

theorem Wall.ContextMoves.ends {n : LaneId} {w v : Wall} (h : w.ContextMoves n v) : w.EndsInLane n v := by
  have hl : v.lanes = w.lanes := by rw [h.frame]
  refine ⟨?_, fun m _ => by rw [hl], by rw [hl], fun y hy => by rwa [hl] at hy, fun p x => by rw [h.slot p x]⟩
  rw [h.frame]

/-- A change of a slot's context, with one of the engine's loaded copy. -/
theorem Wall.ContextMoves.of_modSlot (n : LaneId) (x : SlotId) (f : Option DispenseContext → Option DispenseContext) (l : Option Loaded) (w : Wall) :
    w.ContextMoves n ((w.modEngine fun e => { e with loaded := l }).modSlot (lanePage n) x fun y => { y with context := f y.context }) where
  frame := rfl
  onlyPage p y hp := Wall.modSlot_slot_other _ _ fun h => hp (Prod.mk.inj h).1
  slot p y := by
    by_cases h : (p, y) = (lanePage n, x)
    · obtain ⟨rfl, rfl⟩ := Prod.mk.inj h
      rw [Wall.modSlot_slot_same]
      rfl
    · rw [Wall.modSlot_slot_other _ _ h]
      rfl

theorem Wall.modContext_moves (n : LaneId) (f : DispenseContext → DispenseContext) (w : Wall) : w.ContextMoves n (w.modContext n f) := by
  have progress : ∀ x : SlotId, w.ContextMoves n (w.modSlot (lanePage n) x fun y => { y with context := y.context.map f }) := fun x =>
    .of_modSlot n x (Option.map f) w.engine.loaded w
  unfold Wall.modContext
  rcases w.orderOf n .dispense with _ | x
  · exact .refl n w
  · dsimp only
    split
    · split
      · exact .of_modSlot n x (Option.map _) _ w
      · exact progress x
    · exact progress x

/-- The loaded context is written back to its own lane's page. -/
theorem Wall.writeBack_moves {n : LaneId} {w : Wall} (h : w.engine.loaded.map Loaded.lane = some n) : w.ContextMoves n w.writeBack := by
  unfold Wall.writeBack
  rcases hl : w.engine.loaded with _ | l
  · exact .refl n w
  · rw [hl] at h
    obtain rfl := Option.some.inj h
    exact .of_modSlot l.lane l.slot (fun _ => some l.context) none w

/-! ### The end of a DISPENSE (R105) -/

/-- What a DISPENSE that has ended leaves of its lane's stores (R105): the duress mark, no bundle of an order, and no tally. -/
def Wall.dropStores (n : LaneId) (duress : Bool) (w : Wall) : Wall :=
  (w.modLane n fun l =>
    { l with duress := l.duress || duress, bundle := { l.bundle with slot := none, phase := .none } }).modEngine fun e =>
    { e with tallies := tabSet e.tallies n none }

@[simp] theorem Wall.dropStores_slot (n : LaneId) (b : Bool) (w : Wall) (p : PageId) (x : SlotId) : (w.dropStores n b).slot p x = w.slot p x := rfl

@[simp] theorem Wall.dropStores_lanes (n : LaneId) (b : Bool) (w : Wall) :
    (w.dropStores n b).lanes = tabMod w.lanes n fun l =>
      { l with duress := l.duress || b, bundle := { l.bundle with slot := none, phase := .none } } := rfl

@[simp] theorem Wall.dropStores_tallyOf (n : LaneId) (b : Bool) (w : Wall) : (w.dropStores n b).tallyOf n = none := tabSet_get_same _ _ _

@[simp] theorem Wall.dropStores_cassettes (n : LaneId) (b : Bool) (w : Wall) : (w.dropStores n b).cassettes = w.cassettes := rfl

@[simp] theorem Wall.dropStores_transport (n : LaneId) (b : Bool) (w : Wall) : (w.dropStores n b).transport = w.transport := rfl

theorem Wall.dropStores_ends (n : LaneId) (b : Bool) (w : Wall) : w.EndsInLane n (w.dropStores n b) := by
  refine .trans (.of_modLane ?_ ?_) (.of_stores rfl)
  · exact fun _ _ hy => hy
  · exact fun _ => rfl

/-- A DISPENSE that finishes: its outstanding notes are no longer reserved, its context moves, and then its order ends and its stores are dropped. -/
theorem Wall.finishDispenseAt_eq (d : Decision) {n : LaneId} (jammed : Bool) {w : Wall} {x : SlotId} {c : DispenseContext} {t : Tally}
    (hx : w.orderOf n .dispense = some x) (hc : w.contextOf n = some c) (ht : w.tallyOf n = some t) :
    ∃ u, (w.unreserve c.outstanding).ContextMoves n u ∧ w.finishDispenseAt d n jammed =
      (u.finishAt d.seconds (lanePage n) x (dispenseOutcome jammed c t) (tallyWords c t (w.valueOf t.presented) d.duress)).dropStores n d.duress := by
  have released : (w.unreserve c.outstanding).ContextMoves n (w.releaseOutstanding n) := by
    simp only [Wall.releaseOutstanding, hc]
    exact Wall.modContext_moves n _ _
  simp only [Wall.finishDispenseAt, hx, hc, ht]
  split
  · next h => exact ⟨_, released.trans (Wall.writeBack_moves h), rfl⟩
  · exact ⟨_, released, rfl⟩

/-- Without an order, a context or a tally there is no DISPENSE to finish. -/
theorem Wall.finishDispenseAt_none (d : Decision) {n : LaneId} (jammed : Bool) {w : Wall}
    (h : w.orderOf n .dispense = none ∨ w.contextOf n = none ∨ w.tallyOf n = none) : w.finishDispenseAt d n jammed = w := by
  unfold Wall.finishDispenseAt
  split
  · next hx hc ht => simp [hx, hc, ht] at h
  · rfl

/-- Either the lane has a DISPENSE to finish, with its stores, or its finish does nothing. -/
theorem Wall.finishDispenseAt_cases (d : Decision) (n : LaneId) (jammed : Bool) (w : Wall) :
    (∃ x c t, w.orderOf n .dispense = some x ∧ w.contextOf n = some c ∧ w.tallyOf n = some t) ∨ w.finishDispenseAt d n jammed = w := by
  rcases hx : w.orderOf n .dispense with _ | x
  · exact .inr (Wall.finishDispenseAt_none d jammed (.inl hx))
  rcases hc : w.contextOf n with _ | c
  · exact .inr (Wall.finishDispenseAt_none d jammed (.inr (.inl hc)))
  rcases ht : w.tallyOf n with _ | t
  · exact .inr (Wall.finishDispenseAt_none d jammed (.inr (.inr ht)))
  exact .inl ⟨x, c, t, rfl, rfl, rfl⟩

/-- What a DISPENSE that finishes leaves: its slot's result, its lane, its stores, and the reserved counts of the cassettes (R105, R55). -/
theorem Wall.finishDispenseAt_spec (d : Decision) {n : LaneId} (jammed : Bool) {w : Wall} {x : SlotId} {c : DispenseContext} {t : Tally}
    (hx : w.orderOf n .dispense = some x) (hc : w.contextOf n = some c) (ht : w.tallyOf n = some t) :
    let v := w.finishDispenseAt d n jammed
    (v.slot (lanePage n) x).state = .finished
      ∧ (v.slot (lanePage n) x).result = resultWords (dispenseOutcome jammed c t) (w.slot (lanePage n) x).tooLate d.seconds
          (tallyWords c t (w.valueOf t.presented) d.duress)
      ∧ (∀ y, y ≠ x → w.SlotKept n y v)
      ∧ v.lanes = tabMod w.lanes n (fun l =>
        { l.leave x with duress := l.duress || d.duress, bundle := { l.bundle with slot := none, phase := .none } })
      ∧ v.tallyOf n = none ∧ (∀ k, (v.cassettes.get k).reserved = (w.cassettes.get k).reserved - c.outstanding.get k)
      ∧ v.transport = w.transport ∧ w.EndsInLane n v ∧ w.OnlyPage n v := by
  dsimp only
  obtain ⟨u, hu, e⟩ := Wall.finishDispenseAt_eq d jammed hx hc ht
  have ul : u.lanes = w.lanes := by rw [hu.frame]; rfl
  have us : ∀ y, u.slot (lanePage n) y = { w.slot (lanePage n) y with context := (u.slot (lanePage n) y).context } := hu.slot _
  rw [e]
  refine ⟨?_, ?_, fun y hy => ?_, ?_, Wall.dropStores_tallyOf n _ _, fun k => ?_, ?_, ?_, ?_⟩
  · rw [Wall.dropStores_slot, Wall.finishAt_slot]
  · rw [Wall.dropStores_slot, Wall.finishAt_slot, us x]
  · exact Wall.SlotKept.trans (v := u) (us y) (Wall.finishAt_kept _ _ _ u hy)
  · rw [Wall.dropStores_lanes, Wall.finishAt_lanes, tabMod_tabMod, ul]
    rfl
  · rw [Wall.dropStores_cassettes, Wall.finishAt_frame, hu.frame]
    simp [Wall.unreserve]
  · rw [Wall.dropStores_transport, Wall.finishAt_frame, hu.frame]
    rfl
  · exact .trans (.of_stores (v := w.unreserve c.outstanding) rfl)
      (hu.ends.trans ((Wall.finishAt_ends _ n x _ _ u).trans (Wall.dropStores_ends n _ _)))
  · exact Wall.OnlyPage.trans (v := u) hu.onlyPage (Wall.finishAt_onlyPage _ n x _ _ u)

theorem Wall.finishDispenseAt_ends (d : Decision) (n : LaneId) (jammed : Bool) (w : Wall) : w.EndsInLane n (w.finishDispenseAt d n jammed) := by
  rcases Wall.finishDispenseAt_cases d n jammed w with ⟨x, c, t, hx, hc, ht⟩ | h
  · obtain ⟨-, -, -, -, -, -, -, ends, -⟩ := Wall.finishDispenseAt_spec d jammed hx hc ht
    exact ends
  · rw [h]
    exact .refl n w

theorem Wall.finishDispenseAt_onlyPage (d : Decision) (n : LaneId) (jammed : Bool) (w : Wall) : w.OnlyPage n (w.finishDispenseAt d n jammed) := by
  rcases Wall.finishDispenseAt_cases d n jammed w with ⟨x, c, t, hx, hc, ht⟩ | h
  · obtain ⟨-, -, -, -, -, -, -, -, page⟩ := Wall.finishDispenseAt_spec d jammed hx hc ht
    exact page
  · rw [h]
    exact .of_pages n rfl

/-- A DISPENSE that finishes leaves the slots of other orders of its lane as they were, but for a progress area. -/
theorem Wall.finishDispenseAt_kept (d : Decision) {n : LaneId} (jammed : Bool) {w : Wall} {y : SlotId} (h : w.orderOf n .dispense ≠ some y) :
    w.SlotKept n y (w.finishDispenseAt d n jammed) := by
  rcases Wall.finishDispenseAt_cases d n jammed w with ⟨x, c, t, hx, hc, ht⟩ | e
  · obtain ⟨-, -, kept, -⟩ := Wall.finishDispenseAt_spec d jammed hx hc ht
    exact kept y fun e => h (by rw [hx, e])
  · rw [e]
    exact .of_eq rfl

/-- The end of a DISPENSE leaves its lane's pocket. -/
theorem Wall.finishDispenseAt_pocket (d : Decision) (n : LaneId) (jammed : Bool) (w : Wall) :
    ((w.finishDispenseAt d n jammed).lanes.get n).pocket = (w.lanes.get n).pocket :=
  ((Wall.finishDispenseAt_ordersMove d n jammed w).lane n).2

end Sys2Proof.Machine
end

section
/-! SUPPORT. What a jam of a drawer leaves of its lane, and of the orders that wait for it or own it (R6, R104, R125, R134). -/

namespace Sys2Proof.Machine

/-! ### The pocket -/

theorem Wall.modPocket_ends (n : LaneId) (f : Pocket → Pocket) (w : Wall) : w.EndsInLane n (w.modPocket n f) :=
  .of_modLane (fun _ _ h => h) fun _ => rfl

/-- A pocket that enters HELD with a hold limit (R122, R123). -/
def Pocket.held (ms : Nat) (p : Pocket) : Pocket :=
  { p with state := .held, owner := none, holdMs := ms, timerRunning := true, unattended := false, abandoned := false, stranded := false,
           lost := false }

/-- A pocket that enters EMPTY (R122). -/
def Pocket.emptied (p : Pocket) : Pocket :=
  { p with state := .empty, owner := none, holdMs := 0, timerRunning := false, unknownOrigin := false, unattended := false, abandoned := false,
           stranded := false }

theorem Wall.pocketHeld_eq (n : LaneId) (w : Wall) : w.pocketHeld n = w.modPocket n (Pocket.held w.holdLimitMs) := rfl

theorem Wall.pocketEmpty_eq (n : LaneId) (w : Wall) : w.pocketEmpty n = w.modPocket n Pocket.emptied := rfl

/-- A pocket after a lift that jams, by the envelope sensor (R125). -/
def Pocket.sensed (envelope : Bool) (ms : Nat) (p : Pocket) : Pocket := if envelope then p.held ms else p.emptied

theorem Wall.pocketFromSensor_eq (n : LaneId) (w : Wall) :
    w.pocketFromSensor n = w.modPocket n (Pocket.sensed (w.lanes.get n).envelopeSensor w.holdLimitMs) := by
  unfold Wall.pocketFromSensor
  cases (w.lanes.get n).envelopeSensor <;> rfl

theorem Wall.returnFields_modPocket (n : LaneId) (f : Pocket → Pocket) (w : Wall) : (w.modPocket n f).returnFields = w.returnFields := rfl

theorem Wall.modPocket_pocket (n : LaneId) (f : Pocket → Pocket) (w : Wall) :
    ((w.modPocket n f).lanes.get n).pocket = f (w.lanes.get n).pocket := by
  rw [Wall.modPocket, Wall.modLane_get_same]

/-! ### Ends that touch no DISPENSE -/

/-- Between two walls orders of a lane other than a DISPENSE have ended: the stores of the note path stand, and so does each DISPENSE's slot. -/
structure Wall.PlainEnds (n : LaneId) (w v : Wall) : Prop where
  ends : w.EndsInLane n v
  onlyPage : w.OnlyPage n v
  engine : v.engine = w.engine
  cassettes : v.cassettes = w.cassettes
  dispense : ∀ y, w.kindAt (lanePage n) y = some .dispense → v.slot (lanePage n) y = w.slot (lanePage n) y

namespace Wall.PlainEnds
variable {n : LaneId} {u v w : Wall}

theorem trans (h : u.PlainEnds n v) (h' : v.PlainEnds n w) : u.PlainEnds n w where
  ends := h.ends.trans h'.ends
  onlyPage := h.onlyPage.trans h'.onlyPage
  engine := h'.engine.trans h.engine
  cassettes := h'.cassettes.trans h.cassettes
  dispense y hy := (h'.dispense y (by rwa [h.ends.kindAt])).trans (h.dispense y hy)

theorem refl (n : LaneId) (w : Wall) : w.PlainEnds n w := ⟨.refl n w, .of_pages n rfl, rfl, rfl, fun _ _ => rfl⟩

theorem orderOf (h : w.PlainEnds n v) : v.orderOf n .dispense = w.orderOf n .dispense :=
  Wall.orderOf_congr (fun x hx => by rw [h.dispense x hx]) fun x => h.ends.kindAt _ x

theorem contextOf (h : w.PlainEnds n v) : v.contextOf n = w.contextOf n := by
  have progress : ((v.orderOf n .dispense).bind fun x => (v.slot (lanePage n) x).context)
      = (w.orderOf n .dispense).bind fun x => (w.slot (lanePage n) x).context := by
    rw [h.orderOf]
    rcases e : w.orderOf n .dispense with _ | x
    · rfl
    · simp only [Option.bind_some, h.dispense x (Wall.orderOf_some e).2]
  simp only [Wall.contextOf, progress, h.engine]

theorem tallyOf (h : w.PlainEnds n v) : v.tallyOf n = w.tallyOf n := by simp only [Wall.tallyOf, h.engine]

/-- The end of one order that is no DISPENSE. -/
theorem of_finishAt (t : DWord) {x : SlotId} (e : OrderEnd) (fields : List Word) (hx : w.kindAt (lanePage n) x ≠ some .dispense) :
    w.PlainEnds n (w.finishAt t (lanePage n) x e fields) where
  ends := Wall.finishAt_ends t n x e fields w
  onlyPage := Wall.finishAt_onlyPage t n x e fields w
  engine := by rw [Wall.finishAt_frame]
  cassettes := by rw [Wall.finishAt_frame]
  dispense y hy := Wall.finishAt_other t e fields w fun h => hx (by obtain ⟨-, rfl⟩ := Prod.mk.inj h; exact hy)

theorem of_modPocket (f : Pocket → Pocket) : w.PlainEnds n (w.modPocket n f) :=
  ⟨Wall.modPocket_ends n f w, .of_pages n rfl, rfl, rfl, fun _ _ => rfl⟩

end Wall.PlainEnds

/-! ### The orders that wait (R104, R134) -/

/-- The slot whose order ends where the order in slot `s` ends by a jam: its own, or the slot of the lane's DISPENSE. -/
def Wall.jamEnds (w : Wall) (n : LaneId) (s : SlotId) : Option SlotId :=
  if w.kindAt (lanePage n) s = some .dispense then w.orderOf n .dispense else some s

/-- An order in slot `y` is one that a jam ends: an envelope order, a RETRACT, or the lane's DISPENSE with its stores. -/
def Wall.jamReady (w : Wall) (n : LaneId) (y : SlotId) : Prop :=
  w.kindAt (lanePage n) y = some .deposit ∨ w.kindAt (lanePage n) y = some .returnEnvelope ∨ w.kindAt (lanePage n) y = some .retract
    ∨ (w.kindAt (lanePage n) y = some .dispense ∧ w.orderOf n .dispense = some y ∧ w.contextOf n ≠ none
      ∧ (w.tallyOf n).map Tally.faulted = some false)

/-- How a jam can end the order in slot `s` of a lane: a DISPENSE finishes, after what its tally and the transport take of the jam; another order finishes, after
what its pocket takes of it; and an order of another kind it leaves alone. -/
inductive Wall.JamEnd (n : LaneId) (s : SlotId) (w : Wall) : Wall → Prop
  | dispense (hk : w.kindAt (lanePage n) s = some .dispense) (g : Transport → Transport) (f : Tally → Tally) (hf : ∀ t, (f t).faulted = t.faulted) :
    JamEnd n s w (((w.modTransport g).modTally n f).finishDispense n true)
  | other (hk : w.kindAt (lanePage n) s ≠ some .dispense) (f : Pocket → Pocket) (fields : List Word) :
    JamEnd n s w ((w.modPocket n f).finish (lanePage n) s .drawerJammed fields)
  | alone (hk : w.kindAt (lanePage n) s ≠ some .dispense) (hr : ¬w.jamReady n s) : JamEnd n s w w

theorem Wall.modPocket_id (n : LaneId) (w : Wall) : w.modPocket n id = w := by
  have : tabMod w.lanes n (fun l => { l with pocket := id l.pocket }) = w.lanes := tabMod_same _ _ _ rfl
  rw [Wall.modPocket, Wall.modLane, this]

theorem Wall.modTally_id (n : LaneId) (w : Wall) : w.modTally n id = w := by
  have : tabMod w.engine.tallies n (Option.map id) = w.engine.tallies := tabMod_same _ _ _ (Option.map_id_apply)
  rw [Wall.modTally, Wall.modEngine, this]

namespace Wall.JamEnd
variable {n : LaneId} {s : SlotId} {w v : Wall}

/-- An end that leaves the pocket as it was. -/
theorem finish (hk : w.kindAt (lanePage n) s ≠ some .dispense) (fields : List Word) :
    w.JamEnd n s (w.finish (lanePage n) s .drawerJammed fields) := by
  have h := Wall.JamEnd.other hk id fields
  rwa [Wall.modPocket_id] at h

theorem plain (h : w.JamEnd n s v) (hk : w.kindAt (lanePage n) s ≠ some .dispense) : w.PlainEnds n v := by
  cases h with
  | dispense h => exact absurd h hk
  | other _ f fields => exact .trans (.of_modPocket f) (.of_finishAt _ _ _ hk)
  | alone => exact .refl n w

theorem ends (h : w.JamEnd n s v) : w.EndsInLane n v := by
  by_cases hk : w.kindAt (lanePage n) s = some .dispense
  · cases h with
    | dispense _ g f => exact .trans (.of_stores rfl) (Wall.finishDispenseAt_ends _ n true _)
    | other h | alone h => exact absurd hk h
  · exact (h.plain hk).ends

theorem onlyPage (h : w.JamEnd n s v) : w.OnlyPage n v := by
  by_cases hk : w.kindAt (lanePage n) s = some .dispense
  · cases h with
    | dispense _ g f => exact Wall.OnlyPage.trans (.of_pages n rfl) (Wall.finishDispenseAt_onlyPage _ n true ((w.modTransport g).modTally n f))
    | other h | alone h => exact absurd hk h
  · exact (h.plain hk).onlyPage

/-- Every other slot than the one whose order ends is kept. -/
theorem kept {y : SlotId} (h : w.JamEnd n s v) (hy : w.jamEnds n s ≠ some y) : w.SlotKept n y v := by
  cases h with
  | dispense hk g f =>
    rw [Wall.jamEnds, if_pos hk] at hy
    exact Wall.finishDispenseAt_kept (w := (w.modTransport g).modTally n f) _ true hy
  | other hk f fields =>
    rw [Wall.jamEnds, if_neg hk] at hy
    exact Wall.finishAt_kept _ _ _ (w.modPocket n f) fun e => hy (by rw [e])
  | alone => exact .of_eq rfl

end Wall.JamEnd

/-- What ends an order that waits, by its kind (R104, R125, R134). -/
theorem Wall.jamWaiter_end (n : LaneId) (s : SlotId) (w : Wall) : w.JamEnd n s (w.jamWaiter n s) := by
  unfold Wall.jamWaiter
  split
  · next h =>
    have e := Wall.JamEnd.dispense h id id fun _ => rfl
    rwa [Wall.modTally_id] at e
  · next h => exact .finish (by simp [h]) _
  · next h => exact .other (by simp [h]) _ _
  · next h => exact .finish (by simp [h]) _
  · next h1 h2 h3 h4 => exact .alone h1 fun h => h.elim h2 fun h => h.elim h3 fun h => h.elim h4 fun h => h1 h.1

/-- A RETURN that waits leaves the pocket HELD, and every other order leaves the pocket as it was (R134). -/
theorem Wall.jamWaiter_pocket (n : LaneId) (s : SlotId) (w : Wall) :
    (w.kindAt (lanePage n) s = some .returnEnvelope → ((w.jamWaiter n s).lanes.get n).pocket.state = .held
        ∧ ((w.jamWaiter n s).lanes.get n).pocket.owner = none)
      ∧ (w.kindAt (lanePage n) s ≠ some .returnEnvelope → ((w.jamWaiter n s).lanes.get n).pocket = (w.lanes.get n).pocket) := by
  have finish : ∀ (v : Wall) f, ((v.finish (lanePage n) s .drawerJammed f).lanes.get n).pocket = (v.lanes.get n).pocket := fun v f =>
    ((Wall.finishAt_ordersMove v.port.seconds _ s _ f v).lane n).2
  unfold Wall.jamWaiter
  split
  · next h => exact ⟨fun e => by simp [h] at e, fun _ => Wall.finishDispenseAt_pocket _ n true w⟩
  · next h => exact ⟨fun e => by simp [h] at e, fun _ => finish w _⟩
  · next h =>
    refine ⟨fun _ => ?_, absurd h⟩
    rw [finish, Wall.pocketHeld_eq, Wall.modPocket_pocket]
    exact ⟨rfl, rfl⟩
  · next h => exact ⟨fun e => by simp [h] at e, fun _ => finish w _⟩
  · next _ _ h _ => exact ⟨fun e => absurd e h, fun _ => rfl⟩

/-- Between two walls a jam has ended the order in slot `y`, which waits no more. -/
def Wall.jamEnded (n : LaneId) (y : SlotId) (w v : Wall) : Prop :=
  (v.slot (lanePage n) y).state = .finished ∧ y ∉ (v.lanes.get n).waiting
    ∧ (v.slot (lanePage n) y).result.take 4 = resultWords .drawerJammed (w.slot (lanePage n) y).tooLate w.port.seconds []

theorem resultWords_take (e : OrderEnd) (b : Bool) (t : DWord) (fields : List Word) :
    (resultWords e b t fields).take 4 = resultWords e b t [] := rfl

/-- The end that the jam has made of an order stays while others end. -/
theorem Wall.jamEnded.keep {n : LaneId} {y : SlotId} {u v w : Wall} (h : u.jamEnded n y v) (hk : v.SlotKept n y w) (he : v.EndsInLane n w) :
    u.jamEnded n y w := by
  obtain ⟨hs, hw, hr⟩ := h
  exact ⟨by rw [hk.state, hs], fun hy => hw (he.waits y hy), by rw [hk.result, hr]⟩

/-- What has ended before the order does not matter to its end. -/
theorem Wall.jamEnded.after {n : LaneId} {y : SlotId} {u v w : Wall} (hk : u.SlotKept n y v) (he : u.EndsInLane n v) (h : v.jamEnded n y w) :
    u.jamEnded n y w := by
  obtain ⟨hs, hw, hr⟩ := h
  exact ⟨hs, hw, by rw [hr, hk.tooLate, he.port]⟩

/-- The jam ends an order that it finds ready. -/
theorem Wall.JamEnd.ended {n : LaneId} {s y : SlotId} {w v : Wall} (h : w.JamEnd n s v) (hr : w.jamReady n y) (he : w.jamEnds n s = some y) :
    w.jamEnded n y v := by
  cases h with
  | dispense hk g f hf =>
    rw [Wall.jamEnds, if_pos hk] at he
    have hy := (Wall.orderOf_some he).2
    simp only [Wall.jamReady, hy, Option.some.injEq, reduceCtorEq, false_or, true_and] at hr
    obtain ⟨-, hc, ht⟩ := hr
    obtain ⟨c, hc⟩ := Option.ne_none_iff_exists'.mp hc
    obtain ⟨t, ht, hfaulted⟩ := Option.map_eq_some_iff.mp ht
    have ht' : ((w.modTransport g).modTally n f).tallyOf n = some (f t) := by
      simp only [Wall.tallyOf, Wall.modTally_engine, tabMod_get_same, Wall.modTransport_engine]
      exact congrArg (Option.map f) ht
    obtain ⟨hstate, hresult, -, hlanes, -⟩ :=
      Wall.finishDispenseAt_spec (w := (w.modTransport g).modTally n f) ((w.modTransport g).modTally n f).decision true he hc ht'
    refine ⟨hstate, ?_, ?_⟩
    · rw [Wall.finishDispense, hlanes, tabMod_get_same]
      simp [Lane.leave]
    · rw [Wall.finishDispense, hresult, resultWords_take]
      simp only [dispenseOutcome, hf, hfaulted]
      rfl
  | other hk f fields =>
    rw [Wall.jamEnds, if_neg hk] at he
    obtain rfl := Option.some.inj he
    refine ⟨?_, ?_, ?_⟩
    · rw [Wall.finish_slot]
    · rw [Wall.finish, Wall.finishAt_lanes, tabMod_get_same]
      simp [Lane.leave]
    · rw [Wall.finish_slot, resultWords_take]
      rfl
  | alone hk hn =>
    rw [Wall.jamEnds, if_neg hk] at he
    obtain rfl := Option.some.inj he
    exact absurd hr hn

/-- The orders of a list that waits for a drawer end, one after the other. -/
def Wall.jamWaiters (n : LaneId) (l : List SlotId) (w : Wall) : Wall := l.foldl (fun w s => w.jamWaiter n s) w

/-- What every end of a waiting order keeps, the ends of a list keep. -/
theorem Wall.jamWaiters_induction {n : LaneId} {P : Wall → Prop} {l : List SlotId} {w : Wall} (hw : P w)
    (h : ∀ v, ∀ s ∈ l, P v → P (v.jamWaiter n s)) : P (w.jamWaiters n l) := by
  induction l generalizing w with
  | nil => exact hw
  | cons s rest ih =>
    exact ih (h w s List.mem_cons_self hw) fun v t ht => h v t (List.mem_cons_of_mem _ ht)

theorem Wall.jamWaiters_ends (n : LaneId) (l : List SlotId) (w : Wall) : w.EndsInLane n (w.jamWaiters n l) :=
  Wall.jamWaiters_induction (P := w.EndsInLane n) (.refl n w) fun v s _ h => h.trans (Wall.jamWaiter_end n s v).ends

theorem Wall.jamWaiters_onlyPage (n : LaneId) (l : List SlotId) (w : Wall) : w.OnlyPage n (w.jamWaiters n l) :=
  Wall.jamWaiters_induction (P := w.OnlyPage n) (.of_pages n rfl) fun v s _ h => h.trans (Wall.jamWaiter_end n s v).onlyPage

/-- Orders that wait and are no DISPENSE end plainly. -/
theorem Wall.jamWaiters_plain {n : LaneId} {l : List SlotId} {w : Wall} (h : ∀ s ∈ l, w.kindAt (lanePage n) s ≠ some .dispense) :
    w.PlainEnds n (w.jamWaiters n l) :=
  Wall.jamWaiters_induction (P := w.PlainEnds n) (.refl n w) fun v s hs hv =>
    hv.trans ((Wall.jamWaiter_end n s v).plain (by rw [hv.ends.kindAt]; exact h s hs))

/-- Where none of them is on the envelope track, the pocket and the slot of an envelope order are kept (R27). -/
theorem Wall.jamWaiters_envelope {n : LaneId} {l : List SlotId} {w : Wall} {x : SlotId}
    (h : ∀ s ∈ l, (w.kindAt (lanePage n) s).map Kind.track ≠ some .envelope) (hx : (w.kindAt (lanePage n) x).map Kind.track = some .envelope) :
    w.SlotKept n x (w.jamWaiters n l) ∧ ((w.jamWaiters n l).lanes.get n).pocket = (w.lanes.get n).pocket := by
  have keep := Wall.jamWaiters_induction (n := n) (l := l) (w := w)
    (P := fun v => w.EndsInLane n v ∧ w.SlotKept n x v ∧ (v.lanes.get n).pocket = (w.lanes.get n).pocket)
    ⟨.refl n w, .of_eq rfl, rfl⟩ fun v s hs ⟨he, hk, hp⟩ => by
      refine ⟨he.trans (Wall.jamWaiter_end n s v).ends, hk.trans ((Wall.jamWaiter_end n s v).kept ?_), ?_⟩
      · unfold Wall.jamEnds
        split
        · intro e
          have := (Wall.orderOf_some e).2
          rw [he.kindAt] at this
          simp [this, Kind.track] at hx
        · intro e
          obtain rfl := Option.some.inj e
          exact h s hs hx
      · rw [(Wall.jamWaiter_pocket n s v).2 ?_, hp]
        intro e
        rw [he.kindAt] at e
        exact h s hs (by simp [e, Kind.track])
  exact keep.2

/-- A RETURN that waits leaves the pocket HELD, whatever ends after it (R134). -/
theorem Wall.jamWaiters_return {n : LaneId} {l : List SlotId} {w : Wall} {y : SlotId} (hy : y ∈ l)
    (hk : w.kindAt (lanePage n) y = some .returnEnvelope) :
    ((w.jamWaiters n l).lanes.get n).pocket.state = .held ∧ ((w.jamWaiters n l).lanes.get n).pocket.owner = none := by
  have held : ∀ (v : Wall) s, (v.lanes.get n).pocket.state = .held ∧ (v.lanes.get n).pocket.owner = none →
      ((v.jamWaiter n s).lanes.get n).pocket.state = .held ∧ ((v.jamWaiter n s).lanes.get n).pocket.owner = none := fun v s hv => by
    by_cases h : v.kindAt (lanePage n) s = some .returnEnvelope
    · exact (Wall.jamWaiter_pocket n s v).1 h
    · rwa [(Wall.jamWaiter_pocket n s v).2 h]
  obtain ⟨before, after, rfl⟩ := List.append_of_mem hy
  have he := Wall.jamWaiters_ends n before w
  have : w.jamWaiters n (before ++ y :: after) = ((w.jamWaiters n before).jamWaiter n y).jamWaiters n after := by
    simp only [Wall.jamWaiters, List.foldl_append, List.foldl_cons]
  rw [this]
  exact Wall.jamWaiters_induction
    (P := fun v => (v.lanes.get n).pocket.state = .held ∧ (v.lanes.get n).pocket.owner = none)
    ((Wall.jamWaiter_pocket n y _).1 (by rw [he.kindAt, hk])) fun v s _ hv => held v s hv

/-- An order that the jam has ended stays so while the others of a list end. -/
theorem Wall.jamWaiters_keepEnded {n : LaneId} {l : List SlotId} {u w : Wall} {y : SlotId} (h : u.jamEnded n y w)
    (hy : w.kindAt (lanePage n) y = some .dispense ∨ y ∉ l) : u.jamEnded n y (w.jamWaiters n l) := by
  refine (Wall.jamWaiters_induction (P := fun v => u.jamEnded n y v ∧ w.EndsInLane n v) ⟨h, .refl n w⟩ fun v s hs ⟨hv, he⟩ =>
    ⟨hv.keep ((Wall.jamWaiter_end n s v).kept ?_) (Wall.jamWaiter_end n s v).ends, he.trans (Wall.jamWaiter_end n s v).ends⟩).1
  unfold Wall.jamEnds
  split
  · intro e
    have := (Wall.orderOf_some e).1
    rw [hv.1] at this
    cases this
  · next hk =>
    intro e
    obtain rfl := Option.some.inj e
    rw [he.kindAt] at hk
    exact hy.elim hk fun h => h hs

/-- The jam ends each order of the list that it finds ready. -/
theorem Wall.jamWaiters_ended {n : LaneId} {l : List SlotId} {w : Wall} {y : SlotId} (hl : l.Nodup) (hy : y ∈ l) (hr : w.jamReady n y) :
    w.jamEnded n y (w.jamWaiters n l) := by
  induction l generalizing w with
  | nil => cases hy
  | cons s rest ih =>
    obtain ⟨hs, hrest⟩ := List.nodup_cons.mp hl
    show w.jamEnded n y ((w.jamWaiter n s).jamWaiters n rest)
    have hend := Wall.jamWaiter_end n s w
    have he := hend.ends
    by_cases ht : w.jamEnds n s = some y
    · refine Wall.jamWaiters_keepEnded (hend.ended hr ht) ?_
      rw [he.kindAt]
      by_cases hk : w.kindAt (lanePage n) s = some .dispense
      · rw [Wall.jamEnds, if_pos hk] at ht
        exact .inl (Wall.orderOf_some ht).2
      · rw [Wall.jamEnds, if_neg hk] at ht
        exact .inr (Option.some.inj ht ▸ hs)
    · have hsy : y ≠ s := by
        rintro rfl
        refine ht ?_
        unfold Wall.jamEnds
        split
        · next hk =>
          simp only [Wall.jamReady, hk, Option.some.injEq, reduceCtorEq, false_or, true_and] at hr
          exact hr.1
        · rfl
      refine .after (hend.kept ht) he (ih hrest ((List.mem_cons.mp hy).resolve_left hsy) ?_)
      unfold Wall.jamReady
      rw [he.kindAt]
      refine hr.imp id (Or.imp id (Or.imp id fun ⟨hk, ho, hc, hf⟩ => ?_))
      have hp : w.PlainEnds n (w.jamWaiter n s) := hend.plain fun hks => ht (by rw [Wall.jamEnds, if_pos hks, ho])
      exact ⟨hk, by rw [hp.orderOf, ho], by rw [hp.contextOf]; exact hc, by rw [hp.tallyOf, hf]⟩

end Sys2Proof.Machine
end

section
/-! SUPPORT. A jam of a drawer from its beginning to its end: the drawer, the orders that wait, a PATH RESET, and the owner (R6, R20, R104, R125, R134). -/

namespace Sys2Proof.Machine

/-! ### The parts of a jam -/

/-- A drawer as it enters JAMMED (R6). -/
def Lane.jam (l : Lane) : Lane :=
  { l with drawer := .jammed, timerMs := 0, cycle := .none, travel := .none, budgetMs := 0, window := none, obstructed := false,
           shortTimer := false, ownerClose := none }

/-- The drawer enters JAMMED and DRAWER JAMMED is posted (R6). -/
def Wall.jamStart (n : LaneId) (detail : Nat) (w : Wall) : Wall := (w.modLane n Lane.jam).post (.drawerJammed n) detail

/-- A PATH RESET for the drawer, where one is in progress, ends DRAWER JAMMED (R20). -/
def Wall.jamReset (n : LaneId) (w : Wall) : Wall :=
  match w.pathReset (2 + n.val) with
  | some x => w.finish servicePage x .drawerJammed []
  | none => w

/-- The order that owns the drawer, where one does, ends DRAWER JAMMED. -/
def Wall.jamOwned (n : LaneId) (old : Lane) (w : Wall) : Wall :=
  match old.owner with
  | some x => w.jamOwner n x old
  | none => w

/-- The drawer is nobody's. -/
def Wall.disown (n : LaneId) (w : Wall) : Wall := w.modLane n fun l => { l with owner := none }

theorem Wall.disown_keeps (n : LaneId) (w : Wall) :
    (∀ p y, (w.disown n).slot p y = w.slot p y) ∧ ((w.disown n).lanes.get n).pocket = (w.lanes.get n).pocket
      ∧ (w.disown n).tallyOf n = w.tallyOf n ∧ (w.disown n).cassettes = w.cassettes :=
  ⟨fun _ _ => rfl, by rw [Wall.disown, Wall.modLane_get_same], rfl, rfl⟩

theorem Wall.disown_ends (n : LaneId) (w : Wall) : w.EndsInLane n (w.disown n) := .of_modLane (fun _ _ h => h) fun _ => rfl

theorem Wall.enterJam_eq (n : LaneId) (detail : Nat) (w : Wall) :
    w.enterJam n detail = ((w.jamStart n detail).jamWaiters n (w.lanes.get n).waiting).jamReset n := rfl

theorem Wall.jamDrawer_eq (n : LaneId) (w : Wall) :
    w.jamDrawer n = ((w.enterJam n (w.lanes.get n).travel.code).jamOwned n (w.lanes.get n)).disown n := rfl

theorem Wall.jamStart_frame (n : LaneId) (detail : Nat) (w : Wall) :
    w.jamStart n detail = { w with lanes := tabMod w.lanes n Lane.jam, board := (w.jamStart n detail).board, lost := (w.jamStart n detail).lost } := by
  unfold Wall.jamStart
  rw [Wall.post_frame]
  rfl

theorem Wall.jamStart_slot (n : LaneId) (detail : Nat) (w : Wall) (p : PageId) (x : SlotId) : (w.jamStart n detail).slot p x = w.slot p x :=
  Wall.slot_congr (by rw [Wall.jamStart_frame]) p x

theorem Wall.jamStart_kindAt (n : LaneId) (detail : Nat) (w : Wall) (p : PageId) (x : SlotId) : (w.jamStart n detail).kindAt p x = w.kindAt p x :=
  Wall.kindAt_congr (by rw [Wall.jamStart_slot])

theorem Wall.jamStart_context (n m : LaneId) (detail : Nat) (w : Wall) :
    (w.jamStart n detail).orderOf m .dispense = w.orderOf m .dispense ∧ (w.jamStart n detail).contextOf m = w.contextOf m
      ∧ (w.jamStart n detail).tallyOf m = w.tallyOf m :=
  Wall.contextOf_congr (by rw [Wall.jamStart_frame]) fun x => Wall.jamStart_slot ..

theorem Wall.jamStart_jamReady {n : LaneId} {detail : Nat} {w : Wall} {y : SlotId} (h : w.jamReady n y) : (w.jamStart n detail).jamReady n y := by
  obtain ⟨ho, hc, ht⟩ := Wall.jamStart_context n n detail w
  unfold Wall.jamReady at *
  rwa [Wall.jamStart_kindAt, ho, hc, ht]

/-- The end of a PATH RESET touches the service page alone. -/
theorem Wall.jamReset_spec (n : LaneId) (w : Wall) :
    w.jamReset n = { w with pages := (w.jamReset n).pages, flags := (w.jamReset n).flags }
      ∧ (∀ m x, (w.jamReset n).slot (lanePage m) x = w.slot (lanePage m) x) ∧ (∀ p x, ((w.jamReset n).slot p x).body = (w.slot p x).body)
      ∧ (w.pathReset (2 + n.val) = none → w.jamReset n = w)
      ∧ ∀ y, w.pathReset (2 + n.val) = some y → w.finishedWith (w.jamReset n) servicePage y .drawerJammed [] := by
  unfold Wall.jamReset
  rcases h : w.pathReset (2 + n.val) with _ | x
  · exact ⟨rfl, fun _ _ => rfl, fun _ _ => rfl, fun _ => rfl, nofun⟩
  · refine ⟨?_, fun m y => ?_, Wall.finishAt_body _ _ x _ _ w, nofun, fun y hy => ?_⟩
    · have hl := Wall.finishAt_service w.port.seconds x .drawerJammed [] w
      dsimp only [Wall.finish]
      rw [Wall.finishAt_frame, hl]
    · exact Wall.finishAt_other _ _ _ w fun e => servicePage_ne_lanePage m (Prod.mk.inj e).1.symm
    · obtain rfl := Option.some.inj hy
      exact ⟨by rw [Wall.finish_slot], by rw [Wall.finish_slot]⟩

theorem Wall.jamReset_ends (n : LaneId) (w : Wall) : w.EndsInLane n (w.jamReset n) := by
  obtain ⟨frame, -, body, -⟩ := Wall.jamReset_spec n w
  have hl : (w.jamReset n).lanes = w.lanes := by rw [frame]
  refine ⟨?_, fun m _ => by rw [hl], by rw [hl], fun y hy => by rwa [hl] at hy, body⟩
  rw [frame]

/-! ### The owner -/

/-- What ends the order that owns the drawer, by its kind (R104, R125, R134). -/
theorem Wall.jamOwner_end (n : LaneId) (x : SlotId) (old : Lane) (w : Wall) : w.JamEnd n x (w.jamOwner n x old) := by
  have other : ∀ fields, w.kindAt (lanePage n) x ≠ some .dispense →
      w.JamEnd n x ((w.pocketFromSensor n).finish (lanePage n) x .drawerJammed fields) := fun fields h => by
    rw [Wall.pocketFromSensor_eq]
    exact .other h _ fields
  unfold Wall.jamOwner
  dsimp only
  split
  · next h => exact Wall.JamEnd.dispense h _ _ fun _ => rfl
  · next h =>
    split
    · exact other _ (by simp [h])
    · exact .finish (by simp [h]) _
  · next h =>
    split
    · exact other _ (by simp [h])
    · exact .other (by simp [h]) _ _
  · next h => exact .finish (by simp [h]) _
  · next h1 h2 h3 h4 => exact .alone h1 fun h => h.elim h2 fun h => h.elim h3 fun h => h.elim h4 fun h => h1 h.1

theorem Wall.jamOwner_pocket {n : LaneId} {x : SlotId} {old : Lane} {w : Wall}
    (h : (w.kindAt (lanePage n) x).map Kind.track ≠ some .envelope) : ((w.jamOwner n x old).lanes.get n).pocket = (w.lanes.get n).pocket := by
  unfold Wall.jamOwner
  dsimp only
  split
  · exact Wall.finishDispenseAt_pocket _ n true _
  · next e => exact absurd (by rw [e]; rfl) h
  · next e => exact absurd (by rw [e]; rfl) h
  · exact ((Wall.finishAt_ordersMove _ _ x _ _ w).lane n).2
  · rfl

theorem Wall.jamOwned_ends (n : LaneId) (old : Lane) (w : Wall) : w.EndsInLane n (w.jamOwned n old) := by
  unfold Wall.jamOwned
  split
  · exact (Wall.jamOwner_end n _ old w).ends
  · exact .refl n w

theorem Wall.jamOwned_onlyPage (n : LaneId) (old : Lane) (w : Wall) : w.OnlyPage n (w.jamOwned n old) := by
  unfold Wall.jamOwned
  split
  · exact (Wall.jamOwner_end n _ old w).onlyPage
  · exact .of_pages n rfl

/-! ### The whole jam -/

theorem Wall.enterJam_ends (n : LaneId) (detail : Nat) (w : Wall) : (w.jamStart n detail).EndsInLane n (w.enterJam n detail) := by
  rw [Wall.enterJam_eq]
  exact (Wall.jamWaiters_ends n _ _).trans (Wall.jamReset_ends n _)

theorem Wall.jamDrawer_ends (n : LaneId) (w : Wall) : (w.jamStart n (w.lanes.get n).travel.code).EndsInLane n (w.jamDrawer n) := by
  rw [Wall.jamDrawer_eq]
  refine (Wall.enterJam_ends n _ w).trans ((Wall.jamOwned_ends n _ _).trans (Wall.disown_ends n _))

/-- The drawer after a jam (R6): all but the order's claims, the duress mark, the pocket and the bundle record is as the jam's beginning leaves it. -/
theorem Wall.jamDrawer_lane (n : LaneId) (w : Wall) :
    (w.jamDrawer n).lanes.get n =
        { (w.lanes.get n).jam with
            owner := none, ownerClose := ((w.jamDrawer n).lanes.get n).ownerClose, waiting := ((w.jamDrawer n).lanes.get n).waiting,
            duress := ((w.jamDrawer n).lanes.get n).duress, pocket := ((w.jamDrawer n).lanes.get n).pocket,
            bundle := ((w.jamDrawer n).lanes.get n).bundle }
      ∧ ∀ m, m ≠ n → (w.jamDrawer n).lanes.get m = w.lanes.get m := by
  have he := Wall.jamDrawer_ends n w
  have hl : (w.jamStart n (w.lanes.get n).travel.code).lanes = tabMod w.lanes n Lane.jam := by rw [Wall.jamStart_frame]
  have ho : ((w.jamDrawer n).lanes.get n).owner = none := by rw [Wall.jamDrawer_eq, Wall.disown, Wall.modLane_get_same]
  refine ⟨?_, fun m hm => ?_⟩
  · have e := he.lane
    rw [hl, tabMod_get_same, ho] at e
    exact e
  · rw [he.otherLane m hm, hl, tabMod_get_other _ _ hm]

/-- All that a jam posts is DRAWER JAMMED, with the travel as its detail. -/
theorem Wall.jamDrawer_board (n : LaneId) {v w : Wall} (hb : w.board = v.board) (hl : w.lost = v.lost) (hp : w.port = v.port)
    (k : Nat) (hk : (w.lanes.get n).travel.code = k) :
    (w.jamDrawer n).board = (v.post (.drawerJammed n) k).board ∧ (w.jamDrawer n).lost = (v.post (.drawerJammed n) k).lost := by
  subst hk
  have he := Wall.jamDrawer_ends n w
  rw [he.board, he.lost]
  exact Wall.post_congr _ _ (v := w.modLane n Lane.jam) hb hl hp

/-- The bins and the conveyor stand through a jam, and so do the clock, the profile and the zones. -/
theorem Wall.jamDrawer_frame (n : LaneId) (w : Wall) :
    (w.jamDrawer n).bins = w.bins ∧ (w.jamDrawer n).conveyor = w.conveyor := by
  have he := Wall.jamDrawer_ends n w
  rw [he.bins, he.conveyor, Wall.jamStart_frame]
  exact ⟨rfl, rfl⟩

/-- A drawer that no order owns or waits for, and that no PATH RESET is for, jams alone. -/
theorem Wall.jamDrawer_idle {n : LaneId} {w : Wall} (ho : (w.lanes.get n).owner = none) (hw : (w.lanes.get n).waiting = [])
    (hr : w.pathReset (2 + n.val) = none) : w.jamDrawer n = w.jamStart n (w.lanes.get n).travel.code := by
  have hr' : (w.jamStart n (w.lanes.get n).travel.code).pathReset (2 + n.val) = none := by
    rw [Wall.pathReset_congr fun x => Wall.jamStart_slot .., hr]
  rw [Wall.jamDrawer_eq, Wall.enterJam_eq, hw]
  simp only [Wall.jamOwned, ho]
  show ((w.jamStart n _).jamReset n).disown n = _
  obtain ⟨-, -, -, hnone, -⟩ := Wall.jamReset_spec n (w.jamStart n (w.lanes.get n).travel.code)
  rw [hnone hr']
  have hl : (w.jamStart n (w.lanes.get n).travel.code).lanes = tabMod w.lanes n Lane.jam := by rw [Wall.jamStart_frame]
  have same : tabMod (w.jamStart n (w.lanes.get n).travel.code).lanes n (fun l => { l with owner := none })
      = (w.jamStart n (w.lanes.get n).travel.code).lanes := tabMod_same _ _ _ (by
    rw [hl, tabMod_get_same]
    simp [Lane.jam, ho])
  rw [Wall.disown, Wall.modLane, same]

/-- A PATH RESET for the drawer ends DRAWER JAMMED (R20). -/
theorem Wall.jamDrawer_reset {n : LaneId} {w : Wall} {y : SlotId} (hr : w.pathReset (2 + n.val) = some y) :
    w.finishedWith (w.jamDrawer n) servicePage y .drawerJammed [] := by
  have hw := Wall.jamWaiters_onlyPage n (w.lanes.get n).waiting (w.jamStart n (w.lanes.get n).travel.code)
  have he := Wall.jamWaiters_ends n (w.lanes.get n).waiting (w.jamStart n (w.lanes.get n).travel.code)
  have hr' := (hw.pathReset (2 + n.val)).trans ((Wall.pathReset_congr fun x => Wall.jamStart_slot ..).trans hr)
  have same := hw servicePage y (servicePage_ne_lanePage n)
  have hp : (w.jamStart n (w.lanes.get n).travel.code).port = w.port := by rw [Wall.jamStart_frame]
  obtain ⟨-, -, -, -, hfin⟩ := Wall.jamReset_spec n ((w.jamStart n (w.lanes.get n).travel.code).jamWaiters n (w.lanes.get n).waiting)
  obtain ⟨hs, hres⟩ := hfin y hr'
  have kept : (w.jamDrawer n).slot servicePage y = (w.enterJam n (w.lanes.get n).travel.code).slot servicePage y := by
    rw [Wall.jamDrawer_eq, (Wall.disown_keeps n _).1]
    exact Wall.jamOwned_onlyPage n _ (w.enterJam n _) servicePage y (servicePage_ne_lanePage n)
  rw [Wall.finishedWith, kept, Wall.enterJam_eq]
  refine ⟨hs, hres.trans ?_⟩
  rw [same, Wall.jamStart_slot, he.port, hp]

/-- Each order that waits for the drawer ends DRAWER JAMMED and waits no more (R6, R104, R134). -/
theorem Wall.jamDrawer_waiter {n : LaneId} {w : Wall} {y : SlotId} (hn : (w.lanes.get n).waiting.Nodup) (hy : y ∈ (w.lanes.get n).waiting)
    (ho : (w.lanes.get n).owner ≠ some y) (hr : w.jamReady n y) : w.jamEnded n y (w.jamDrawer n) := by
  have hp : (w.jamStart n (w.lanes.get n).travel.code).port = w.port := by rw [Wall.jamStart_frame]
  have ended : (w.jamStart n (w.lanes.get n).travel.code).jamEnded n y (w.enterJam n (w.lanes.get n).travel.code) := by
    rw [Wall.enterJam_eq]
    exact (Wall.jamWaiters_ended hn hy (Wall.jamStart_jamReady hr)).keep (.of_eq ((Wall.jamReset_spec n _).2.1 n y)) (Wall.jamReset_ends n _)
  have owned : (w.jamStart n (w.lanes.get n).travel.code).jamEnded n y ((w.enterJam n (w.lanes.get n).travel.code).jamOwned n (w.lanes.get n)) := by
    refine ended.keep ?_ (Wall.jamOwned_ends n _ _)
    unfold Wall.jamOwned
    split
    · next x hx =>
      refine (Wall.jamOwner_end n x _ _).kept ?_
      unfold Wall.jamEnds
      split
      · intro e
        have := (Wall.orderOf_some e).1
        rw [ended.1] at this
        cases this
      · exact fun e => ho (by rw [hx, Option.some.inj e])
    · exact .of_eq rfl
  obtain ⟨hs, hw, hres⟩ := owned
  refine Wall.jamEnded.keep (v := (w.enterJam n (w.lanes.get n).travel.code).jamOwned n (w.lanes.get n)) ⟨hs, hw, ?_⟩ (.of_eq rfl)
    (Wall.disown_ends n _)
  rw [hres, Wall.jamStart_slot, hp]

/-- A RETURN that waits leaves the pocket HELD, where the owner is no envelope order (R134). -/
theorem Wall.jamDrawer_returnWaits {n : LaneId} {w : Wall} {y : SlotId} (hy : y ∈ (w.lanes.get n).waiting)
    (hk : w.kindAt (lanePage n) y = some .returnEnvelope)
    (ho : ∀ o, (w.lanes.get n).owner = some o → (w.kindAt (lanePage n) o).map Kind.track ≠ some .envelope) :
    ((w.jamDrawer n).lanes.get n).pocket.state = .held ∧ ((w.jamDrawer n).lanes.get n).pocket.owner = none := by
  have held := Wall.jamWaiters_return (w := w.jamStart n (w.lanes.get n).travel.code) hy (by rw [Wall.jamStart_kindAt, hk])
  have entered : ((w.enterJam n (w.lanes.get n).travel.code).lanes.get n).pocket
      = (((w.jamStart n (w.lanes.get n).travel.code).jamWaiters n (w.lanes.get n).waiting).lanes.get n).pocket := by
    rw [Wall.enterJam_eq, (Wall.jamReset_spec n _).1]
  have owned : ((w.jamDrawer n).lanes.get n).pocket = ((w.enterJam n (w.lanes.get n).travel.code).lanes.get n).pocket := by
    rw [Wall.jamDrawer_eq, (Wall.disown_keeps n _).2.1]
    unfold Wall.jamOwned
    split
    · next x hx =>
      refine Wall.jamOwner_pocket ?_
      rw [(Wall.enterJam_ends n _ w).kindAt, Wall.jamStart_kindAt]
      exact ho x hx
    · rfl
  rw [owned, entered]
  exact held

/-- An envelope order that owns the drawer is not touched before its own end, nor is its pocket (R27). -/
theorem Wall.enterJam_envelope {n : LaneId} {w : Wall} {x : SlotId} (detail : Nat) (hw : w.waitsElsewhere n x)
    (hx : (w.kindAt (lanePage n) x).map Kind.track = some .envelope) :
    w.SlotKept n x (w.enterJam n detail) ∧ ((w.enterJam n detail).lanes.get n).pocket = (w.lanes.get n).pocket := by
  have hl : (w.jamStart n detail).lanes = tabMod w.lanes n Lane.jam := by rw [Wall.jamStart_frame]
  obtain ⟨kept, pocket⟩ := Wall.jamWaiters_envelope (l := (w.lanes.get n).waiting) (w := w.jamStart n detail) (x := x)
    (fun s hs => by rw [Wall.jamStart_kindAt]; exact fun e => hw s hs (e.trans hx.symm)) (by rw [Wall.jamStart_kindAt, hx])
  obtain ⟨frame, slots, -⟩ := Wall.jamReset_spec n ((w.jamStart n detail).jamWaiters n (w.lanes.get n).waiting)
  rw [Wall.enterJam_eq]
  refine ⟨.trans (.of_eq (Wall.jamStart_slot ..)) (kept.trans (.of_eq (slots n x))), ?_⟩
  rw [frame]
  refine pocket.trans ?_
  rw [hl, tabMod_get_same]
  rfl

/-- The stores of a DISPENSE that owns the drawer are not touched before its own end, nor is its slot (R27). -/
theorem Wall.enterJam_note {n : LaneId} {w : Wall} {x : SlotId} (detail : Nat) (hw : w.waitsElsewhere n x)
    (hx : w.kindAt (lanePage n) x = some .dispense) :
    ((w.enterJam n detail).orderOf n .dispense = w.orderOf n .dispense ∧ (w.enterJam n detail).contextOf n = w.contextOf n
        ∧ (w.enterJam n detail).tallyOf n = w.tallyOf n)
      ∧ (w.enterJam n detail).cassettes = w.cassettes ∧ (w.enterJam n detail).slot (lanePage n) x = w.slot (lanePage n) x := by
  have plain : (w.jamStart n detail).PlainEnds n ((w.jamStart n detail).jamWaiters n (w.lanes.get n).waiting) :=
    Wall.jamWaiters_plain fun s hs e => hw s hs (by rw [← Wall.jamStart_kindAt n detail, e, hx])
  obtain ⟨ho, hc, ht⟩ := Wall.jamStart_context n n detail w
  obtain ⟨frame, slots, -⟩ := Wall.jamReset_spec n ((w.jamStart n detail).jamWaiters n (w.lanes.get n).waiting)
  have reset := Wall.contextOf_congr (v := ((w.jamStart n detail).jamWaiters n (w.lanes.get n).waiting).jamReset n) (by rw [frame]) (slots n)
  rw [Wall.enterJam_eq, reset.1, reset.2.1, reset.2.2, plain.orderOf, plain.contextOf, plain.tallyOf, slots,
    plain.dispense x (by rw [Wall.jamStart_kindAt, hx]), Wall.jamStart_slot]
  refine ⟨⟨ho, hc, ht⟩, ?_, rfl⟩
  rw [frame]
  refine plain.cassettes.trans ?_
  rw [Wall.jamStart_frame]

/-- What the beginning of a jam keeps of what the end of its owner needs. -/
theorem Wall.enterJam_keeps (n : LaneId) (detail : Nat) (w : Wall) :
    (∀ p x, (w.enterJam n detail).kindAt p x = w.kindAt p x) ∧ (w.enterJam n detail).port = w.port
      ∧ (w.enterJam n detail).returnFields = w.returnFields ∧ (w.enterJam n detail).holdLimitMs = w.holdLimitMs
      ∧ (w.enterJam n detail).valueOf = w.valueOf ∧ (w.enterJam n detail).decision = w.decision
      ∧ ((w.enterJam n detail).lanes.get n).envelopeSensor = (w.lanes.get n).envelopeSensor := by
  have he := Wall.enterJam_ends n detail w
  have hl : (w.jamStart n detail).lanes = tabMod w.lanes n Lane.jam := by rw [Wall.jamStart_frame]
  rw [he.port, he.returnFields, he.holdLimitMs, he.valueOf, he.decision, he.lane, hl, tabMod_get_same, Wall.jamStart_frame]
  exact ⟨fun p x => (he.kindAt p x).trans (Wall.jamStart_kindAt ..), rfl, rfl, rfl, rfl, rfl, rfl⟩

/-- A jam that an order owns ends with that order's end. -/
theorem Wall.jamDrawer_owned {n : LaneId} {w : Wall} {x : SlotId} (ho : (w.lanes.get n).owner = some x) :
    (∀ p y, (w.jamDrawer n).slot p y = ((w.enterJam n (w.lanes.get n).travel.code).jamOwner n x (w.lanes.get n)).slot p y)
      ∧ ((w.jamDrawer n).lanes.get n).pocket
        = (((w.enterJam n (w.lanes.get n).travel.code).jamOwner n x (w.lanes.get n)).lanes.get n).pocket
      ∧ (w.jamDrawer n).tallyOf n = ((w.enterJam n (w.lanes.get n).travel.code).jamOwner n x (w.lanes.get n)).tallyOf n
      ∧ (w.jamDrawer n).cassettes = ((w.enterJam n (w.lanes.get n).travel.code).jamOwner n x (w.lanes.get n)).cassettes := by
  have e : w.jamDrawer n = ((w.enterJam n (w.lanes.get n).travel.code).jamOwner n x (w.lanes.get n)).disown n := by
    rw [Wall.jamDrawer_eq, Wall.jamOwned, ho]
  rw [e]
  exact Wall.disown_keeps n _

/-- A finished envelope order, and the pocket that its end finds. -/
theorem Wall.finish_pocket {n : LaneId} {x : SlotId} {u w : Wall} (f : Pocket → Pocket) (fields : List Word) (hk : u.SlotKept n x w)
    (hp : w.port = u.port) :
    u.finishedWith ((w.modPocket n f).finish (lanePage n) x .drawerJammed fields) (lanePage n) x .drawerJammed fields
      ∧ (((w.modPocket n f).finish (lanePage n) x .drawerJammed fields).lanes.get n).pocket = f (w.lanes.get n).pocket := by
  refine ⟨⟨by rw [Wall.finish_slot], ?_⟩, ?_⟩
  · rw [Wall.finish_slot]
    show resultWords _ (w.slot (lanePage n) x).tooLate w.port.seconds _ = _
    rw [hk.tooLate, hp]
  · rw [Wall.finish, Wall.finishAt_lanes, tabMod_get_same]
    exact Wall.modPocket_pocket n f w

/-- The drawer stood in a lift (R9). -/
def Lane.lifts (l : Lane) : Bool := decide (l.travel = .liftToPocket) || decide (l.travel = .liftToDrawer)

theorem Lane.lifts_of_travel {l : Lane} (h : l.travel = .outward ∨ l.travel = .inward) : l.lifts = false := by
  rcases h with h | h <;> simp [Lane.lifts, h]

theorem Lane.lifts_of_lift {l : Lane} (h : l.travel = .liftToPocket ∨ l.travel = .liftToDrawer) : l.lifts = true := by
  rcases h with h | h <;> simp [Lane.lifts, h]

/-- The pocket of a DEPOSIT whose drawer jams: as it was, or what its envelope sensor shows after a lift (R125). -/
def Lane.jamDeposit (l : Lane) (ms : Nat) (p : Pocket) : Pocket := if l.lifts then p.sensed l.envelopeSensor ms else p

/-- The pocket of a RETURN whose drawer jams: empty, or what its envelope sensor shows after a lift (R134). -/
def Lane.jamReturn (l : Lane) (ms : Nat) (p : Pocket) : Pocket := if l.lifts then p.sensed l.envelopeSensor ms else p.emptied

/-- An owning DEPOSIT ends DRAWER JAMMED (R125). -/
theorem Wall.jamOwner_deposit {n : LaneId} {x : SlotId} {old : Lane} {w : Wall} (hk : w.kindAt (lanePage n) x = some .deposit)
    (he : (w.lanes.get n).envelopeSensor = old.envelopeSensor) :
    w.jamOwner n x old = (w.modPocket n (old.jamDeposit w.holdLimitMs)).finish (lanePage n) x .drawerJammed
      (depositFields old.closeCause old.result (old.jamDeposit w.holdLimitMs (w.lanes.get n).pocket).state) := by
  have pocket : (if old.lifts then w.pocketFromSensor n else w) = w.modPocket n (old.jamDeposit w.holdLimitMs) := by
    rw [Wall.pocketFromSensor_eq, he]
    cases hl : old.lifts
    · have hf : old.jamDeposit w.holdLimitMs = id := by funext p; simp [Lane.jamDeposit, hl]
      rw [hf, Wall.modPocket_id]
      rfl
    · have hf : old.jamDeposit w.holdLimitMs = Pocket.sensed old.envelopeSensor w.holdLimitMs := by funext p; simp [Lane.jamDeposit, hl]
      rw [hf]
      rfl
  unfold Lane.lifts at pocket
  simp only [Wall.jamOwner, hk, pocket, Wall.modPocket_pocket]

/-- An owning RETURN ends DRAWER JAMMED (R134). -/
theorem Wall.jamOwner_return {n : LaneId} {x : SlotId} {old : Lane} {w : Wall} (hk : w.kindAt (lanePage n) x = some .returnEnvelope)
    (he : (w.lanes.get n).envelopeSensor = old.envelopeSensor) :
    w.jamOwner n x old = (w.modPocket n (old.jamReturn w.holdLimitMs)).finish (lanePage n) x .drawerJammed (w.returnFields old.jamResult) := by
  have pocket : (if old.lifts then w.pocketFromSensor n else w.pocketEmpty n) = w.modPocket n (old.jamReturn w.holdLimitMs) := by
    rw [Wall.pocketFromSensor_eq, Wall.pocketEmpty_eq, he]
    cases hl : old.lifts
    · have hf : old.jamReturn w.holdLimitMs = Pocket.emptied := by funext p; simp [Lane.jamReturn, hl]
      rw [hf]
      rfl
    · have hf : old.jamReturn w.holdLimitMs = Pocket.sensed old.envelopeSensor w.holdLimitMs := by funext p; simp [Lane.jamReturn, hl]
      rw [hf]
      rfl
  unfold Lane.lifts at pocket
  simp only [Wall.jamOwner, hk, pocket, Wall.returnFields_modPocket]

/-- The notes of a DISPENSE's bundle that a jam leaves in the drawer (R104). -/
def DispenseContext.jamNotes (c : DispenseContext) : Nat := if c.phase = .inDrawer ∨ c.phase = .retracting then c.inDrawer else 0

/-- An owning DISPENSE finishes with its notes in the drawer unresolved (R104). -/
theorem Wall.jamOwner_dispense {n : LaneId} {x : SlotId} {old : Lane} {w : Wall} {c : DispenseContext} (hk : w.kindAt (lanePage n) x = some .dispense)
    (hc : w.contextOf n = some c) :
    w.jamOwner n x old =
      ((w.dropRequest n .retract).modTally n fun t => { t with unresolved := t.unresolved + c.jamNotes }).finishDispense n true := by
  simp only [Wall.jamOwner, hk, hc, DispenseContext.jamNotes]

/-- A DEPOSIT whose drawer jams ends DRAWER JAMMED, and its result shows the pocket as the jam leaves it (R125). -/
theorem Wall.jamDrawer_deposit {n : LaneId} {w : Wall} {x : SlotId} (ho : (w.lanes.get n).owner = some x) (hw : w.waitsElsewhere n x)
    (hk : w.kindAt (lanePage n) x = some .deposit) :
    w.finishedWith (w.jamDrawer n) (lanePage n) x .drawerJammed
        (depositFields (w.lanes.get n).closeCause (w.lanes.get n).result ((w.lanes.get n).jamDeposit w.holdLimitMs (w.lanes.get n).pocket).state)
      ∧ ((w.jamDrawer n).lanes.get n).pocket = (w.lanes.get n).jamDeposit w.holdLimitMs (w.lanes.get n).pocket := by
  obtain ⟨slot, pocket, -⟩ := Wall.jamDrawer_owned ho
  obtain ⟨kept, entered⟩ := Wall.enterJam_envelope (w.lanes.get n).travel.code hw (by rw [hk]; rfl)
  obtain ⟨kind, port, -, limit, -, -, sensor⟩ := Wall.enterJam_keeps n (w.lanes.get n).travel.code w
  have finished := Wall.finish_pocket ((w.lanes.get n).jamDeposit w.holdLimitMs)
    (depositFields (w.lanes.get n).closeCause (w.lanes.get n).result ((w.lanes.get n).jamDeposit w.holdLimitMs (w.lanes.get n).pocket).state) kept port
  rw [Wall.finishedWith, slot, pocket, Wall.jamOwner_deposit ((kind _ x).trans hk) sensor, limit, entered]
  rwa [entered] at finished

/-- A RETURN whose drawer jams ends DRAWER JAMMED, with the pocket as the jam leaves it (R134). -/
theorem Wall.jamDrawer_return {n : LaneId} {w : Wall} {x : SlotId} (ho : (w.lanes.get n).owner = some x) (hw : w.waitsElsewhere n x)
    (hk : w.kindAt (lanePage n) x = some .returnEnvelope) :
    w.finishedWith (w.jamDrawer n) (lanePage n) x .drawerJammed (w.returnFields (w.lanes.get n).jamResult)
      ∧ ((w.jamDrawer n).lanes.get n).pocket = (w.lanes.get n).jamReturn w.holdLimitMs (w.lanes.get n).pocket := by
  obtain ⟨slot, pocket, -⟩ := Wall.jamDrawer_owned ho
  obtain ⟨kept, entered⟩ := Wall.enterJam_envelope (w.lanes.get n).travel.code hw (by rw [hk]; rfl)
  obtain ⟨kind, port, fields, limit, -, -, sensor⟩ := Wall.enterJam_keeps n (w.lanes.get n).travel.code w
  have finished := Wall.finish_pocket ((w.lanes.get n).jamReturn w.holdLimitMs) (w.returnFields (w.lanes.get n).jamResult) kept port
  rw [Wall.finishedWith, slot, pocket, Wall.jamOwner_return ((kind _ x).trans hk) sensor, limit, fields]
  rwa [entered] at finished

/-- A DISPENSE whose drawer jams ends DRAWER JAMMED with its notes in the drawer unresolved, and its stores are dropped (R104, R105). -/
theorem Wall.jamDrawer_dispense {n : LaneId} {w : Wall} {x : SlotId} {c : DispenseContext} {t : Tally} (ho : (w.lanes.get n).owner = some x)
    (hw : w.waitsElsewhere n x) (hx : w.orderOf n .dispense = some x) (hc : w.contextOf n = some c) (ht : w.tallyOf n = some t)
    (hf : t.faulted = false) :
    w.finishedWith (w.jamDrawer n) (lanePage n) x .drawerJammed
        (tallyWords c { t with unresolved := t.unresolved + c.jamNotes } (w.valueOf t.presented) w.duressAlarm)
      ∧ (w.jamDrawer n).tallyOf n = none
      ∧ ∀ k, ((w.jamDrawer n).cassettes.get k).reserved = (w.cassettes.get k).reserved - c.outstanding.get k := by
  obtain ⟨slot, -, tally, cassettes⟩ := Wall.jamDrawer_owned ho
  have hk := (Wall.orderOf_some hx).2
  obtain ⟨kind, port, -, -, value, decision, -⟩ := Wall.enterJam_keeps n (w.lanes.get n).travel.code w
  obtain ⟨⟨hx', hc', ht'⟩, hstores, hslot⟩ := Wall.enterJam_note (w.lanes.get n).travel.code hw hk
  rw [Wall.finishedWith, slot, tally, cassettes, Wall.jamOwner_dispense ((kind _ x).trans hk) (hc'.trans hc), Wall.finishDispense]
  generalize w.enterJam n (w.lanes.get n).travel.code = u at *
  obtain ⟨state, result, -, -, dropped, reserved, -⟩ := Wall.finishDispenseAt_spec
    (w := (u.dropRequest n .retract).modTally n fun t => { t with unresolved := t.unresolved + c.jamNotes }) u.decision true
    (t := { t with unresolved := t.unresolved + c.jamNotes }) (hx'.trans hx) (hc'.trans hc) (by
      simp only [Wall.tallyOf, Wall.modTally_engine, tabMod_get_same]
      exact congrArg (Option.map _) (ht'.trans ht))
  refine ⟨⟨state, result.trans ?_⟩, dropped, fun k => (reserved k).trans ?_⟩
  · show resultWords _ (u.slot (lanePage n) x).tooLate _ (tallyWords _ _ (u.valueOf _) _) = _
    rw [hslot, value, decision]
    simp only [dispenseOutcome, hf]
    rfl
  · show (u.cassettes.get k).reserved - _ = _
    rw [hstores]

end Sys2Proof.Machine
end

section
/-! The obstructions of a close, and the jams of travels and lifts (R6, R7, R8, R9). -/

namespace Sys2Proof.Machine

/-- A change of a lane is the change it makes of that lane. -/
theorem Wall.modLane_congr {n : LaneId} {f g : Lane → Lane} {w : Wall} (h : f (w.lanes.get n) = g (w.lanes.get n)) :
    w.modLane n f = w.modLane n g := by
  simp only [Wall.modLane, tabMod, h]

/-! ### A jam after a change of the lane's sensors -/

/-- The lane differs in its sensors and its bounce count alone. -/
def Lane.sensesAs (k l : Lane) : Prop :=
  k = { l with bounce := k.bounce, obstructionSensor := k.obstructionSensor, envelopeSensor := k.envelopeSensor, itemSensor := k.itemSensor }

/-- Between two walls a drawer has jammed (R6): it stands without an owner and without a cycle, DRAWER JAMMED is posted, a PATH RESET for it has ended, and so
have the orders that waited for it. -/
structure Wall.Jams (n : LaneId) (w v : Wall) : Prop where
  drawer : (v.lanes.get n).drawer = .jammed
  owner : (v.lanes.get n).owner = none
  cycle : (v.lanes.get n).cycle = .none
  travel : (v.lanes.get n).travel = .none
  timer : (v.lanes.get n).timerMs = 0
  board : ∀ e, e = w.post (.drawerJammed n) (w.lanes.get n).travel.code → v.board = e.board ∧ v.lost = e.lost
  others : ∀ m, m ≠ n → v.lanes.get m = w.lanes.get m
  bins : v.bins = w.bins
  conveyor : v.conveyor = w.conveyor
  reset : ∀ y, w.pathReset (2 + n.val) = some y → w.finishedWith v servicePage y .drawerJammed []
  waiter : ∀ y ∈ (w.lanes.get n).waiting, (w.lanes.get n).waiting.Nodup → (w.lanes.get n).owner ≠ some y → w.jamReady n y → w.jamEnded n y v
  returns : ∀ y ∈ (w.lanes.get n).waiting, w.kindAt (lanePage n) y = some .returnEnvelope →
    (∀ o, (w.lanes.get n).owner = some o → (w.kindAt (lanePage n) o).map Kind.track ≠ some .envelope) →
    (v.lanes.get n).pocket.state = .held ∧ (v.lanes.get n).pocket.owner = none

/-- A drawer jams whatever its sensors and its bounce count have come to show. -/
theorem Wall.jamDrawer_jams {n : LaneId} {f : Lane → Lane} (w : Wall) (hf : ∀ l, (f l).sensesAs l) : w.Jams n ((w.modLane n f).jamDrawer n) := by
  obtain ⟨lane, others⟩ := Wall.jamDrawer_lane n (w.modLane n f)
  obtain ⟨bins, conveyor⟩ := Wall.jamDrawer_frame n (w.modLane n f)
  have hl : (w.modLane n f).lanes.get n = f (w.lanes.get n) := Wall.modLane_get_same ..
  have ht : (f (w.lanes.get n)).travel = (w.lanes.get n).travel := by rw [hf]
  have ho : (f (w.lanes.get n)).owner = (w.lanes.get n).owner := by rw [hf]
  have hw : (f (w.lanes.get n)).waiting = (w.lanes.get n).waiting := by rw [hf]
  refine ⟨by rw [lane]; rfl, by rw [lane], by rw [lane]; rfl, by rw [lane]; rfl, by rw [lane]; rfl, ?_, ?_, bins, conveyor,
    fun y hy => Wall.jamDrawer_reset (w := w.modLane n f) hy, ?_, ?_⟩
  · rintro e rfl
    exact Wall.jamDrawer_board n (v := w) (w := w.modLane n f) rfl rfl rfl _ (by rw [hl, ht])
  · exact fun m hm => (others m hm).trans (Wall.modLane_get_other _ _ hm)
  · exact fun y hy hn hne hr => Wall.jamDrawer_waiter (w := w.modLane n f) (by rwa [hl, hw]) (by rwa [hl, hw]) (by rwa [hl, ho]) hr
  · exact fun y hy hk hne => Wall.jamDrawer_returnWaits (w := w.modLane n f) (by rwa [hl, hw]) hk (by rw [hl, ho]; exact hne)

/-- Nothing else of a jammed drawer's sensors and marks changes in the jam. -/
theorem Wall.jamDrawer_senses {n : LaneId} {f : Lane → Lane} (w : Wall) :
    (((w.modLane n f).jamDrawer n).lanes.get n).bounce = (f (w.lanes.get n)).bounce
      ∧ (((w.modLane n f).jamDrawer n).lanes.get n).envelopeSensor = (f (w.lanes.get n)).envelopeSensor
      ∧ (((w.modLane n f).jamDrawer n).lanes.get n).itemSensor = (f (w.lanes.get n)).itemSensor
      ∧ (((w.modLane n f).jamDrawer n).lanes.get n).leaving = (f (w.lanes.get n)).leaving := by
  rw [(Wall.jamDrawer_lane n (w.modLane n f)).1, Wall.modLane_get_same]
  exact ⟨rfl, rfl, rfl, rfl⟩

section owners
variable {n : LaneId} {f : Lane → Lane} {w : Wall} {x : SlotId}

/-- An owning DEPOSIT, DISPENSE or RETURN in the terms of the wall before the change of the sensors. -/
theorem Wall.waitsElsewhere_modLane (hf : ∀ l, (f l).sensesAs l) (h : w.waitsElsewhere n x) : (w.modLane n f).waitsElsewhere n x := by
  unfold Wall.waitsElsewhere at *
  rw [Wall.modLane_get_same, hf]
  exact h

theorem Wall.jams_deposit (hf : ∀ l, (f l).sensesAs l) (ho : (w.lanes.get n).owner = some x) (hw : w.waitsElsewhere n x)
    (hk : w.kindAt (lanePage n) x = some .deposit) :
    w.finishedWith ((w.modLane n f).jamDrawer n) (lanePage n) x .drawerJammed
        (depositFields (w.lanes.get n).closeCause (w.lanes.get n).result
          ((f (w.lanes.get n)).jamDeposit w.holdLimitMs (w.lanes.get n).pocket).state)
      ∧ (((w.modLane n f).jamDrawer n).lanes.get n).pocket = (f (w.lanes.get n)).jamDeposit w.holdLimitMs (w.lanes.get n).pocket := by
  have hl : (w.modLane n f).lanes.get n = f (w.lanes.get n) := Wall.modLane_get_same ..
  have h := Wall.jamDrawer_deposit (w := w.modLane n f) (x := x) (by rw [hl, hf]; exact ho) (Wall.waitsElsewhere_modLane hf hw) hk
  have hc : (f (w.lanes.get n)).closeCause = (w.lanes.get n).closeCause := by rw [hf]
  have hr : (f (w.lanes.get n)).result = (w.lanes.get n).result := by rw [hf]
  have hp : (f (w.lanes.get n)).pocket = (w.lanes.get n).pocket := by rw [hf]
  rw [hl, hc, hr, hp] at h
  exact h

theorem Wall.jams_return (hf : ∀ l, (f l).sensesAs l) (ho : (w.lanes.get n).owner = some x) (hw : w.waitsElsewhere n x)
    (hk : w.kindAt (lanePage n) x = some .returnEnvelope) :
    w.finishedWith ((w.modLane n f).jamDrawer n) (lanePage n) x .drawerJammed (w.returnFields (w.lanes.get n).jamResult)
      ∧ (((w.modLane n f).jamDrawer n).lanes.get n).pocket = (f (w.lanes.get n)).jamReturn w.holdLimitMs (w.lanes.get n).pocket := by
  have hl : (w.modLane n f).lanes.get n = f (w.lanes.get n) := Wall.modLane_get_same ..
  have h := Wall.jamDrawer_return (w := w.modLane n f) (x := x) (by rw [hl, hf]; exact ho) (Wall.waitsElsewhere_modLane hf hw) hk
  have hr : (f (w.lanes.get n)).jamResult = (w.lanes.get n).jamResult := by unfold Lane.jamResult; rw [hf]
  have hp : (f (w.lanes.get n)).pocket = (w.lanes.get n).pocket := by rw [hf]
  rw [hl, hr, hp] at h
  exact h

theorem Wall.jams_dispense {c : DispenseContext} {t : Tally} (hf : ∀ l, (f l).sensesAs l) (ho : (w.lanes.get n).owner = some x)
    (hw : w.waitsElsewhere n x) (hx : w.orderOf n .dispense = some x) (hc : w.contextOf n = some c) (ht : w.tallyOf n = some t)
    (hfaulted : t.faulted = false) :
    w.finishedWith ((w.modLane n f).jamDrawer n) (lanePage n) x .drawerJammed
        (tallyWords c { t with unresolved := t.unresolved + c.jamNotes } (w.valueOf t.presented) w.duressAlarm)
      ∧ ((w.modLane n f).jamDrawer n).tallyOf n = none
      ∧ ∀ k, (((w.modLane n f).jamDrawer n).cassettes.get k).reserved = (w.cassettes.get k).reserved - c.outstanding.get k := by
  have hl : (w.modLane n f).lanes.get n = f (w.lanes.get n) := Wall.modLane_get_same ..
  exact Wall.jamDrawer_dispense (w := w.modLane n f) (by rw [hl, hf]; exact ho) (Wall.waitsElsewhere_modLane hf hw) hx hc ht hfaulted

/-- Whichever of them it is, the owner ends DRAWER JAMMED. -/
theorem Wall.jams_owner (hf : ∀ l, (f l).sensesAs l) (ho : (w.lanes.get n).owner = some x) (hw : w.waitsElsewhere n x)
    (hk : w.kindAt (lanePage n) x = some .deposit ∨ w.kindAt (lanePage n) x = some .returnEnvelope
      ∨ (w.orderOf n .dispense = some x ∧ w.contextOf n ≠ none ∧ (w.tallyOf n).map Tally.faulted = some false)) :
    ∃ fields, w.finishedWith ((w.modLane n f).jamDrawer n) (lanePage n) x .drawerJammed fields := by
  rcases hk with hk | hk | ⟨hx, hc, ht⟩
  · exact ⟨_, (Wall.jams_deposit hf ho hw hk).1⟩
  · exact ⟨_, (Wall.jams_return hf ho hw hk).1⟩
  · obtain ⟨c, hc⟩ := Option.ne_none_iff_exists'.mp hc
    obtain ⟨t, ht, hfaulted⟩ := Option.map_eq_some_iff.mp ht
    exact ⟨_, (Wall.jams_dispense hf ho hw hx hc ht hfaulted).1⟩

end owners

/-! ### Obstructions -/

/-- The obstruction sensor has shown an obstruction that counts (R7, R8). -/
def Lane.struck (l : Lane) : Lane := { l with obstructionSensor := true, bounce := satAdd 4 l.bounce 1 }

/-- An obstruction of a driven close, by the bounce count and the owner (R7, R8). -/
theorem Wall.obstruction_driven {n : LaneId} {w : Wall} (hd : (w.lanes.get n).drawer = .closing) (hv : w.drawerDriven n = true) :
    w.obstruction n =
      if 4 ≤ (w.lanes.get n).struck.bounce then (w.modLane n Lane.struck).jamDrawer n
      else if (w.lanes.get n).owner ≠ none then
        ((w.modLane n Lane.struck).modLane n fun l => { l with shortTimer := true, obstructionSensor := false }).startOpen n
      else (w.modLane n Lane.struck).modLane n fun l => { l with obstructed := true } := by
  unfold Wall.obstruction
  dsimp only
  rw [if_pos ⟨hd, hv⟩]
  unfold Wall.obstruct
  dsimp only
  have struck : (w.modLane n fun l => { l with obstructionSensor := true }).modLane n (fun l => { l with bounce := satAdd 4 l.bounce 1 })
      = w.modLane n Lane.struck := Wall.modLane_modLane n _ _ w
  rw [struck, Wall.modLane_get_same]
  rfl

theorem Wall.held_of_driven {w : Wall} {n : LaneId} (h : w.drawerDriven n = true) : w.held = false := by
  simp only [Wall.drawerDriven, Bool.and_eq_true, Bool.not_eq_true'] at h
  exact h.1

/-- Settles O39: the guard and the bounce count choose between the sensor alone, the reversal, the stop and the jam, of which the laws of the jam say the rest. -/
theorem obstructions : Obligations.Obstructions := by
  unfold Obligations.Obstructions
  intro s n hs
  refine ⟨State.onWall_next (Wall.obstructionEnds n) hs, fun h => ?sensor, fun hd hv => ⟨fun ho hb => ?reverse, fun ho hb => ?stop, fun hb => ?jam⟩⟩
  case sensor =>
    refine State.onWall_evaluated (f := Wall.obstruction n) hs (if_neg ?_)
    rintro ⟨hd, hv⟩
    simp [hd, hv] at h
  case reverse =>
    have count : satAdd 4 (s.wall.lanes.get n).bounce 1 = (s.wall.lanes.get n).bounce + 1 := by unfold satAdd; omega
    have hn : ¬4 ≤ (s.wall.lanes.get n).struck.bounce := by simp only [Lane.struck, count]; omega
    refine State.onWall_evaluated (f := Wall.obstruction n) hs ?_
    have hh : ((s.wall.modLane n Lane.struck).modLane n fun l => { l with shortTimer := true, obstructionSensor := false }).held = false :=
      (Wall.held_of_driven hv : s.wall.held = false)
    rw [Wall.obstruction_driven hd hv, if_neg hn, if_pos ho, Wall.startOpen, hh, Wall.modLane_modLane, Wall.modLane_modLane]
    refine Wall.modLane_congr ?_
    simp only [Lane.struck, count, Bool.and_false]
  case stop =>
    have count : satAdd 4 (s.wall.lanes.get n).bounce 1 = (s.wall.lanes.get n).bounce + 1 := by unfold satAdd; omega
    have hn : ¬4 ≤ (s.wall.lanes.get n).struck.bounce := by simp only [Lane.struck, count]; omega
    refine State.onWall_evaluated (f := Wall.obstruction n) hs ?_
    rw [Wall.obstruction_driven hd hv, if_neg hn, if_neg (not_not.mpr ho), Wall.modLane_modLane]
    refine Wall.modLane_congr ?_
    simp only [Lane.struck, count]
  case jam =>
    have hn : 4 ≤ (s.wall.lanes.get n).struck.bounce := by simp only [Lane.struck, satAdd]; omega
    have he : s.wall.obstruction n = (s.wall.modLane n Lane.struck).jamDrawer n := by rw [Wall.obstruction_driven hd hv, if_pos hn]
    have hf : ∀ l, (Lane.struck l).sensesAs l := fun _ => rfl
    have jams := Wall.jamDrawer_jams (n := n) s.wall hf
    obtain ⟨bounce, -⟩ := Wall.jamDrawer_senses (n := n) (f := Lane.struck) s.wall
    have inward : (s.wall.lanes.get n).travel = .inward → (s.wall.lanes.get n).lifts = false := fun h => Lane.lifts_of_travel (.inr h)
    refine ⟨_, rfl, State.onWall_evaluated (f := Wall.obstruction n) hs rfl, ?_⟩
    dsimp only
    rw [he]
    refine ⟨jams.drawer, jams.owner, ?_, jams.travel, jams.cycle, jams.timer, jams.board, fun h => by rw [h]; rfl, jams.others, ?_, jams.reset, ?_,
      ?_, ?_, ?_, ?_⟩
    · rw [bounce]
      simp only [Lane.struck, satAdd]
      omega
    · intro ho hw hr
      rw [Wall.jamDrawer_idle (w := s.wall.modLane n Lane.struck) (by rw [Wall.modLane_get_same]; exact ho) (by rw [Wall.modLane_get_same]; exact hw) hr, Wall.jamStart_frame]
      rfl
    · intro y hy hn ho hr
      obtain ⟨state, waits, result⟩ := jams.waiter y hy hn ho hr
      exact ⟨state, waits, result⟩
    · intro x ho hw hk
      obtain ⟨fields, state, result⟩ := Wall.jams_owner hf ho hw (hk.imp id (Or.imp id fun ⟨hx, hc, ht, _⟩ => ⟨hx, hc, ht⟩))
      exact ⟨state, by rw [result, resultWords_take]⟩
    · intro x c ty ho hw hx hc ht hfaulted _
      obtain ⟨⟨-, result⟩, tally, reserved⟩ := Wall.jams_dispense hf ho hw hx hc ht hfaulted
      exact ⟨tally, reserved, result⟩
    · intro x ho hw hk ht
      obtain ⟨⟨-, result⟩, -⟩ := Wall.jams_deposit hf ho hw hk
      rw [result]
      have : (Lane.struck (s.wall.lanes.get n)).lifts = false := inward ht
      simp [Lane.jamDeposit, this]
    · intro x ho hw hk ht
      obtain ⟨⟨-, result⟩, pocket⟩ := Wall.jams_return hf ho hw hk
      have : (Lane.struck (s.wall.lanes.get n)).lifts = false := inward ht
      rw [result, pocket]
      simp [Lane.jamReturn, this, Pocket.emptied, Lane.jamResult, ht]

/-! ### Travels and lifts that overrun their budgets -/

/-- The sensors that a lift's overrun reports (R9, R125). -/
def Lane.sensed (envelope item : Bool) (l : Lane) : Lane := { l with envelopeSensor := envelope, itemSensor := item }

theorem Wall.travelOverrun_driven {n : LaneId} {w : Wall} (h : w.drawerDriven n = true) : w.travelOverrun n = (w.modLane n id).jamDrawer n := by
  have same : w.modLane n id = w := by
    have : tabMod w.lanes n id = w.lanes := tabMod_same _ _ _ rfl
    rw [Wall.modLane, this]
  rw [same]
  exact if_pos h

theorem Wall.liftOverrun_lifting {n : LaneId} {w : Wall} (envelope item : Bool) (hd : (w.lanes.get n).drawer = .lifting) (hh : w.held = false)
    (hf : (w.lanes.get n).forced = false) :
    w.liftOverrun n envelope item = (w.modLane n (Lane.sensed envelope item)).jamDrawer n := if_pos ⟨hd, hh, hf⟩

/-- What a pocket's envelope sensor shows it to be after a jam (R125). -/
theorem Pocket.sensed_state (envelope : Bool) (ms : Nat) (p : Pocket) :
    (p.sensed envelope ms).state = (if envelope then .held else .empty) ∧ (p.sensed envelope ms).owner = none
      ∧ (p.sensed envelope ms).abandoned = false
      ∧ (envelope = true → (p.sensed envelope ms).holdMs = ms ∧ (p.sensed envelope ms).timerRunning = true) := by
  cases envelope <;> simp [Pocket.sensed, Pocket.held, Pocket.emptied]

/-- Settles O41: each clause is a fact of the jam with the sensors as they stood, or as the lift's overrun reports them. -/
theorem drawerJams : Obligations.DrawerJams := by
  unfold Obligations.DrawerJams
  intro s n hs
  have hid : ∀ l, (id l : Lane).sensesAs l := fun _ => rfl
  have hsensed : ∀ envelope item l, (Lane.sensed envelope item l).sensesAs l := fun _ _ _ => rfl
  refine ⟨fun hv ho hw hr => ?alone, fun hv => ?travel, fun hv => ?still, fun envelope item h => ?standing, fun envelope item hd hh hf => ?lift,
    fun x hv ho hw hk ht => ?deposit, fun x c ty hv ho hw hx hc ht hfaulted hl => ?dispense, fun x hv ho hw hk ht => ?returned,
    fun x envelope item hd ht hh hf ho hw hk => ?liftDeposit, fun x envelope item hd ht hh hf ho hw hk => ?liftReturn,
    fun x envelope item hd ht hh hf ho hw hk => ?liftDrawer⟩
  case alone =>
    refine State.onWall_evaluated (f := Wall.travelOverrun n) hs ?_
    refine (if_pos hv : s.wall.travelOverrun n = s.wall.jamDrawer n).trans ?_
    exact Wall.jamDrawer_idle ho hw hr
  case still => exact State.onWall_evaluated (f := Wall.travelOverrun n) hs (by simp [Wall.travelOverrun, hv])
  case standing =>
    refine State.onWall_evaluated (f := Wall.liftOverrun n envelope item) hs (if_neg ?_)
    rintro ⟨hd, hh, hf⟩
    simp [hd, hh, hf] at h
  case travel =>
    have jams := Wall.jamDrawer_jams (n := n) s.wall hid
    refine ⟨_, rfl, State.onWall_evaluated (f := Wall.travelOverrun n) hs rfl, ?_⟩
    dsimp only
    rw [Wall.travelOverrun_driven hv]
    exact ⟨jams.drawer, jams.owner, jams.cycle, jams.travel, jams.timer, jams.board, jams.reset, jams.others,
      fun y hy hn ho => ⟨jams.waiter y hy hn ho, jams.returns y hy⟩⟩
  case lift =>
    have jams := Wall.jamDrawer_jams (n := n) s.wall (hsensed envelope item)
    obtain ⟨-, envelopeSensor, itemSensor, -⟩ := Wall.jamDrawer_senses (n := n) (f := Lane.sensed envelope item) s.wall
    refine ⟨_, rfl, State.onWall_evaluated (f := Wall.liftOverrun n envelope item) hs rfl, ?_⟩
    dsimp only
    rw [Wall.liftOverrun_lifting envelope item hd hh hf]
    exact ⟨jams.drawer, jams.owner, jams.cycle, jams.travel, jams.timer, envelopeSensor, itemSensor, jams.board, jams.reset, jams.others,
      fun y hy hn ho => ⟨jams.waiter y hy hn ho, jams.returns y hy⟩⟩
  case deposit =>
    have jams := Wall.jamDrawer_jams (n := n) s.wall hid
    obtain ⟨⟨state, result⟩, pocket⟩ := Wall.jams_deposit hid ho hw hk
    have stands : (id (s.wall.lanes.get n)).jamDeposit s.wall.holdLimitMs (s.wall.lanes.get n).pocket = (s.wall.lanes.get n).pocket := by
      simp [Lane.jamDeposit, Lane.lifts_of_travel ht]
    rw [stands] at result pocket
    refine ⟨_, rfl, State.onWall_evaluated (f := Wall.travelOverrun n) hs rfl, ?_⟩
    dsimp only
    rw [Wall.travelOverrun_driven hv]
    exact ⟨jams.drawer, jams.owner, jams.cycle, pocket, state, result, jams.others⟩
  case dispense =>
    have jams := Wall.jamDrawer_jams (n := n) s.wall hid
    obtain ⟨⟨state, result⟩, tally, reserved⟩ := Wall.jams_dispense hid ho hw hx hc ht hfaulted
    refine ⟨_, rfl, State.onWall_evaluated (f := Wall.travelOverrun n) hs rfl, ?_⟩
    dsimp only
    rw [Wall.travelOverrun_driven hv]
    exact ⟨jams.drawer, jams.owner, jams.cycle, tally, jams.bins, reserved, state, result, jams.others⟩
  case returned =>
    have jams := Wall.jamDrawer_jams (n := n) s.wall hid
    obtain ⟨⟨state, result⟩, pocket⟩ := Wall.jams_return hid ho hw hk
    have empties : (id (s.wall.lanes.get n)).jamReturn s.wall.holdLimitMs (s.wall.lanes.get n).pocket = (s.wall.lanes.get n).pocket.emptied := by
      simp [Lane.jamReturn, Lane.lifts_of_travel ht]
    have cycle : (s.wall.lanes.get n).jamResult = (s.wall.lanes.get n).result := by
      rcases ht with ht | ht <;> simp [Lane.jamResult, ht]
    rw [empties] at pocket
    rw [cycle] at result
    refine ⟨_, rfl, State.onWall_evaluated (f := Wall.travelOverrun n) hs rfl, ?_⟩
    dsimp only
    rw [Wall.travelOverrun_driven hv]
    exact ⟨jams.drawer, jams.owner, jams.cycle, by rw [pocket]; rfl, by rw [pocket]; rfl, state, result, jams.others⟩
  case liftDeposit =>
    have jams := Wall.jamDrawer_jams (n := n) s.wall (hsensed envelope item)
    obtain ⟨-, -, itemSensor, -⟩ := Wall.jamDrawer_senses (n := n) (f := Lane.sensed envelope item) s.wall
    obtain ⟨⟨state, result⟩, pocket⟩ := Wall.jams_deposit (hsensed envelope item) ho hw hk
    obtain ⟨shown, -⟩ := Pocket.sensed_state envelope s.wall.holdLimitMs (s.wall.lanes.get n).pocket
    have shows : (Lane.sensed envelope item (s.wall.lanes.get n)).jamDeposit s.wall.holdLimitMs (s.wall.lanes.get n).pocket
        = (s.wall.lanes.get n).pocket.sensed envelope s.wall.holdLimitMs := if_pos (Lane.lifts_of_lift (.inl ht))
    rw [shows] at result pocket
    rw [shown] at result
    refine ⟨_, rfl, State.onWall_evaluated (f := Wall.liftOverrun n envelope item) hs rfl, ?_⟩
    dsimp only
    rw [Wall.liftOverrun_lifting envelope item hd hh hf]
    exact ⟨jams.drawer, jams.owner, by rw [pocket, shown], itemSensor, fun e h => jams.board e (by rw [h, ht]), state, result, jams.others⟩
  case liftReturn =>
    have jams := Wall.jamDrawer_jams (n := n) s.wall (hsensed envelope item)
    obtain ⟨-, -, itemSensor, -⟩ := Wall.jamDrawer_senses (n := n) (f := Lane.sensed envelope item) s.wall
    obtain ⟨⟨state, result⟩, pocket⟩ := Wall.jams_return (hsensed envelope item) ho hw hk
    obtain ⟨shown, nobody, kept, timer⟩ := Pocket.sensed_state envelope s.wall.holdLimitMs (s.wall.lanes.get n).pocket
    have shows : (Lane.sensed envelope item (s.wall.lanes.get n)).jamReturn s.wall.holdLimitMs (s.wall.lanes.get n).pocket
        = (s.wall.lanes.get n).pocket.sensed envelope s.wall.holdLimitMs := if_pos (Lane.lifts_of_lift (.inl ht))
    have cycle : (s.wall.lanes.get n).jamResult = (s.wall.lanes.get n).result := by simp [Lane.jamResult, ht]
    rw [shows] at pocket
    rw [cycle] at result
    refine ⟨_, rfl, State.onWall_evaluated (f := Wall.liftOverrun n envelope item) hs rfl, ?_⟩
    dsimp only
    rw [Wall.liftOverrun_lifting envelope item hd hh hf]
    exact ⟨jams.drawer, jams.owner, by rw [pocket, shown], by rw [pocket, nobody], by rw [pocket, kept],
      fun he => by rw [pocket]; exact timer he, itemSensor, jams.conveyor, state, result, fun e h => jams.board e (by rw [h, ht]), jams.others⟩
  case liftDrawer =>
    have jams := Wall.jamDrawer_jams (n := n) s.wall (hsensed envelope item)
    obtain ⟨-, -, itemSensor, -⟩ := Wall.jamDrawer_senses (n := n) (f := Lane.sensed envelope item) s.wall
    obtain ⟨⟨state, result⟩, pocket⟩ := Wall.jams_return (hsensed envelope item) ho hw hk
    obtain ⟨shown, -⟩ := Pocket.sensed_state envelope s.wall.holdLimitMs (s.wall.lanes.get n).pocket
    have shows : (Lane.sensed envelope item (s.wall.lanes.get n)).jamReturn s.wall.holdLimitMs (s.wall.lanes.get n).pocket
        = (s.wall.lanes.get n).pocket.sensed envelope s.wall.holdLimitMs := if_pos (Lane.lifts_of_lift (.inr ht))
    have cycle : (s.wall.lanes.get n).jamResult = .none := by simp [Lane.jamResult, ht]
    rw [shows] at pocket
    rw [cycle] at result
    refine ⟨_, rfl, State.onWall_evaluated (f := Wall.liftOverrun n envelope item) hs rfl, ?_⟩
    dsimp only
    rw [Wall.liftOverrun_lifting envelope item hd hh hf]
    exact ⟨jams.drawer, jams.owner, by rw [pocket, shown], itemSensor, fun e h => jams.board e (by rw [h, ht]), state, result, jams.others⟩

end Sys2Proof.Machine
end

section
/-! The lifts that complete (R9, R16, R18, R124, R134, R135). -/

namespace Sys2Proof.Machine

@[simp] theorem Wall.modLane_kindAt (n : LaneId) (f : Lane → Lane) (w : Wall) (p : PageId) (x : SlotId) :
    (w.modLane n f).kindAt p x = w.kindAt p x := rfl

/-- The drawer after a LIFT TO POCKET (R9). -/
def Lane.pocketed (l : Lane) : Lane :=
  { l with itemSensor := false, envelopeSensor := true, drawer := .stowed, travel := .none, budgetMs := 0, ownerClose := none }

/-- The drawer after a LIFT TO DRAWER (R9). -/
def Lane.lifted (l : Lane) : Lane :=
  { l with itemSensor := true, envelopeSensor := false, drawer := .holding, travel := .none, budgetMs := 0 }

theorem Wall.liftEnds_toPocket {n : LaneId} {w : Wall} (hd : (w.lanes.get n).drawer = .lifting) (hf : (w.lanes.get n).forced = false)
    (ht : (w.lanes.get n).travel = .liftToPocket) : w.liftEnds n = w.liftedToPocket n := by
  simp only [Wall.liftEnds, hd, hf, ht, and_self, if_true]

theorem Wall.liftEnds_toDrawer {n : LaneId} {w : Wall} (hd : (w.lanes.get n).drawer = .lifting) (hf : (w.lanes.get n).forced = false)
    (ht : (w.lanes.get n).travel = .liftToDrawer) : w.liftEnds n = w.liftedToDrawer n := by
  simp only [Wall.liftEnds, hd, hf, ht, and_self, if_true]

/-- A DEPOSIT's envelope is HELD, and its order ends IN ESCROW (R124). -/
theorem Wall.liftedToPocket_deposit {n : LaneId} {w : Wall} {x : SlotId} (ho : (w.lanes.get n).owner = some x)
    (hk : w.kindAt (lanePage n) x = some .deposit) :
    w.liftedToPocket n = ((w.modLane n Lane.pocketed).pocketHeld n).finish (lanePage n) x .inEscrow
      (depositFields (w.lanes.get n).closeCause (w.lanes.get n).result .held) := by
  simp only [Wall.liftedToPocket, ho, hk]
  rfl

/-- A RETURN's untaken envelope waits for its capture, and the drawer is released (R135). -/
theorem Wall.liftedToPocket_return {n : LaneId} {w : Wall} {x : SlotId} (ho : (w.lanes.get n).owner = some x)
    (hk : w.kindAt (lanePage n) x = some .returnEnvelope) :
    w.liftedToPocket n = ((((w.modLane n Lane.pocketed).pocketMove n .captureWait (some x)).modPocket n fun p =>
      { p with abandoned := true }).joinQueue n).leaveDrawer n x := by
  simp only [Wall.liftedToPocket, ho, hk]
  rfl

/-- A RETURN's take cycle starts as the lift to the drawer completes (R134). -/
theorem Wall.liftedToDrawer_take {n : LaneId} {w : Wall} (hc : (w.lanes.get n).ownerClose = none) :
    w.liftedToDrawer n = (w.modLane n Lane.lifted).startTake n := by
  simp only [Wall.liftedToDrawer, hc]
  rfl

/-- A close asked for in the lift takes effect as the lift completes (R16). -/
theorem Wall.liftedToDrawer_close {n : LaneId} {w : Wall} {cause : CloseCause} (hc : (w.lanes.get n).ownerClose = some cause) :
    w.liftedToDrawer n = ((w.modLane n Lane.lifted).startTake n).closeByOwner n cause := by
  simp only [Wall.liftedToDrawer, hc]
  rfl

/-- An owner's close of an OPENING drawer (R16). -/
theorem Wall.closeByOwner_opening {n : LaneId} {w : Wall} (cause : CloseCause) (h : (w.lanes.get n).drawer = .opening) :
    w.closeByOwner n cause = (w.startClose n cause).modLane n fun l => { l with ownerClose := some cause } := by
  simp only [Wall.closeByOwner, h]

/-- An owner's close in LIFTING is remembered (R16). -/
theorem Wall.closeByOwner_lifting {n : LaneId} {w : Wall} (cause : CloseCause) (h : (w.lanes.get n).drawer = .lifting) :
    w.closeByOwner n cause = w.modLane n fun l => { l with ownerClose := some cause } := by
  simp only [Wall.closeByOwner, h]

/-- Without lockdown a take cycle starts with a travel out (R14). -/
theorem Wall.startTake_open {n : LaneId} {w : Wall} (hl : w.lockdown = false) :
    w.startTake n = (w.modLane n fun l =>
      { l with cycle := .take, result := .none, late := false, shortTimer := false, ownerClose := none }).startOpen n := by
  simp only [Wall.startTake, hl, Bool.false_eq_true, if_false]

/-- Under lockdown a RETURN's take cycle ends at once with the envelope left, and lifts it back (R18, R135). -/
theorem Wall.startTake_locked {n : LaneId} {w : Wall} {x : SlotId} (hl : w.lockdown = true) (ho : (w.lanes.get n).owner = some x)
    (hk : w.kindAt (lanePage n) x = some .returnEnvelope) :
    w.startTake n = w.modLane n fun l =>
      { l with late := false, shortTimer := false, ownerClose := none, drawer := .lifting, cycle := .none, result := .left,
               travel := .liftToPocket, budgetMs := 3000 } := by
  simp only [Wall.startTake, hl, if_true, Wall.cycleEnd, Wall.modLane_get_same, ho, Wall.modLane_kindAt, hk, Wall.returnCycleEnd, Wall.startLift, Wall.modLane_modLane]

/-- Settles O42: the lift's direction, the order's kind and lockdown choose what the completed lift does. -/
theorem liftsComplete : Obligations.LiftsComplete := by
  unfold Obligations.LiftsComplete
  intro s n x hs hd ho
  refine ⟨fun hf => ?forced, fun hf ht hk => ?deposit, fun hf ht hk => ?untaken, fun hf ht hl => ?drawer, fun hf ht hl hk => ?locked⟩
  case forced => exact State.onWall_evaluated (f := Wall.liftEnds n) hs (if_neg fun h => by simp [hf] at h)
  case deposit =>
    refine ⟨_, rfl, State.onWall_evaluated (f := Wall.liftEnds n) hs rfl, ?_⟩
    dsimp only
    rw [Wall.liftEnds_toPocket hd hf ht, Wall.liftedToPocket_deposit ho hk]
    have lane : ∀ fields, ((((s.wall.modLane n Lane.pocketed).pocketHeld n).finish (lanePage n) x .inEscrow fields).lanes.get n) =
        ({ (s.wall.lanes.get n).pocketed with pocket := (s.wall.lanes.get n).pocket.held s.wall.holdLimitMs } : Lane).leave x := fun fields => by
      rw [Wall.finish, Wall.finishAt_lanes, tabMod_get_same, Wall.pocketHeld, Wall.modPocket, Wall.modLane_get_same, Wall.modLane_get_same]
      rfl
    refine ⟨by rw [lane]; rfl, ?_, by rw [lane]; rfl, by rw [lane]; rfl, by rw [lane]; rfl, by rw [lane]; rfl, by rw [lane]; rfl, ?_, ?_, ?_,
      fun m hm => ?_⟩
    · rw [lane]
      exact if_pos ho
    · rw [Wall.finish_slot]
    · rw [Wall.finish_slot]
      rfl
    · rw [Wall.finish_frame]
      rfl
    · rw [Wall.finish, Wall.finishAt_lanes, tabMod_get_other _ _ hm]
      exact (Wall.modLane_get_other _ _ hm).trans (Wall.modLane_get_other _ _ hm)
  case untaken =>
    refine ⟨_, rfl, State.onWall_evaluated (f := Wall.liftEnds n) hs rfl, ?_⟩
    dsimp only
    rw [Wall.liftEnds_toPocket hd hf ht, Wall.liftedToPocket_return ho hk]
    have lanes : ((((((s.wall.modLane n Lane.pocketed).pocketMove n .captureWait (some x)).modPocket n fun p =>
        { p with abandoned := true }).joinQueue n).leaveDrawer n x).lanes) = tabMod s.wall.lanes n fun l =>
        Lane.leave x { l.pocketed with pocket :=
          { l.pocket with state := .captureWait, owner := some x, holdMs := 0, timerRunning := false, stranded := false, abandoned := true } } := by
      simp only [Wall.leaveDrawer, Wall.joinQueue, Wall.modPocket, Wall.pocketMove, Wall.modConveyor_lanes, Wall.modLane_lanes, tabMod_tabMod]
      rfl
    rw [lanes, tabMod_get_same]
    exact ⟨rfl, if_pos ho, rfl, rfl, rfl, rfl, rfl, fun m hm => tabMod_get_other _ _ hm⟩
  case drawer =>
    refine ⟨_, rfl, State.onWall_evaluated (f := Wall.liftEnds n) hs rfl, ?_⟩
    dsimp only
    rw [Wall.liftEnds_toDrawer hd hf ht]
    rcases hc : (s.wall.lanes.get n).ownerClose with _ | cause
    · rw [Wall.liftedToDrawer_take hc, Wall.startTake_open (w := s.wall.modLane n Lane.lifted) hl, Wall.startOpen_lane, Wall.modLane_get_same,
        Wall.modLane_get_same]
      refine ⟨fun _ => ⟨rfl, rfl, rfl⟩, nofun, rfl, rfl, rfl, rfl, rfl, ho, rfl, fun m hm => ?_⟩
      rw [(Wall.startOpen_frame n _).1 m hm, Wall.modLane_get_other _ _ hm, Wall.modLane_get_other _ _ hm]
    · rw [Wall.liftedToDrawer_close hc, Wall.startTake_open (w := s.wall.modLane n Lane.lifted) hl,
        Wall.closeByOwner_opening _ (by rw [Wall.startOpen_lane]), Wall.modLane_get_same, Wall.startClose_lane, Wall.startOpen_lane,
        Wall.modLane_get_same, Wall.modLane_get_same]
      refine ⟨nofun, fun c e => ?_, rfl, rfl, rfl, rfl, rfl, ho, rfl, fun m hm => ?_⟩
      · obtain rfl := Option.some.inj e
        exact ⟨rfl, rfl, rfl, rfl⟩
      · rw [Wall.modLane_get_other _ _ hm, (Wall.startClose_frame n _ _).1 m hm, (Wall.startOpen_frame n _).1 m hm,
          Wall.modLane_get_other _ _ hm, Wall.modLane_get_other _ _ hm]
  case locked =>
    refine ⟨_, rfl, State.onWall_evaluated (f := Wall.liftEnds n) hs rfl, ?_⟩
    dsimp only
    rw [Wall.liftEnds_toDrawer hd hf ht]
    have back := Wall.startTake_locked (w := s.wall.modLane n Lane.lifted) (x := x) hl (by rw [Wall.modLane_get_same]; exact ho) hk
    rcases hc : (s.wall.lanes.get n).ownerClose with _ | cause
    · rw [Wall.liftedToDrawer_take hc, back, Wall.modLane_get_same, Wall.modLane_get_same]
      refine ⟨rfl, rfl, rfl, rfl, rfl, rfl, rfl, ho, rfl, rfl, rfl, fun m hm => ?_⟩
      rw [Wall.modLane_get_other _ _ hm, Wall.modLane_get_other _ _ hm]
    · rw [Wall.liftedToDrawer_close hc, back, Wall.closeByOwner_lifting _ (by rw [Wall.modLane_get_same]), Wall.modLane_get_same,
        Wall.modLane_get_same, Wall.modLane_get_same]
      refine ⟨rfl, rfl, rfl, rfl, rfl, rfl, rfl, ho, rfl, rfl, rfl, fun m hm => ?_⟩
      rw [Wall.modLane_get_other _ _ hm, Wall.modLane_get_other _ _ hm, Wall.modLane_get_other _ _ hm]

end Sys2Proof.Machine
end

section
/-! SUPPORT. What the entry of lockdown and the reaction of a zone leave of the drawers' sensors and of the points (R10, R18, R141, R154). -/

namespace Sys2Proof.Machine

/-- The forced mark and the levels of a drawer that only its own reports change. -/
def Lane.senses (l : Lane) : Bool × Bool × Bool × Bool × Bool := (l.forced, l.stowedSensor, l.leaving, l.itemSensor, l.envelopeSensor)

/-- Between two walls no drawer's forced mark or level has changed. -/
def Wall.SensesKept (w v : Wall) : Prop := ∀ m, (v.lanes.get m).senses = (w.lanes.get m).senses

namespace Wall.SensesKept
variable {u v w : Wall}

theorem of_lanes (h : v.lanes = w.lanes) : w.SensesKept v := fun m => by rw [h]

theorem refl (w : Wall) : w.SensesKept w := fun _ => rfl

theorem trans (h : u.SensesKept v) (h' : v.SensesKept w) : u.SensesKept w := fun m => (h' m).trans (h m)

theorem modLane (n : LaneId) {f : Lane → Lane} (w : Wall) (hf : ∀ l, (f l).senses = l.senses) : w.SensesKept (w.modLane n f) := fun m => by
  rw [Wall.modLane_lanes, tabMod_get]
  split
  · exact hf _
  · rfl

theorem of_ends {n : LaneId} (h : w.EndsInLane n v) : w.SensesKept v := fun m => by
  by_cases hm : m = n
  · subst hm
    rw [h.lane]
    rfl
  · rw [h.otherLane m hm]

end Wall.SensesKept

/-! ### Grants and ends (R89, R94) -/

theorem Wall.grantRetract_senses (n : LaneId) (d : Destination) (w : Wall) : w.SensesKept (w.grantRetract n d) :=
  .trans (.of_lanes rfl) (.modLane n _ fun _ => rfl)

theorem Wall.grantBundle_lanes (n : LaneId) (w : Wall) : (w.grantBundle n).lanes = w.lanes := by
  unfold Wall.grantBundle
  dsimp only
  split
  · rfl
  split
  · rfl
  split <;> rfl

theorem Wall.post_lanes (k : News) (d : Nat) (w : Wall) : (w.post k d).lanes = w.lanes := by rw [Wall.post_frame]

theorem Wall.tryRetracts_senses (q : List Request) (w : Wall) : w.SensesKept (Wall.tryRetracts q w).1 := by
  induction q generalizing w with
  | nil => exact .refl w
  | cons r t ih =>
    unfold Wall.tryRetracts
    split
    · exact ih w
    · split
      · exact (Wall.grantRetract_senses _ _ _).trans (.of_lanes (Wall.post_lanes ..))
      · exact Wall.grantRetract_senses _ _ _
      · refine .trans (Wall.SensesKept.modLane r.lane w ?_) (.trans (.of_lanes (Wall.post_lanes ..)) (ih _))
        exact fun _ => rfl

theorem Wall.transportGrant_senses (w : Wall) : w.SensesKept w.transportGrant := by
  unfold Wall.transportGrant
  split
  · have h := Wall.tryRetracts_senses w.transport.queue w
    dsimp only
    split
    · exact h
    · split
      · exact h.trans (.of_lanes (Wall.grantBundle_lanes _ _))
      · exact h
  · exact .refl w

theorem Wall.writeBack_lanes (w : Wall) : w.writeBack.lanes = w.lanes := by
  unfold Wall.writeBack
  split <;> rfl

theorem Wall.checkEnding_senses (w : Wall) : w.SensesKept w.checkEnding := by
  have endEmpty : ∀ n, w.SensesKept (w.endEmpty n) := fun n =>
    .trans (v := w.endTenure) (.of_lanes (Wall.writeBack_lanes w)) (.of_ends (Wall.finishDispenseAt_ends _ n false _))
  unfold Wall.checkEnding
  split
  · split
    · split
      · exact (endEmpty _).trans (Wall.transportGrant_senses _)
      · exact .refl w
    · exact .refl w
  · exact .refl w

theorem Wall.beginEnd_senses (n : LaneId) (cause : EndCause) (w : Wall) : w.SensesKept (w.beginEnd n cause) := by
  have h : w.SensesKept ((w.modContext n fun x => { x with endCause := cause }).modTally n fun t => { t with remixWait := false }) :=
    .trans (.of_ends (Wall.modContext_moves n _ w).ends) (.of_lanes rfl)
  unfold Wall.beginEnd
  dsimp only
  split
  · split
    · refine .trans (v := _) ?_ (Wall.checkEnding_senses _)
      exact h
    · exact h
  · exact h

/-! ### Lockdown (R154, R18, R102, R127) -/

theorem Wall.finishDispense_senses (n : LaneId) (jammed : Bool) (w : Wall) : w.SensesKept (w.finishDispense n jammed) :=
  .of_ends (Wall.finishDispenseAt_ends _ n jammed w)

theorem Wall.lockdownDispense_senses (n : LaneId) (w : Wall) : w.SensesKept (w.lockdownDispense n) := by
  have h := Wall.beginEnd_senses n .lockdown w
  unfold Wall.lockdownDispense
  split
  · exact .refl w
  split
  · exact .refl w
  split
  · exact h.trans (Wall.finishDispense_senses n false _)
  · refine .trans ?_ (Wall.finishDispense_senses n false _)
    exact h
  · exact h
  · exact h
  · exact h
  · exact h
  · exact .refl w

theorem Wall.lockdownDeposit_senses (n : LaneId) (w : Wall) : w.SensesKept (w.lockdownDeposit n) := by
  unfold Wall.lockdownDeposit
  split
  · exact .refl w
  · dsimp only
    split
    · exact .of_lanes rfl
    · exact .of_ends (Wall.finishAt_ends _ n _ _ _ w)

theorem Wall.closeByLockdown_senses (n : LaneId) (w : Wall) : w.SensesKept (w.closeByLockdown n) := by
  have close : ∀ cause, w.SensesKept (w.startClose n cause) := fun _ => .modLane n w fun _ => rfl
  rcases Wall.closeByLockdown_cases n w with ⟨-, -, e⟩ | ⟨-, e⟩ | e <;> rw [e]
  · rcases Wall.closeByOwner_cases n .lockdown w with ⟨-, e⟩ | ⟨-, e⟩ | ⟨-, e⟩ <;> rw [e]
    · exact (close _).trans (.modLane n _ fun _ => rfl)
    · exact .modLane n w fun _ => rfl
    · exact .refl w
  · exact close _
  · exact .refl w

theorem Wall.lockdownLane_senses (n : LaneId) (w : Wall) : w.SensesKept (w.lockdownLane n) := by
  refine .trans (.modLane n w ?_)
    ((Wall.lockdownDispense_senses n _).trans ((Wall.lockdownDeposit_senses n _).trans (Wall.closeByLockdown_senses n _)))
  exact fun _ => rfl

theorem Wall.foldl_senses {f : LaneId → Wall → Wall} (hf : ∀ n (w : Wall), w.SensesKept (f n w)) (l : List LaneId) (w : Wall) :
    w.SensesKept (l.foldl (fun v n => f n v) w) := by
  induction l generalizing w with
  | nil => exact .refl w
  | cons n l ih => exact (hf n w).trans (ih (f n w))

theorem Wall.eachLane_senses {f : LaneId → Wall → Wall} (hf : ∀ n (w : Wall), w.SensesKept (f n w)) (w : Wall) : w.SensesKept (w.eachLane f) :=
  Wall.foldl_senses hf laneIds w

theorem Wall.enterLockdown_keeps (z : ZoneId) (w : Wall) : w.SensesKept (w.enterLockdown z) ∧ (w.enterLockdown z).points = w.points := by
  cases h : w.lockdown
  · rw [Wall.enterLockdown_eq z h]
    have start : w.SensesKept ((w.modAlarm fun a =>
        { a with lockdown := true, lockdownZone := some z, lockdownStart := w.port.seconds }).post .lockdownOn z.val) :=
      .of_lanes (by rw [Wall.post_lanes]; rfl)
    refine ⟨start.trans (Wall.eachLane_senses Wall.lockdownLane_senses _), ?_⟩
    rw [(Wall.eachLockdown_spec _).frame, Wall.post_frame]
    rfl
  · rw [Wall.enterLockdown_inForce z h]
    exact ⟨.refl w, rfl⟩

/-! ### Points and zones (R141, R148) -/

theorem Wall.zoneAlarm_keeps (z : ZoneId) (p : PointId) (w : Wall) : w.SensesKept (w.zoneAlarm z p) ∧ (w.zoneAlarm z p).points = w.points := by
  have posted : ∀ (v : Wall) k d, v.lanes = w.lanes → v.points = w.points →
      (v.post k d).refreshOutputs.lanes = w.lanes ∧ (v.post k d).refreshOutputs.points = w.points := fun v k d hl hp => by
    rw [Wall.post_frame]
    exact ⟨hl, hp⟩
  unfold Wall.zoneAlarm
  dsimp only
  split
  · obtain ⟨hl, hp⟩ := posted (w.modZone z fun x =>
      { x with state := .alarm, trigger := some p, alarms := satAdd 255 x.alarms 1, entryMs := 0,
               sirenMs := if x.siren = true ∧ 0 < x.sirenTime then some (x.sirenTime * 1000) else none }) (.zoneAlarm z) p.val rfl rfl
    obtain ⟨senses, points⟩ := Wall.enterLockdown_keeps z _
    exact ⟨.trans (.of_lanes hl) senses, points.trans hp⟩
  · obtain ⟨hl, hp⟩ := posted (w.modZone z fun x =>
      { x with state := .alarm, trigger := some p, alarms := satAdd 255 x.alarms 1, entryMs := 0,
               sirenMs := if x.siren = true ∧ 0 < x.sirenTime then some (x.sirenTime * 1000) else none }) (.zoneAlarm z) p.val rfl rfl
    exact ⟨.of_lanes hl, hp⟩

theorem Wall.zoneReact_keeps (z : ZoneId) (p : PointId) (w : Wall) : w.SensesKept (w.zoneReact z p) ∧ (w.zoneReact z p).points = w.points := by
  rw [Wall.zoneReact_eq]
  split
  · exact Wall.zoneAlarm_keeps z p w
  split
  · exact ⟨.of_lanes rfl, rfl⟩
  · exact ⟨.refl w, rfl⟩

/-- A block sets an internal point: whatever its zone does, the drawers' levels stand, the point shows what was set, and no other point changes (R141). -/
theorem Wall.setInternal_keeps {p : PointId} (b : Bool) (w : Wall) (hp : 12 ≤ p.val) :
    w.SensesKept (w.setInternal p b) ∧ ((w.setInternal p b).points.get p).live = b
      ∧ ∀ q, q ≠ p → (w.setInternal p b).points.get q = w.points.get q := by
  have h0 : p ≠ 0 := by rintro rfl; exact absurd hp (by decide)
  have h2 : p ≠ 2 := by rintro rfl; exact absurd hp (by decide)
  have change : ∀ v : Wall, v.points = (w.modPoint p (Point.change b)).points → (v.points.get p).live = b
      ∧ ∀ q, q ≠ p → v.points.get q = w.points.get q := fun v hv => by
    rw [hv, Wall.modPoint_points, tabMod_get_same]
    exact ⟨rfl, fun q hq => tabMod_get_other _ _ hq⟩
  by_cases h : (w.points.get p).live = b
  · rw [Wall.setInternal_same w h]
    exact ⟨.refl w, h, fun _ _ => rfl⟩
  · rw [Wall.setInternal, if_neg h]
    unfold Wall.changeLive
    dsimp only
    split
    · obtain ⟨senses, points⟩ := Wall.zoneReact_keeps (w.points.get p).zone p ((w.modPoint p (Point.change b)).markDoors p)
      have doors : (w.modPoint p (Point.change b)).markDoors p = w.modPoint p (Point.change b) := by simp only [Wall.markDoors, h0, h2, if_false]
      rw [doors] at senses points ⊢
      exact ⟨.trans (.of_lanes rfl) senses, change _ points⟩
    · exact ⟨.of_lanes rfl, change _ rfl⟩

/-- A block that sets an internal point to INACTIVE changes that point alone (R141, R144). -/
theorem Wall.setInternal_inactive {p : PointId} (w : Wall) :
    w.setInternal p false = { w with points := (w.setInternal p false).points } := by
  unfold Wall.setInternal
  split
  · rfl
  · simp [Wall.changeLive, Wall.modPoint]

end Sys2Proof.Machine
end

section
/-! The forced mark of a drawer, and point 14 that follows it (R10, R79, R141). -/

namespace Sys2Proof.Machine

/-- The drawer at its stowed sensor, which has asserted again (R10). -/
def Lane.seated (l : Lane) : Lane :=
  { l with stowedSensor := true, extendedSensor := false, forced := false, leaving := false,
           drawer := if l.forced = true ∧ (l.drawer = .stowed ∨ l.drawer = .holding) then l.restState else l.drawer }

/-- The drawer off its stowed sensor while no motor drove it (R10). -/
def Lane.pulled (l : Lane) : Lane := { l with stowedSensor := false, leaving := false, forced := true }

/-- The wall once the forced drawer's stowed sensor has asserted, before a travel in ends there (R10, R79, R141). -/
def Wall.seat (n : LaneId) (w : Wall) : Wall := (w.restartSilence.modLane n Lane.seated).refreshForced

theorem Wall.forcedEnds_forced {n : LaneId} {w : Wall} (hf : (w.lanes.get n).forced = true) :
    w.forcedEnds n = if (w.lanes.get n).drawer = .closing then (w.seat n).arriveStowed n else w.seat n := by
  unfold Wall.forcedEnds Wall.stowedAsserts
  simp only [hf, if_true]
  rfl

theorem Wall.forcedEnds_idle {n : LaneId} {w : Wall} (hf : (w.lanes.get n).forced = false) : w.forcedEnds n = w := by
  simp [Wall.forcedEnds, hf]

theorem Wall.stowedClears_undriven {n : LaneId} {w : Wall} (h : (w.lanes.get n).stowedSensor = true ∨ (w.lanes.get n).leaving = true)
    (hv : w.drawerDriven n = false) : w.stowedClears n = (w.modLane n Lane.pulled).refreshForced := by
  unfold Wall.stowedClears
  rw [if_pos h, hv]
  rfl

theorem Wall.stowedClears_driven {n : LaneId} {w : Wall} (h : (w.lanes.get n).stowedSensor = true ∨ (w.lanes.get n).leaving = true)
    (hv : w.drawerDriven n = true) : w.stowedClears n = w.modLane n fun l => { l with stowedSensor := false, leaving := false } := by
  unfold Wall.stowedClears
  rw [if_pos h, if_pos hv]

theorem Wall.stowedClears_idle {n : LaneId} {w : Wall} (hs : (w.lanes.get n).stowedSensor = false) (hl : (w.lanes.get n).leaving = false) :
    w.stowedClears n = w := by
  simp [Wall.stowedClears, hs, hl]

/-- A drawer that is forced makes one of the four marks. -/
theorem Wall.anyForced_of_forced {n : LaneId} {w : Wall} (h : (w.lanes.get n).forced = true) : w.anyForced = true :=
  List.any_eq_true.mpr ⟨n, mem_laneIds n, h⟩

/-- The marks that stay where a change of one lane clears its own. -/
theorem Wall.anyForced_cleared {n : LaneId} {f : Lane → Lane} (hf : ∀ l, (f l).forced = false) (w : Wall) :
    (w.modLane n f).anyForced = laneIds.any fun m => decide (m ≠ n) && (w.lanes.get m).forced := by
  unfold Wall.anyForced
  congr 1
  funext m
  rw [Wall.modLane_lanes, tabMod_get]
  by_cases h : m = n
  · simp [h, hf]
  · simp [h]

/-- Where point 14's zone is SUPERVISORY, or the point is to be INACTIVE or is ACTIVE before, the points alone change as it is set (R141, R144). -/
theorem Wall.setInternal_frame {p : PointId} {b : Bool} {w : Wall} (hp : 12 ≤ p.val) (h : (w.points.get p).live = true ∨ w.supervised p) :
    w.setInternal p b = { w with points := (w.setInternal p b).points } := by
  cases b
  · exact Wall.setInternal_inactive w
  · rcases h with h | h
    · rw [Wall.setInternal_same w h]
    · rcases Wall.setInternal_cases true hp h with ⟨-, e⟩ | ⟨-, e⟩
      · rw [e]
      · rw [e]
        rfl

/-- What the assertion of a forced drawer's stowed sensor leaves of the wall. -/
structure Wall.Seated (n : LaneId) (w v : Wall) : Prop where
  frame : v = { w with lanes := tabMod w.lanes n Lane.seated, points := v.points,
                       transport := { w.transport with silentMs := if w.beltDriven then w.transport.silentMs else 0 } }
  live : (v.points.get 14).live = laneIds.any fun m => decide (m ≠ n) && (w.lanes.get m).forced
  points : ∀ p, p ≠ 14 → v.points.get p = w.points.get p

theorem Wall.seat_seated (n : LaneId) {w : Wall} (h : (w.points.get 14).live = true ∨ w.supervised 14) : w.Seated n (w.seat n) := by
  have hn : 12 ≤ (14 : PointId).val := by decide
  have marks := Wall.anyForced_cleared (n := n) (f := Lane.seated) (fun _ => rfl) w.restartSilence
  unfold Wall.seat Wall.refreshForced
  rw [marks]
  rw [Wall.restartSilence_eq] at *
  obtain ⟨-, live, points⟩ := Wall.setInternal_keeps (p := 14) _ _ hn
  exact ⟨Wall.setInternal_frame hn h, live, points⟩

namespace Wall.Seated
variable {n : LaneId} {v w : Wall}

theorem lane (h : w.Seated n v) : v.lanes.get n = (w.lanes.get n).seated := by rw [h.frame, tabMod_get_same]

theorem others (h : w.Seated n v) : ∀ m, m ≠ n → v.lanes.get m = w.lanes.get m := fun m hm => by rw [h.frame, tabMod_get_other _ _ hm]

end Wall.Seated

theorem Lane.seated_moving {l : Lane} (hs : l.drawer ≠ .stowed) (hh : l.drawer ≠ .holding) :
    l.seated = { l with stowedSensor := true, extendedSensor := false, forced := false, leaving := false } := by
  simp [Lane.seated, hs, hh]

theorem Lane.seated_resting {l : Lane} (hf : l.forced = true) (hd : l.drawer = .stowed ∨ l.drawer = .holding) :
    l.seated = { l with stowedSensor := true, extendedSensor := false, forced := false, leaving := false, drawer := l.restState } := by
  unfold Lane.seated
  rw [if_pos ⟨hf, hd⟩]

/-- The drawer at the end of a travel in (R6). -/
def Lane.arrived (l : Lane) : Lane :=
  { l with drawer := l.restState, travel := .none, budgetMs := 0, bounce := 0, obstructed := false, shortTimer := false }

/-- A travel in without a cycle and without a PATH RESET ends at the sensor and does nothing more (R6). -/
theorem Wall.arriveStowed_alone {n : LaneId} {w : Wall} (hc : (w.lanes.get n).cycle = .none) (hr : w.pathReset (2 + n.val) = none) :
    w.arriveStowed n = w.modLane n Lane.arrived := by
  have hr' : (w.modLane n Lane.arrived).pathReset (2 + n.val) = none := by
    rw [← hr]
    exact Wall.pathReset_congr fun _ => rfl
  unfold Wall.arriveStowed
  simp only [hc, ne_eq, not_true, if_false]
  split
  · next x hx => exact absurd (hr'.symm.trans hx) (by simp)
  · rfl

theorem Wall.startOpen_leaving {n : LaneId} {w : Wall} (h : (w.lanes.get n).stowedSensor = true) : ((w.startOpen n).lanes.get n).leaving = true := by
  rw [Wall.startOpen, Wall.modLane_get_same]
  simp [h]

/-- A jam keeps the mark that the start of a travel out has set (log 16). -/
theorem Wall.travelOverrun_leaving {n : LaneId} {w : Wall} (hv : w.drawerDriven n = true) :
    ((w.travelOverrun n).lanes.get n).drawer = .jammed ∧ ((w.travelOverrun n).lanes.get n).leaving = (w.lanes.get n).leaving := by
  rw [Wall.travelOverrun_driven hv]
  obtain ⟨-, -, -, leaving⟩ := Wall.jamDrawer_senses (n := n) (f := id) w
  exact ⟨(Wall.jamDrawer_jams (f := id) w fun _ => rfl).drawer, leaving⟩

/-- Settles O43: the report that clears the sensor has three cases by the motor and the level, and the one that asserts it seats the drawer, by what drawer it finds. -/
theorem forcedMark : Obligations.ForcedMark := by
  unfold Obligations.ForcedMark
  have hn : 12 ≤ (14 : PointId).val := by decide
  refine ⟨fun s n hs => ⟨fun h hv => ?forced, fun hf hds hdh hdc hm => ?moving, fun hf hd hc hr hm => ?closing, fun hf => ?unforced⟩,
    fun s n hs hz => ⟨fun h hv => ?pulled, fun h hv => ?driven, fun h hl => ?idle, fun w h => Wall.startOpen_leaving h,
      fun x hl hd hv ho => ?jam, fun hf hd => ?resting⟩⟩
  case forced =>
    refine ⟨_, rfl, State.onWall_evaluated (f := Wall.stowedClears n) hs rfl, ?_⟩
    dsimp only
    rw [Wall.stowedClears_undriven h hv, Wall.refreshForced]
    obtain ⟨senses, live, points⟩ := Wall.setInternal_keeps (p := 14) (s.wall.modLane n Lane.pulled).anyForced (s.wall.modLane n Lane.pulled) hn
    have hl : (s.wall.modLane n Lane.pulled).lanes.get n = (s.wall.lanes.get n).pulled := Wall.modLane_get_same ..
    have hs := senses n
    rw [hl] at hs
    simp only [Lane.senses, Lane.pulled, Prod.mk.injEq] at hs
    obtain ⟨forced, stowed, -⟩ := hs
    exact ⟨forced, stowed, live.trans (Wall.anyForced_of_forced (n := n) (by rw [hl]; rfl)), points⟩
  case moving =>
    have seated := Wall.seat_seated n (.inl (hm ▸ Wall.anyForced_of_forced hf))
    refine ⟨_, rfl, State.onWall_evaluated (f := Wall.forcedEnds n) hs rfl, ?_⟩
    dsimp only
    rw [Wall.forcedEnds_forced hf, if_neg hdc]
    refine ⟨by rw [seated.lane, Lane.seated_moving hds hdh], seated.live, seated.others, seated.points, ?_, ?_⟩ <;> rw [seated.frame]
  case closing =>
    have seated := Wall.seat_seated n (.inl (hm ▸ Wall.anyForced_of_forced hf))
    have lane : (s.wall.seat n).lanes.get n =
        { s.wall.lanes.get n with stowedSensor := true, extendedSensor := false, forced := false, leaving := false } := by
      rw [seated.lane, Lane.seated_moving (by rw [hd]; decide) (by rw [hd]; decide)]
    have cycle : ((s.wall.seat n).lanes.get n).cycle = .none := by rw [lane]; exact hc
    have reset : (s.wall.seat n).pathReset (2 + n.val) = none := by
      rw [← hr]
      exact Wall.pathReset_congr fun x => by rw [seated.frame]; rfl
    refine ⟨_, rfl, State.onWall_evaluated (f := Wall.forcedEnds n) hs rfl, ?_⟩
    dsimp only
    rw [Wall.forcedEnds_forced hf, if_pos hd, Wall.arriveStowed_alone cycle reset]
    refine ⟨by rw [Wall.modLane_get_same, lane]; rfl, fun m hm => ?_⟩
    rw [Wall.modLane_get_other _ _ hm, seated.others m hm]
  case unforced => exact State.onWall_evaluated (f := Wall.forcedEnds n) hs (Wall.forcedEnds_idle hf)
  case pulled =>
    have hl : (s.wall.modLane n Lane.pulled).lanes.get n = (s.wall.lanes.get n).pulled := Wall.modLane_get_same ..
    have frame := Wall.setInternal_frame (w := s.wall.modLane n Lane.pulled) (b := (s.wall.modLane n Lane.pulled).anyForced) hn (.inr hz)
    obtain ⟨-, live, points⟩ := Wall.setInternal_keeps (p := 14) (s.wall.modLane n Lane.pulled).anyForced (s.wall.modLane n Lane.pulled) hn
    refine ⟨_, rfl, State.onWall_evaluated (f := Wall.stowedClears n) hs rfl, ?_⟩
    dsimp only
    rw [Wall.stowedClears_undriven h hv, Wall.refreshForced]
    refine ⟨by rw [frame, hl]; rfl, live.trans (Wall.anyForced_of_forced (n := n) (by rw [hl]; rfl)), fun m hm => ?_, points, ?_⟩
    · rw [frame, Wall.modLane_get_other _ _ hm]
    · rw [frame]
      rfl
  case driven => exact State.onWall_evaluated (f := Wall.stowedClears n) hs (Wall.stowedClears_driven h hv)
  case idle => exact State.onWall_evaluated (f := Wall.stowedClears n) hs (Wall.stowedClears_idle h hl)
  case jam =>
    obtain ⟨drawer, leaving⟩ := Wall.travelOverrun_leaving hv
    exact ⟨drawer, leaving.trans hl⟩
  case resting =>
    have seated := Wall.seat_seated n (.inr hz)
    have hdc : (s.wall.lanes.get n).drawer ≠ .closing := by rcases hd with e | e <;> rw [e] <;> decide
    refine ⟨_, rfl, State.onWall_evaluated (f := Wall.forcedEnds n) hs rfl, ?_⟩
    dsimp only
    rw [Wall.forcedEnds_forced hf, if_neg hdc]
    refine ⟨by rw [seated.lane, Lane.seated_resting hf hd], seated.live, seated.others, seated.points, by rw [seated.frame], ?_⟩
    rw [seated.frame]

end Sys2Proof.Machine
end

section
/-! Two statements that hold only where R27 does: they admit a lane with two DISPENSE orders in progress at once, and the end of one of them takes the other
out of the drawer's waiting list. -/

namespace Sys2Proof.Machine

/-- A DISPENSE in progress that owes no notes. -/
def oweNothing : Slot :=
  { Slot.reset with
      state := .accepted, body := orderBody .dispense 0#16 [],
      context := some
        { phase := .drawerWait, acceptance := 1, outstanding := Counts.zero, routed := Counts.zero, rejects := 0, bundles := 0, target := 0,
          inDrawer := 0, final := false, takenLate := false, endCause := .none, remixes := 0 } }

/-- The tally of a DISPENSE for which no note has moved. -/
def blankTally : Tally :=
  { chosen := Counts.zero, accepted := 0, purged := 0, presented := Counts.zero, rejected := 0, taken := 0, retracted := 0, foreign := 0,
    unresolved := 0, duress := false, remixWait := false, faulted := false, bundleLeft := false }

/-- Lockdown is in force, and lane 0 has two DISPENSE orders in progress, in slots 0 and 1, against R27. -/
def crossedWall (l : Lane) : Wall :=
  { Wall.reset with
      pages := tabSet Wall.reset.pages 0 { slots := #v[oweNothing, oweNothing, Slot.reset, Slot.reset], posting := [0, 1] },
      engine := { Engine.reset with tallies := tabSet Engine.reset.tallies 0 (some blankTally) },
      alarm := { Wall.reset.alarm with lockdown := true },
      lanes := tabSet Wall.reset.lanes 0 l }

/-- Both DISPENSE orders wait for the drawer, the later slot first. -/
def crossedWaiting : Wall := crossedWall { Lane.reset with waiting := [1, 0] }

/-- The DISPENSE in slot 1 owns the drawer, whose take cycle is about to end with the bundle taken; the one in slot 0 waits. -/
def crossedClosing : Wall := crossedWall { Lane.reset with owner := some 1, waiting := [0], drawer := .closing, cycle := .take }

theorem crossedWaiting_grant : ((crossedWaiting.grantDrawer 0 1).lanes.get 0).waiting = [] := by decide +kernel

theorem crossedClosing_stows : ((crossedClosing.stowedAsserts 0).lanes.get 0).waiting = [] := by decide +kernel

/-- Refutes O24: slot 1 is granted the drawer under lockdown, and the DISPENSE that this ends is the one of the lower slot 0, which waits behind it:
the waiting list that the statement gives as `later` is left empty. -/
theorem not_evaluations : ¬ Obligations.Evaluations := by
  unfold Obligations.Evaluations
  rintro ⟨-, -, -, -, -, grants, -⟩
  obtain ⟨t, rfl, -, hwaiting, -⟩ := grants crossedWaiting 0 1 [] [0] (by decide +kernel) (by decide) (by decide +kernel) (by decide +kernel)
    (by decide) (by decide +kernel) (by decide +kernel) (by decide) (by decide)
  rw [crossedWaiting_grant] at hwaiting
  exact absurd hwaiting (by decide)

/-- Refutes O38: the owner in slot 1 owes nothing, and the DISPENSE that its close ends is the one of the lower slot 0, which waits for the drawer: it leaves the
waiting list that the statement says is kept. -/
theorem not_stowedSensor : ¬ Obligations.StowedSensor := by
  unfold Obligations.StowedSensor
  intro h
  obtain ⟨t, rfl, -, -, -, -, -, -, hwaiting, -⟩ := h { State.reset with wall := crossedClosing } 0 (by decide) (by decide +kernel)
    (by decide +kernel) (by decide +kernel)
  have kept := hwaiting (by decide +kernel)
  exact absurd (crossedClosing_stows.symm.trans kept) (by decide +kernel)

end Sys2Proof.Machine
end

section
/-! SUPPORT. The posting lists of R26: what each operation of the model may do to them. An operation takes slots out of a list, or leaves the lists as they are,
and keeps the law of R26; the posting event alone lets a slot join. One lemma per operation, in the order of the model's files. -/

namespace Sys2Proof.Machine

/-- Between two walls each posting list has lost slots at most, and the law of R26 has been kept. -/
structure Wall.ListsShrink (u v : Wall) : Prop where
  law : u.postingLaw → v.postingLaw
  sub : ∀ p, (v.pages.get p).posting.Sublist (u.pages.get p).posting

/-- The law of R26 depends on the pages alone. -/
theorem Wall.postingLaw_congr {v w : Wall} (h : v.pages = w.pages) (hw : w.postingLaw) : v.postingLaw := by
  simpa only [Wall.postingLaw, Wall.slot, h] using hw

/-- A change of one slot leaves every posting list as it was. -/
theorem Wall.modSlot_posting (p q : PageId) (x : SlotId) (f : Slot → Slot) (w : Wall) :
    ((w.modSlot p x f).pages.get q).posting = (w.pages.get q).posting := by
  simp only [Wall.modSlot_pages, tabMod_get]
  split <;> rfl

/-- What a posting list is after one list has been changed. -/
theorem Wall.modPage_posting (p q : PageId) (f : List SlotId → List SlotId) (w : Wall) :
    ((w.modPage p fun g => { g with posting := f g.posting }).pages.get q).posting =
      if q = p then f (w.pages.get q).posting else (w.pages.get q).posting := by
  simp only [Wall.modPage_pages, tabMod_get]
  split <;> rfl

/-- A closed slot leaves its page's posting list, and no other list changes (R26). -/
theorem Wall.closeSlotAt_posting (t : DWord) (p q : PageId) (x : SlotId) (st : SlotState) (e : OrderEnd) (fields : List Word) (w : Wall) :
    ((w.closeSlotAt t p x st e fields).pages.get q).posting =
      if q = p then (w.pages.get q).posting.filter (fun y => y ≠ x) else (w.pages.get q).posting := by
  have cleared : ∀ v : Wall, (v.answerCancel p x).pages = v.pages := fun _ => rfl
  simp only [Wall.closeSlotAt]
  split
  · rw [cleared, Wall.modPage_posting, Wall.modSlot_posting]
  · rw [Wall.modPage_posting, Wall.modSlot_posting]

/-- The work of an order that starts keeps it listed, RUNNING or HELD (R31, R33). -/
theorem Wall.workState_listed (w : Wall) : w.workState.listed = true := by
  unfold Wall.workState
  split <;> rfl

namespace Wall.ListsShrink
variable {u v w : Wall}

theorem refl (w : Wall) : w.ListsShrink w := ⟨id, fun _ => List.Sublist.refl _⟩

theorem trans (h : u.ListsShrink v) (h' : v.ListsShrink w) : u.ListsShrink w := ⟨fun hu => h'.law (h.law hu), fun p => (h'.sub p).trans (h.sub p)⟩

theorem of_pages (h : u.ListsShrink w) (e : v.pages = w.pages) : u.ListsShrink v :=
  ⟨fun hu => Wall.postingLaw_congr e (h.law hu), fun p => by rw [e]; exact h.sub p⟩

theorem ite {c : Prop} [Decidable c] (hv : u.ListsShrink v) (hw : u.ListsShrink w) : u.ListsShrink (if c then v else w) := by
  split
  · exact hv
  · exact hw

/-- A change of a slot that leaves it listed, or unlisted, as it was. -/
theorem modSlot {p : PageId} {x : SlotId} {f : Slot → Slot} (h : u.ListsShrink w) (hf : (f (w.slot p x)).state.listed = (w.slot p x).state.listed) :
    u.ListsShrink (w.modSlot p x f) := by
  refine h.trans ⟨fun hw q => ?_, fun q => by rw [Wall.modSlot_posting]⟩
  rw [Wall.modSlot_posting]
  refine ⟨(hw q).1, fun y => ((hw q).2 y).trans ?_⟩
  by_cases e : (q, y) = (p, x)
  · obtain ⟨rfl, rfl⟩ := Prod.mk.inj e
    rw [Wall.modSlot_slot_same, hf]
  · rw [Wall.modSlot_slot_other f w e]

/-- A slot that is closed is no longer listed, and leaves the list. -/
theorem closeSlotAt {t : DWord} {p : PageId} {x : SlotId} {st : SlotState} {e : OrderEnd} {fields : List Word} (h : u.ListsShrink w)
    (hst : st.listed = false) : u.ListsShrink (w.closeSlotAt t p x st e fields) := by
  refine h.trans ⟨fun hw q => ?_, fun q => ?_⟩
  · rw [Wall.closeSlotAt_posting]
    by_cases hq : q = p
    · subst hq
      rw [if_pos rfl]
      refine ⟨(hw q).1.filter _, fun y => ?_⟩
      by_cases hy : y = x
      · subst hy
        simp [Wall.closeSlotAt_slot, hst]
      · rw [Wall.closeSlotAt_other t st e fields w fun e => hy (Prod.mk.inj e).2, ← (hw q).2 y]
        simp [hy]
    · rw [if_neg hq]
      refine ⟨(hw q).1, fun y => ?_⟩
      rw [Wall.closeSlotAt_other t st e fields w fun e => hq (Prod.mk.inj e).1, (hw q).2 y]
  · rw [Wall.closeSlotAt_posting]
    split
    · exact List.filter_sublist
    · exact List.Sublist.refl _

/-- Every slot of every page is changed, and each stays listed or unlisted. -/
theorem eachSlot {f : Slot → Slot} (h : u.ListsShrink w) (hf : ∀ x, (f x).state.listed = x.state.listed) : u.ListsShrink (w.eachSlot f) := by
  have slot : ∀ p x, (w.eachSlot f).slot p x = f (w.slot p x) := fun p x => by simp [Wall.eachSlot, Wall.slot]
  have posting : ∀ p, ((w.eachSlot f).pages.get p).posting = (w.pages.get p).posting := fun p => by simp [Wall.eachSlot]
  refine h.trans ⟨fun hw q => ?_, fun q => by rw [posting]⟩
  rw [posting]
  exact ⟨(hw q).1, fun y => by rw [slot, hf]; exact (hw q).2 y⟩

theorem foldl {α : Type} {f : Wall → α → Wall} (h : u.ListsShrink w) (hf : ∀ {w : Wall} (a : α), u.ListsShrink w → u.ListsShrink (f w a))
    (l : List α) : u.ListsShrink (l.foldl f w) := by
  induction l generalizing w with
  | nil => exact h
  | cons a l ih => exact ih (hf a h)

theorem eachLane {f : LaneId → Wall → Wall} (h : u.ListsShrink w) (hf : ∀ {w : Wall} (n : LaneId), u.ListsShrink w → u.ListsShrink (f n w)) :
    u.ListsShrink (w.eachLane f) := h.foldl hf laneIds

/-! ### Changing one record (Ops) -/

theorem modLane {n : LaneId} {f : Lane → Lane} (h : u.ListsShrink w) : u.ListsShrink (w.modLane n f) := h.of_pages rfl
theorem modPocket {n : LaneId} {f : Pocket → Pocket} (h : u.ListsShrink w) : u.ListsShrink (w.modPocket n f) := h.of_pages rfl
theorem modBundle {n : LaneId} {f : BundleRecord → BundleRecord} (h : u.ListsShrink w) : u.ListsShrink (w.modBundle n f) := h.of_pages rfl
theorem modCassette {c : CassId} {f : Cassette → Cassette} (h : u.ListsShrink w) : u.ListsShrink (w.modCassette c f) := h.of_pages rfl
theorem modGate {f : Gate → Gate} (h : u.ListsShrink w) : u.ListsShrink (w.modGate f) := h.of_pages rfl
theorem modTransport {f : Transport → Transport} (h : u.ListsShrink w) : u.ListsShrink (w.modTransport f) := h.of_pages rfl
theorem modEngine {f : Engine → Engine} (h : u.ListsShrink w) : u.ListsShrink (w.modEngine f) := h.of_pages rfl
theorem modConveyor {f : Conveyor → Conveyor} (h : u.ListsShrink w) : u.ListsShrink (w.modConveyor f) := h.of_pages rfl
theorem modBin {k : BinId} {f : Bin → Bin} (h : u.ListsShrink w) : u.ListsShrink (w.modBin k f) := h.of_pages rfl
theorem modPoint {p : PointId} {f : Point → Point} (h : u.ListsShrink w) : u.ListsShrink (w.modPoint p f) := h.of_pages rfl
theorem modZone {z : ZoneId} {f : Zone → Zone} (h : u.ListsShrink w) : u.ListsShrink (w.modZone z f) := h.of_pages rfl
theorem modAlarm {f : AlarmStatus → AlarmStatus} (h : u.ListsShrink w) : u.ListsShrink (w.modAlarm f) := h.of_pages rfl
theorem modPort {f : Port → Port} (h : u.ListsShrink w) : u.ListsShrink (w.modPort f) := h.of_pages rfl
theorem modProfile {f : ProfileStore → ProfileStore} (h : u.ListsShrink w) : u.ListsShrink (w.modProfile f) := h.of_pages rfl
theorem modTally {n : LaneId} {f : Tally → Tally} (h : u.ListsShrink w) : u.ListsShrink (w.modTally n f) := h.of_pages rfl
theorem modFlag {k : Fin 16} {f : Word → Word} (h : u.ListsShrink w) : u.ListsShrink (w.modFlag k f) := h.of_pages rfl
theorem answerCancel {p : PageId} {x : SlotId} (h : u.ListsShrink w) : u.ListsShrink (w.answerCancel p x) := h.of_pages rfl

/-! ### The ends of orders and the board (Ops) -/

theorem post {k : News} {d : Nat} (h : u.ListsShrink w) : u.ListsShrink (w.post k d) := h.of_pages (by rw [Wall.post_frame])

theorem closeSlot {p : PageId} {x : SlotId} {st : SlotState} {e : OrderEnd} {fields : List Word} (h : u.ListsShrink w)
    (hst : st.listed = false) : u.ListsShrink (w.closeSlot p x st e fields) := h.closeSlotAt hst

theorem finishAt {t : DWord} {p : PageId} {x : SlotId} {e : OrderEnd} {fields : List Word} (h : u.ListsShrink w) :
    u.ListsShrink (w.finishAt t p x e fields) := by
  unfold Wall.finishAt
  split
  · exact (h.closeSlotAt rfl).of_pages rfl
  · exact h.closeSlotAt rfl

theorem finish {p : PageId} {x : SlotId} {e : OrderEnd} {fields : List Word} (h : u.ListsShrink w) : u.ListsShrink (w.finish p x e fields) :=
  h.finishAt

theorem refuse {p : PageId} {x : SlotId} {e : OrderEnd} (h : u.ListsShrink w) : u.ListsShrink (w.refuse p x e) := h.closeSlot rfl

theorem startWork {p : PageId} {x : SlotId} (h : u.ListsShrink w) : u.ListsShrink (w.startWork p x) := by
  refine h.modSlot ?_
  by_cases hx : (w.slot p x).state.listed = true
  · simp only [hx, if_true, Wall.workState_listed]
  · simp only [hx, Bool.false_eq_true, if_false]

theorem refuseCancel {p : PageId} {x : SlotId} (h : u.ListsShrink w) : u.ListsShrink (w.refuseCancel p x) :=
  answerCancel (h.modSlot rfl)

theorem slip {a : Nat} (h : u.ListsShrink w) : u.ListsShrink (w.slip a) := by
  unfold Wall.slip
  split
  · exact ite h.modPort.post.modPort h.modPort.post
  · exact h.modPort

theorem refreshBin {k : BinId} (h : u.ListsShrink w) : u.ListsShrink (w.refreshBin k) := h.of_pages (by rw [Wall.refreshBin_frame])

theorem creditBin {k : BinId} {n : Nat} (h : u.ListsShrink w) : u.ListsShrink (w.creditBin k n) := h.modBin.refreshBin

theorem creditEnvelope (h : u.ListsShrink w) : u.ListsShrink w.creditEnvelope := creditBin (h.of_pages rfl)

/-! ### Contexts and cassettes (Cassettes) -/

theorem modContext {n : LaneId} {f : DispenseContext → DispenseContext} (h : u.ListsShrink w) : u.ListsShrink (w.modContext n f) := by
  unfold Wall.modContext
  split
  · exact h
  · split
    · exact ite (h.modEngine.modSlot rfl) (h.modSlot rfl)
    · exact h.modSlot rfl

theorem writeBack (h : u.ListsShrink w) : u.ListsShrink w.writeBack := by
  unfold Wall.writeBack
  split
  · exact (h.modSlot rfl).modEngine
  · exact h

theorem releaseOutstanding {n : LaneId} (h : u.ListsShrink w) : u.ListsShrink (w.releaseOutstanding n) := by
  unfold Wall.releaseOutstanding
  split
  · exact modContext (h.of_pages rfl)
  · exact h

theorem triggerRemix {c : CassId} (h : u.ListsShrink w) : u.ListsShrink (w.triggerRemix c) := by
  refine h.eachLane fun {w} n h => ?_
  split
  · exact ite h.modTally h
  · exact h

theorem enterCassetteState {c : CassId} {new : CassetteState} {how : Nat} (h : u.ListsShrink w) :
    u.ListsShrink (w.enterCassetteState c new how) := by
  have moved : u.ListsShrink (w.modCassette c fun x => { x with state := new }) := h.modCassette
  unfold Wall.enterCassetteState
  refine ite h ?_
  cases new
  case low => exact moved.post
  case empty => exact moved.post.triggerRemix
  case suspect => exact moved.post.triggerRemix
  case absent => exact moved.post.triggerRemix
  case uncounted => exact moved
  case inService => exact moved

theorem remainingTest {c : CassId} (h : u.ListsShrink w) : u.ListsShrink (w.remainingTest c) := ite h.enterCassetteState h

theorem recordPassage {c : CassId} {cls : PieceClass} {estimate : Nat} (h : u.ListsShrink w) : u.ListsShrink (w.recordPassage c cls estimate) := by
  have counted : u.ListsShrink ((w.modCassette c fun x => Cassette.doubtTest { x with drawn := satAdd 65535 x.drawn estimate }).remainingTest c) :=
    h.modCassette.remainingTest
  exact ite counted.modCassette.enterCassetteState counted.modCassette

theorem recordMiss {c : CassId} (h : u.ListsShrink w) : u.ListsShrink (w.recordMiss c) := ite h.modCassette.modCassette.enterCassetteState h.modCassette

end Wall.ListsShrink
end Sys2Proof.Machine
end


section
namespace Sys2Proof.Machine
namespace Wall.ListsShrink
variable {u v w : Wall}

/-! ### The engine and the transport (Transport) -/

theorem finishDispenseAt {d : Decision} {n : LaneId} {jammed : Bool} (h : u.ListsShrink w) : u.ListsShrink (w.finishDispenseAt d n jammed) := by
  unfold Wall.finishDispenseAt
  split
  · exact ((ite h.releaseOutstanding.writeBack h.releaseOutstanding).finishAt).modLane.modEngine
  · exact h

theorem finishDispense {n : LaneId} {jammed : Bool} (h : u.ListsShrink w) : u.ListsShrink (w.finishDispense n jammed) := h.finishDispenseAt

theorem gatePrepare (h : u.ListsShrink w) : u.ListsShrink w.gatePrepare := h.modGate

theorem dropRequest {n : LaneId} {k : RequestKind} (h : u.ListsShrink w) : u.ListsShrink (w.dropRequest n k) := h.modTransport

theorem grantRetract {n : LaneId} {d : Destination} (h : u.ListsShrink w) : u.ListsShrink (w.grantRetract n d) := by
  unfold Wall.grantRetract
  exact h.dropRequest.modTransport.gatePrepare.modBundle

theorem grantBundle {n : LaneId} (h : u.ListsShrink w) : u.ListsShrink (w.grantBundle n) := by
  have granted := fun f g => ((h.dropRequest (n := n) (k := .bundle)).modTransport (f := f)).gatePrepare.modGate (f := g)
  unfold Wall.grantBundle
  dsimp only
  split
  · exact granted _ _
  · split
    · exact granted _ _
    · exact ite (startWork (modEngine (granted _ _))) (modEngine (granted _ _))

theorem tryRetracts (q : List Request) (h : u.ListsShrink w) : u.ListsShrink (Wall.tryRetracts q w).1 := by
  induction q generalizing w with
  | nil => exact h
  | cons r rest ih =>
    unfold Wall.tryRetracts
    split
    · exact ih h
    · split
      · exact h.grantRetract.post
      · exact h.grantRetract
      · exact ih h.modBundle.post

theorem transportGrant (h : u.ListsShrink w) : u.ListsShrink w.transportGrant := by
  have tried := h.tryRetracts w.transport.queue
  unfold Wall.transportGrant
  refine ite ?_ h
  dsimp only
  refine ite tried ?_
  split
  · exact tried.grantBundle
  · exact tried

theorem endTenure (h : u.ListsShrink w) : u.ListsShrink w.endTenure := h.writeBack.modTransport.modGate

theorem queueBundle {n : LaneId} (h : u.ListsShrink w) : u.ListsShrink (w.queueBundle n) := h.modContext.modTransport

theorem requestBundle {n : LaneId} (h : u.ListsShrink w) : u.ListsShrink (w.requestBundle n) :=
  ite h.modTally.finishDispense h.queueBundle.transportGrant

theorem postForeign {n : LaneId} {k : Nat} (h : u.ListsShrink w) : u.ListsShrink (w.postForeign n k) := ite h.post h

theorem reportRetract {n : LaneId} {fault : Bool} (h : u.ListsShrink w) : u.ListsShrink (w.reportRetract n fault) := by
  unfold Wall.reportRetract
  dsimp only
  split
  · exact h.modTally.modBundle.postForeign.finishDispenseAt
  · split
    · exact h.modBundle.postForeign.finishAt
    · exact h

theorem dropRetract {n : LaneId} {e : OrderEnd} (h : u.ListsShrink w) : u.ListsShrink (w.dropRetract n e) := by
  unfold Wall.dropRetract
  dsimp only
  split
  · exact h.dropRequest.modBundle.modTally.finishDispense
  · split
    · exact h.dropRequest.modBundle.finish
    · exact h.dropRequest.modBundle

theorem queueRetract {n : LaneId} (h : u.ListsShrink w) : u.ListsShrink (w.queueRetract n) := h.modBundle.modTransport

theorem requestRetract {n : LaneId} (h : u.ListsShrink w) : u.ListsShrink (w.requestRetract n) :=
  ite h.dropRetract h.queueRetract.transportGrant

theorem endEmpty {n : LaneId} (h : u.ListsShrink w) : u.ListsShrink (w.endEmpty n) := h.endTenure.finishDispense

theorem checkEnding (h : u.ListsShrink w) : u.ListsShrink w.checkEnding := by
  unfold Wall.checkEnding
  split
  · split
    · exact ite h.endEmpty.transportGrant h
    · exact h
  · exact h

theorem beginEnd {n : LaneId} {cause : EndCause} (h : u.ListsShrink w) : u.ListsShrink (w.beginEnd n cause) := by
  unfold Wall.beginEnd
  dsimp only
  split
  · exact ite h.modContext.modTally.modGate.checkEnding h.modContext.modTally
  · exact h.modContext.modTally

theorem creditExit {src : Source} {estimate : Nat} {r : Route} (h : u.ListsShrink w) : u.ListsShrink (w.creditExit src estimate r) := by
  have binned : u.ListsShrink (w.creditBin (if r = .retractBin then retractBin else rejectBin) estimate) := h.creditBin
  unfold Wall.creditExit
  cases r with
  | stacker =>
    cases src with
    | cassette c =>
      dsimp only
      split
      · exact h.modTransport.modTally
      · exact h.modTransport
    | retract n => exact h
    | clearance => exact h
  | reject =>
    cases src with
    | cassette c => exact binned
    | retract n => exact ite binned.modBundle binned
    | clearance => exact binned
  | retractBin =>
    cases src with
    | cassette c => exact binned
    | retract n => exact ite binned.modBundle binned
    | clearance => exact binned

theorem dumpStacker (h : u.ListsShrink w) : u.ListsShrink w.dumpStacker := h.creditBin.modTransport

theorem startClearance (h : u.ListsShrink w) : u.ListsShrink w.startClearance := h.modTransport.gatePrepare

/-! ### The note gate (Gate) -/

theorem acceptSingle {c : CassId} (h : u.ListsShrink w) : u.ListsShrink (w.acceptSingle c) := by
  unfold Wall.acceptSingle
  split
  · split
    · exact h
    · exact ite h.modCassette.modContext.modEngine.modGate h.modCassette.modContext.modEngine
  · exact h

theorem countReject {m : Measure} (h : u.ListsShrink w) : u.ListsShrink (w.countReject m) := by
  unfold Wall.countReject
  split
  · next n _ =>
    have counted : u.ListsShrink
        (if m.route = .reject then w.modTally n fun t => { t with rejected := t.rejected + m.estimate } else w) := ite h.modTally h
    refine ite counted ?_
    dsimp only
    split
    · exact ite counted.modContext.beginEnd counted.modContext
    · exact counted.modContext
  · exact h

theorem reportSettled {x : Passage} {m : Measure} (h : u.ListsShrink w) : u.ListsShrink (w.reportSettled x m) :=
  ite h.modTransport.creditExit h.modTransport

theorem settle {x : Passage} {m : Measure} {cut : Bool} (h : u.ListsShrink w) : u.ListsShrink (w.settle x m cut) := by
  have reported : u.ListsShrink ((w.modGate (Gate.trace1 x m cut)).reportSettled x m) := h.modGate.reportSettled
  unfold Wall.settle
  dsimp only
  split
  · next c _ =>
    have recorded := (ite (c := m.route = .stacker) (reported.acceptSingle (c := c)) reported).recordPassage (c := c) (cls := m.cls) (estimate := m.estimate)
    exact (ite (modCassette recorded) recorded).countReject
  · exact reported

theorem restartSilence (h : u.ListsShrink w) : u.ListsShrink w.restartSilence := ite h h.modTransport

theorem gateLeading (h : u.ListsShrink w) : u.ListsShrink w.gateLeading := ite h h.restartSilence.modGate.modTransport

theorem closePassage {unmeasured latch : Bool} (h : u.ListsShrink w) : u.ListsShrink (w.closePassage unmeasured latch) := by
  unfold Wall.closePassage
  split
  · exact h
  · exact ite h.modGate.modGate.settle h.modGate.modGate

theorem diverterLeading (h : u.ListsShrink w) : u.ListsShrink w.diverterLeading := by
  unfold Wall.diverterLeading
  split
  · exact h
  · dsimp only
    split
    · exact h.modGate.modGate
    · exact h.modGate.modGate.settle

theorem declareMiss (h : u.ListsShrink w) : u.ListsShrink w.declareMiss := by
  unfold Wall.declareMiss
  split
  · exact h
  · exact h.modGate.recordMiss

theorem settleCut (l : List Passage) (h : u.ListsShrink w) : u.ListsShrink (Machine.settleCut l w) := by
  induction l generalizing w with
  | nil => exact h
  | cons x rest ih => exact ih h.settle

theorem closeGate (h : u.ListsShrink w) : u.ListsShrink w.closeGate := by
  unfold Wall.closeGate
  exact (settleCut _ h.closePassage.modGate).modGate

/-! ### The lanes and the pockets (Drawers) -/

theorem startOpen {n : LaneId} (h : u.ListsShrink w) : u.ListsShrink (w.startOpen n) := h.modLane

theorem startClose {n : LaneId} {cause : CloseCause} (h : u.ListsShrink w) : u.ListsShrink (w.startClose n cause) := h.modLane

theorem startLift {n : LaneId} {t : Travel} (h : u.ListsShrink w) : u.ListsShrink (w.startLift n t) := h.modLane

theorem closeByOwner {n : LaneId} {cause : CloseCause} (h : u.ListsShrink w) : u.ListsShrink (w.closeByOwner n cause) := by
  unfold Wall.closeByOwner
  split
  · exact h.startClose.modLane
  · exact h.startClose.modLane
  · exact h.modLane
  · exact h.modLane
  · exact h

theorem closeByLockdown {n : LaneId} (h : u.ListsShrink w) : u.ListsShrink (w.closeByLockdown n) := ite h.closeByOwner (ite h.startClose h)

theorem pocketHeld {n : LaneId} (h : u.ListsShrink w) : u.ListsShrink (w.pocketHeld n) := h.modPocket

theorem pocketEmpty {n : LaneId} (h : u.ListsShrink w) : u.ListsShrink (w.pocketEmpty n) := h.modPocket

theorem pocketMove {n : LaneId} {st : PocketState} {owner : Option SlotId} (h : u.ListsShrink w) : u.ListsShrink (w.pocketMove n st owner) :=
  h.modPocket

theorem joinQueue {n : LaneId} (h : u.ListsShrink w) : u.ListsShrink (w.joinQueue n) := h.modConveyor

theorem leaveQueue {n : LaneId} (h : u.ListsShrink w) : u.ListsShrink (w.leaveQueue n) := h.modConveyor

theorem leaveDrawer {n : LaneId} {x : SlotId} (h : u.ListsShrink w) : u.ListsShrink (w.leaveDrawer n x) := h.modLane

theorem requestDrawer {n : LaneId} {x : SlotId} (h : u.ListsShrink w) : u.ListsShrink (w.requestDrawer n x) := h.modLane

theorem strandPocket {n : LaneId} {d : Nat} (h : u.ListsShrink w) : u.ListsShrink (w.strandPocket n d) := h.modPocket.post

theorem reloadStranded (h : u.ListsShrink w) : u.ListsShrink w.reloadStranded := h.eachLane fun _ h => ite h.modPocket h

theorem dispenseCycleEnd {n : LaneId} {r : CycleResult} (h : u.ListsShrink w) : u.ListsShrink (w.dispenseCycleEnd n r) := by
  unfold Wall.dispenseCycleEnd
  split
  · exact h
  · exact ite h.releaseOutstanding.modTally.modContext.requestRetract
      (ite h.modTally.modContext.finishDispense
        (ite h.modTally.modContext.beginEnd.finishDispense h.modTally.modContext.requestBundle))

theorem returnCycleEnd {n : LaneId} {x : SlotId} {r : CycleResult} (h : u.ListsShrink w) : u.ListsShrink (w.returnCycleEnd n x r) :=
  ite h.startLift h.pocketEmpty.finish

theorem depositCycleEnd {n : LaneId} {x : SlotId} {r : CycleResult} (h : u.ListsShrink w) : u.ListsShrink (w.depositCycleEnd n x r) :=
  ite (startLift (ite (h.refuseCancel.modSlot rfl) h)) h.finish

theorem cycleEnd {n : LaneId} {r : CycleResult} (h : u.ListsShrink w) : u.ListsShrink (w.cycleEnd n r) := by
  unfold Wall.cycleEnd
  dsimp only
  split
  · exact h.modLane
  · split
    · exact h.modLane.dispenseCycleEnd
    · exact h.modLane.returnCycleEnd
    · exact h.modLane.depositCycleEnd
    · exact h.modLane

theorem startTake {n : LaneId} (h : u.ListsShrink w) : u.ListsShrink (w.startTake n) := ite h.modLane.modLane.cycleEnd h.modLane.startOpen

theorem startDeposit {n : LaneId} (h : u.ListsShrink w) : u.ListsShrink (w.startDeposit n) := h.modLane.startOpen

theorem pocketFromSensor {n : LaneId} (h : u.ListsShrink w) : u.ListsShrink (w.pocketFromSensor n) := ite h.pocketHeld h.pocketEmpty

theorem jamOwner {n : LaneId} {x : SlotId} {old : Lane} (h : u.ListsShrink w) : u.ListsShrink (w.jamOwner n x old) := by
  unfold Wall.jamOwner
  dsimp only
  split
  · exact h.dropRequest.modTally.finishDispense
  · exact (ite h.pocketFromSensor h).finish
  · exact (ite h.pocketFromSensor h.pocketEmpty).finish
  · exact h.finish
  · exact h

theorem jamWaiter {n : LaneId} {x : SlotId} (h : u.ListsShrink w) : u.ListsShrink (w.jamWaiter n x) := by
  unfold Wall.jamWaiter
  split
  · exact h.finishDispense
  · exact h.finish
  · exact h.pocketHeld.finish
  · exact h.finish
  · exact h

theorem enterJam {n : LaneId} {detail : Nat} (h : u.ListsShrink w) : u.ListsShrink (w.enterJam n detail) := by
  have started : u.ListsShrink (w.jamStart n detail) := h.modLane.post
  have waiters : u.ListsShrink ((w.jamStart n detail).jamWaiters n (w.lanes.get n).waiting) := started.foldl (fun _ h => h.jamWaiter) _
  rw [Wall.enterJam_eq]
  unfold Wall.jamReset
  split
  · exact waiters.finish
  · exact waiters

theorem jamDrawer {n : LaneId} (h : u.ListsShrink w) : u.ListsShrink (w.jamDrawer n) := by
  unfold Wall.jamDrawer
  refine modLane ?_
  split
  · exact h.enterJam.jamOwner
  · exact h.enterJam

theorem obstruct {n : LaneId} (h : u.ListsShrink w) : u.ListsShrink (w.obstruct n) :=
  ite h.modLane.jamDrawer (ite h.modLane.modLane.startOpen h.modLane.modLane)

theorem arriveExtended {n : LaneId} (h : u.ListsShrink w) : u.ListsShrink (w.arriveExtended n) := by
  unfold Wall.arriveExtended
  dsimp only
  split
  · exact h.modLane.startClose
  · exact h.modLane.modLane

theorem arriveStowed {n : LaneId} (h : u.ListsShrink w) : u.ListsShrink (w.arriveStowed n) := by
  unfold Wall.arriveStowed
  dsimp only
  refine ite h.modLane.cycleEnd ?_
  split
  · exact h.modLane.finish
  · exact h.modLane

theorem grantDrawer {n : LaneId} {x : SlotId} (h : u.ListsShrink w) : u.ListsShrink (w.grantDrawer n x) := by
  unfold Wall.grantDrawer
  dsimp only
  split
  · exact ite h.modLane.beginEnd.finishDispense h.modLane.requestBundle
  · exact h.modLane.startWork.requestRetract
  · exact h.modLane.startWork.startDeposit
  · exact h.modLane.startWork.startLift
  · exact h.modLane

theorem settleLane {n : LaneId} (h : u.ListsShrink w) : u.ListsShrink (w.settleLane n) := by
  unfold Wall.settleLane
  dsimp only
  split
  · exact h.modLane.finish
  · exact h.modLane

/-! ### The alarm (Alarm) -/

theorem refreshOutputs (h : u.ListsShrink w) : u.ListsShrink w.refreshOutputs := h.modAlarm

theorem lockdownDispense {n : LaneId} (h : u.ListsShrink w) : u.ListsShrink (w.lockdownDispense n) := by
  unfold Wall.lockdownDispense
  split
  · exact h
  · refine ite h ?_
    split
    · exact h.beginEnd.finishDispense
    · exact h.beginEnd.dropRequest.finishDispense
    · exact h.beginEnd
    · exact h.beginEnd
    · exact h.beginEnd
    · exact h.beginEnd
    · exact h

theorem lockdownDeposit {n : LaneId} (h : u.ListsShrink w) : u.ListsShrink (w.lockdownDeposit n) := by
  unfold Wall.lockdownDeposit
  split
  · exact h
  · exact ite (h.modSlot rfl) h.finish

theorem lockdownLane {n : LaneId} (h : u.ListsShrink w) : u.ListsShrink (w.lockdownLane n) :=
  h.modLane.lockdownDispense.lockdownDeposit.closeByLockdown

theorem enterLockdown {z : ZoneId} (h : u.ListsShrink w) : u.ListsShrink (w.enterLockdown z) :=
  ite h (h.modAlarm.post.eachLane fun _ h => h.lockdownLane)

theorem zoneAlarm {z : ZoneId} {p : PointId} (h : u.ListsShrink w) : u.ListsShrink (w.zoneAlarm z p) :=
  ite h.modZone.post.refreshOutputs.enterLockdown h.modZone.post.refreshOutputs

theorem zoneExit {z : ZoneId} {st : ZoneState} {d : Nat} (h : u.ListsShrink w) : u.ListsShrink (w.zoneExit z st d) :=
  h.modZone.refreshOutputs.post

theorem zoneReact {z : ZoneId} {p : PointId} (h : u.ListsShrink w) : u.ListsShrink (w.zoneReact z p) := by
  unfold Wall.zoneReact
  dsimp only
  split
  · exact ite h.modZone h.zoneAlarm
  · exact ite h h.zoneAlarm
  · exact h.zoneAlarm
  · exact h

theorem markDoors {p : PointId} (h : u.ListsShrink w) : u.ListsShrink (w.markDoors p) := ite h.modBin.modBin (ite h.modBin h)

theorem changeLive {p : PointId} {b : Bool} (h : u.ListsShrink w) : u.ListsShrink (w.changeLive p b) :=
  ite h.modPoint.markDoors.zoneReact h.modPoint

theorem setInternal {p : PointId} {b : Bool} (h : u.ListsShrink w) : u.ListsShrink (w.setInternal p b) := ite h h.changeLive

theorem refreshForced (h : u.ListsShrink w) : u.ListsShrink w.refreshForced := h.setInternal

theorem acknowledge {p : PointId} (h : u.ListsShrink w) : u.ListsShrink (w.acknowledge p) := h.modPoint.modFlag

end Wall.ListsShrink
end Sys2Proof.Machine
end


section
namespace Sys2Proof.Machine

/-- The lane of a lane's page, and of no other page. -/
theorem laneOf_eq_some {p : PageId} {n : LaneId} : laneOf p = some n ↔ p = lanePage n := by revert p n; decide

/-- What a taking evaluation takes is POSTED (R28). -/
theorem Wall.nextTake_posted {w : Wall} {p : PageId} {x : SlotId} (h : w.nextTake = some (p, x)) : (w.slot p x).state = .posted := by
  obtain ⟨q, -, hq⟩ := List.exists_of_findSome?_eq_some h
  obtain ⟨y, hy, e⟩ := Option.map_eq_some_iff.mp hq
  obtain ⟨rfl, rfl⟩ := Prod.mk.inj e
  have taken := List.find?_some hy
  simp only [Wall.takeable, Bool.and_eq_true, beq_iff_eq] at taken
  exact taken.1.1.1

end Sys2Proof.Machine
end


section
namespace Sys2Proof.Machine
namespace Wall.ListsShrink
variable {u v w : Wall}

/-! ### The note path at its events (Path) -/

theorem faultDelivery {n : LaneId} (h : u.ListsShrink w) : u.ListsShrink (w.faultDelivery n) := by
  unfold Wall.faultDelivery
  split
  · exact h
  · exact ite h.modTally.modTransport.modEngine.modLane h

theorem faultHolder {j : Join} (h : u.ListsShrink w) : u.ListsShrink (w.faultHolder j) := by
  cases j with
  | none => exact h
  | dispense n => exact ite h.writeBack.modGate h.writeBack.modGate.finishDispense
  | retract n => exact h.modLane.reportRetract
  | clearance =>
    unfold Wall.faultHolder
    dsimp only
    split
    · exact h.modPort.finish
    · exact h.modPort

theorem faultRequest {r : Request} (h : u.ListsShrink w) : u.ListsShrink (w.faultRequest r) := by
  unfold Wall.faultRequest
  split
  · exact h.dropRequest.modTally.finishDispense
  · exact h.dropRetract

theorem transportFault {jam : Bool} (h : u.ListsShrink w) : u.ListsShrink (w.transportFault jam) := by
  unfold Wall.transportFault
  extract_lets j w1 w2 w3 picks w4 w5 w6 w7 w8 w9
  clear_value j
  have told : u.ListsShrink w2 := by
    unfold w2
    split
    · exact h.modTransport.modTally
    · exact h.modTransport
  have closed : u.ListsShrink w4 := closeGate (ite told told.modGate.setInternal)
  have posted : u.ListsShrink w6 := ite closed.modTransport.setInternal.post closed.modTransport.post
  have delivered : u.ListsShrink w7 := by
    unfold w7
    split
    · exact posted.faultDelivery
    · exact posted
  exact delivered.modTransport.faultHolder.foldl (fun _ h => h.faultRequest) _

theorem exitEdge (h : u.ListsShrink w) : u.ListsShrink w.exitEdge := by
  unfold Wall.exitEdge
  split
  · refine checkEnding ?_
    split
    · exact h.modTransport.creditExit
    · exact h.modTransport.modTransport
  · exact ite h.modTransport.creditBin (ite h h.transportFault)

theorem releasePick {c : CassId} (h : u.ListsShrink w) : u.ListsShrink (w.releasePick c) := by
  unfold Wall.releasePick
  exact modEngine (modGate (ite h.declareMiss h))

theorem markFinal {n : LaneId} (h : u.ListsShrink w) : u.ListsShrink (w.markFinal n) := by
  unfold Wall.markFinal
  dsimp only
  split
  · exact h.modContext
  · split
    · exact h.modContext.modTally.modGate.checkEnding
    · exact h.modContext.modTally.dropRequest.finishDispense
    · exact h.modContext.modTally.finishDispense
    · exact h.modContext.modTally

theorem takeMix {n : LaneId} {k : Counts} (h : u.ListsShrink w) : u.ListsShrink (w.takeMix n k) := by
  have reserved : u.ListsShrink (w.restartSilence.reserve k) := of_pages h.restartSilence rfl
  unfold Wall.takeMix
  dsimp only
  split
  · exact reserved.modContext
  · exact ite reserved.modContext.modTally.modContext.modGate reserved.modContext.modTally

theorem remixLane {n : LaneId} (h : u.ListsShrink w) : u.ListsShrink (w.remixLane n) := by
  unfold Wall.remixLane
  split
  · dsimp only
    split
    · exact h.releaseOutstanding.takeMix
    · exact h.releaseOutstanding.markFinal
  · exact h

theorem startDelivery {n : LaneId} (h : u.ListsShrink w) : u.ListsShrink (w.startDelivery n) := h.modContext.modEngine

theorem takeHeld {n : LaneId} (h : u.ListsShrink w) : u.ListsShrink (w.takeHeld n) := h.modLane.cycleEnd

theorem deliver {n : LaneId} (h : u.ListsShrink w) : u.ListsShrink (w.deliver n) :=
  h.modTally.modTransport.modContext.modEngine.modLane.endTenure

theorem endDelivery {n : LaneId} (h : u.ListsShrink w) : u.ListsShrink (w.endDelivery n) :=
  ite h.deliver.transportGrant.startTake h.deliver.transportGrant.takeHeld

theorem startPurge {n : LaneId} (h : u.ListsShrink w) : u.ListsShrink (w.startPurge n) := h.modContext.modTransport

theorem endClearance {d : Nat} (h : u.ListsShrink w) : u.ListsShrink (w.endClearance d) := by
  have told : u.ListsShrink
      (if 0 < w.transport.seen ∨ 0 < w.transport.unaccounted then
        w.post (.clearancePieces rejectBin) (min 255 w.transport.seen * 256 + min 255 w.transport.unaccounted)
      else w) := ite h.post h
  unfold Wall.endClearance
  dsimp only
  split
  · exact told.modTransport.setInternal.modTransport.modPort.finish
  · exact told.modTransport.setInternal.modTransport.modPort

theorem purgeNotes {n : LaneId} (h : u.ListsShrink w) : u.ListsShrink (w.purgeNotes n) := h.dumpStacker.modTally

theorem endDump {d : Dump} (h : u.ListsShrink w) : u.ListsShrink (w.endDump d) := by
  unfold Wall.endDump
  split
  · split
    · exact h.purgeNotes.endEmpty.transportGrant
    · exact h.dumpStacker
  · exact h.purgeNotes.finishDispense
  · exact h.dumpStacker
  · exact h.dumpStacker.endClearance.transportGrant

theorem testSweep (h : u.ListsShrink w) : u.ListsShrink w.testSweep := by
  unfold Wall.testSweep
  split
  · exact ite h.modTransport h
  · exact h

theorem endSweep {n : LaneId} (h : u.ListsShrink w) : u.ListsShrink (w.endSweep n) := h.modLane.modBundle

theorem stallSweep {n : LaneId} (h : u.ListsShrink w) : u.ListsShrink (w.stallSweep n) := h.enterJam.modLane.modBundle

theorem endRetract {n : LaneId} (h : u.ListsShrink w) : u.ListsShrink (w.endRetract n) := h.endTenure.reportRetract.transportGrant

theorem endLoss (h : u.ListsShrink w) : u.ListsShrink w.endLoss := ite h.modGate.modTransport.setInternal h

theorem pulse {k : Nat} (h : u.ListsShrink w) : u.ListsShrink (w.pulse k) := ite h.endLoss h.endLoss.modGate.modTransport.testSweep.modEngine

/-! ### The conveyor (Conveyor) -/

theorem serve {n : LaneId} (h : u.ListsShrink w) : u.ListsShrink (w.serve n) := by
  unfold Wall.serve
  dsimp only
  split
  · exact ite h.leaveQueue.modConveyor.modLane.startWork h.leaveQueue.modConveyor.modLane
  · exact h.leaveQueue.modConveyor.modLane

theorem finishCarried {n : LaneId} {x : SlotId} {capture back : OrderEnd} {unknown : Bool} (h : u.ListsShrink w) :
    u.ListsShrink (w.finishCarried n x capture back unknown) := by
  unfold Wall.finishCarried
  split
  · exact h.finish
  · exact h.finish
  · exact h

theorem deliverEnvelope {n : LaneId} (h : u.ListsShrink w) : u.ListsShrink (w.deliverEnvelope n) := by
  unfold Wall.deliverEnvelope
  refine modConveyor ?_
  split
  · exact h.creditEnvelope.pocketEmpty.finishCarried
  · exact h.creditEnvelope.pocketEmpty.post

theorem withdraw {n : LaneId} (h : u.ListsShrink w) : u.ListsShrink (w.withdraw n) := ite h.leaveQueue.strandPocket h

theorem conveyorFault {d : Nat} (h : u.ListsShrink w) : u.ListsShrink (w.conveyorFault d) :=
  h.modConveyor.setInternal.post.foldl (fun _ h => h.withdraw) _

theorem overrunCarry {n : LaneId} (h : u.ListsShrink w) : u.ListsShrink (w.overrunCarry n) := by
  unfold Wall.overrunCarry
  refine modConveyor ?_
  split
  · exact h.conveyorFault.pocketEmpty.modPocket.finishCarried
  · exact h.conveyorFault.pocketEmpty.modPocket

theorem conveyorExit (h : u.ListsShrink w) : u.ListsShrink w.conveyorExit := by
  unfold Wall.conveyorExit
  split
  · split
    · exact h.deliverEnvelope
    · exact h
  · exact h.creditEnvelope.modConveyor
  · exact h.conveyorFault
  · exact h
  · exact h

theorem startConveyorClearance (h : u.ListsShrink w) : u.ListsShrink w.startConveyorClearance := h.modConveyor

theorem endConveyorClearance (h : u.ListsShrink w) : u.ListsShrink w.endConveyorClearance := by
  unfold Wall.endConveyorClearance
  extract_lets w1 w2 w3 w4 w5
  have told : u.ListsShrink w2 := ite h.setInternal.post h.setInternal
  have ready : u.ListsShrink w4 := told.modConveyor.modPort
  have ended : u.ListsShrink w5 := by
    unfold w5
    split
    · exact ready.finish
    · exact ready
  exact ite ended.reloadStranded ended

theorem expireHoldLimit {n : LaneId} (h : u.ListsShrink w) : u.ListsShrink (w.expireHoldLimit n) :=
  ite h.strandPocket (ite h.strandPocket h.pocketMove.modPocket.joinQueue)

/-! ### The profile (Profile) -/

theorem applyLockout {n : LaneId} (h : u.ListsShrink w) : u.ListsShrink (w.applyLockout n) := h.modLane

theorem applyCassette {c : CassId} (h : u.ListsShrink w) : u.ListsShrink (w.applyCassette c) := h.remainingTest.modCassette

theorem applyBin {k : BinId} (h : u.ListsShrink w) : u.ListsShrink (w.applyBin k) := ite h.modBin.refreshBin.reloadStranded h.modBin.refreshBin

theorem restartZone {z : ZoneId} (h : u.ListsShrink w) : u.ListsShrink (w.restartZone z) := ite h.zoneExit h.modZone

theorem startWatch {z : ZoneId} (h : u.ListsShrink w) : u.ListsShrink (w.startWatch z) := by
  unfold Wall.startWatch
  refine ite ?_ h
  split
  · exact h.zoneAlarm
  · exact h

theorem applyAlarm (h : u.ListsShrink w) : u.ListsShrink w.applyAlarm := by
  unfold Wall.applyAlarm
  extract_lets w1 changed w2 w3
  have set : u.ListsShrink w1 := h.of_pages rfl
  have restarted : u.ListsShrink w3 := (set.foldl (fun _ h => h.restartZone.startWatch) changed).refreshOutputs
  split
  · exact restarted.enterLockdown
  · exact restarted

theorem load {cause : Nat} (h : u.ListsShrink w) : u.ListsShrink (w.load cause) := ite h.modProfile h.modProfile.post

theorem applyProfile (h : u.ListsShrink w) : u.ListsShrink w.applyProfile := by
  unfold Wall.applyProfile
  extract_lets w1 w2 w3
  have lanes : u.ListsShrink w1 := h.eachLane fun _ h => h.applyLockout
  have cassettes : u.ListsShrink w2 := lanes.foldl (fun _ h => h.applyCassette) cassIds
  have bins : u.ListsShrink w3 := cassettes.foldl (fun _ h => h.applyBin) binIds
  exact bins.applyAlarm

theorem endProgramming {g : Programming} (h : u.ListsShrink w) : u.ListsShrink (w.endProgramming g) := by
  unfold Wall.endProgramming
  extract_lets w1 w2 w3
  have stored : u.ListsShrink w1 := h.modProfile
  have loaded : u.ListsShrink w3 := applyProfile (load (ite stored.post stored))
  split
  · exact loaded.finish
  · exact loaded

/-! ### Hold (Hold) -/

theorem suspend (h : u.ListsShrink w) : u.ListsShrink (w.eachSlot Slot.suspend) := by
  refine h.eachSlot fun x => ?_
  unfold Slot.suspend
  cases hx : x.state <;> simp [SlotState.listed]

theorem resume (h : u.ListsShrink w) : u.ListsShrink (w.eachSlot Slot.resume) := by
  refine h.eachSlot fun x => ?_
  unfold Slot.resume
  cases hx : x.state <;> simp [SlotState.listed]

theorem resumeDrawer {n : LaneId} (h : u.ListsShrink w) : u.ListsShrink (w.resumeDrawer n) := by
  unfold Wall.resumeDrawer
  refine ite ?_ h
  split
  · exact h.modLane
  · exact ite h.modLane.obstruct h.modLane
  · exact h

theorem holdBegins {cause : Nat} (h : u.ListsShrink w) : u.ListsShrink (w.holdBegins cause) := by
  unfold Wall.holdBegins
  exact h.modPort.post.suspend.modGate.modTransport

theorem holdEnds (h : u.ListsShrink w) : u.ListsShrink w.holdEnds := (h.post.resume.eachLane fun _ h => h.resumeDrawer).transportGrant

theorem setHold {line order : Bool} (h : u.ListsShrink w) : u.ListsShrink (w.setHold line order) :=
  ite h.modPort.holdBegins (ite h.modPort.holdEnds h.modPort)

/-! ### Taking and the evaluations (Orders) -/

/-- A POSTED slot that is accepted stays listed (R26, R30). -/
theorem acceptSlot {p : PageId} {x : SlotId} (h : u.ListsShrink w) (hx : (w.slot p x).state = .posted) : u.ListsShrink (w.acceptSlot p x) :=
  h.modSlot (by rw [hx]; rfl)

theorem acceptDispense {n : LaneId} {x : SlotId} (h : u.ListsShrink w) (hx : (w.slot (lanePage n) x).state = .posted) :
    u.ListsShrink (w.acceptDispense n x) := by
  have reserved : u.ListsShrink (w.reserve ((w.orderMix (w.slot (lanePage n) x)).getD Counts.zero)) := h.of_pages rfl
  exact requestDrawer (modEngine (modSlot (modEngine reserved) (by
    show SlotState.listed .accepted = (w.slot (lanePage n) x).state.listed
    rw [hx]; rfl)))

theorem acceptLane {n : LaneId} {x : SlotId} {k : Kind} (h : u.ListsShrink w) (hx : (w.slot (lanePage n) x).state = .posted) :
    u.ListsShrink (w.acceptLane n x k) := by
  unfold Wall.acceptLane
  split
  · exact h.acceptDispense hx
  · exact (h.acceptSlot hx).requestDrawer
  · exact (h.acceptSlot hx).requestDrawer
  · exact (h.acceptSlot hx).pocketMove.joinQueue
  · exact (h.acceptSlot hx).pocketMove.requestDrawer
  · exact h.modLane.finish
  · unfold Wall.acceptLaneClose
    split
    · exact h.modLane.startWork
    · exact h.startWork
    · exact h.finish
    · exact h.finish
  · exact h

theorem emptyBin {x : SlotId} {k : BinId} (h : u.ListsShrink w) : u.ListsShrink (w.emptyBin x k) := h.modBin.finish

theorem resetDrawer {x : SlotId} {n : LaneId} (h : u.ListsShrink w) : u.ListsShrink (w.resetDrawer x n) := ite h.modLane.finish h.startClose

theorem acceptCassetteClear {x : SlotId} {c : CassId} (h : u.ListsShrink w) : u.ListsShrink (w.acceptCassetteClear x c) :=
  (ite h.modCassette.enterCassetteState h).finish

theorem acceptZoneArm {x : SlotId} {z : ZoneId} (h : u.ListsShrink w) : u.ListsShrink (w.acceptZoneArm x z) :=
  (ite h.modZone.refreshOutputs h).finish

theorem acceptZoneDisarm {x : SlotId} {z : ZoneId} (h : u.ListsShrink w) : u.ListsShrink (w.acceptZoneDisarm x z) := by
  unfold Wall.acceptZoneDisarm
  refine finish ?_
  split
  · exact h.zoneExit
  · exact h.modZone.refreshOutputs
  · exact h.modZone.refreshOutputs
  · exact h

theorem acceptService {x : SlotId} {k : Kind} {y : Slot} (h : u.ListsShrink w) : u.ListsShrink (w.acceptService x k y) := by
  unfold Wall.acceptService
  split
  · exact h.modCassette.enterCassetteState.finish
  · exact h.acceptCassetteClear
  · exact ite (ite h.emptyBin.reloadStranded h.emptyBin) h.emptyBin.transportGrant
  · exact ite h.startWork.startClearance (ite h.startWork.startConveyorClearance h.startWork.resetDrawer)
  · exact h.acceptZoneArm
  · exact h.acceptZoneDisarm
  · exact (ite h.zoneExit h).finish
  · exact (ite h.modAlarm.post h).finish
  · exact h.setHold.finish
  · exact h.setHold.finish
  · exact h.startWork.modProfile
  · exact h.load.applyProfile.finish
  · exact h.modPort.finish
  · exact h

theorem take {p : PageId} {x : SlotId} (h : u.ListsShrink w) (hx : (w.slot p x).state = .posted) : u.ListsShrink (w.take p x) := by
  unfold Wall.take
  split
  · exact h.refuse
  · split
    · exact h
    · split
      · next n hn =>
        obtain rfl : p = lanePage n := laneOf_eq_some.mp hn
        exact h.acceptLane hx
      · exact h.acceptService

theorem evaluateOnce (h : u.ListsShrink w) (e : w.evaluateOnce = some v) : u.ListsShrink v := by
  rcases Wall.evaluateOnce_cases e with ⟨n, -, rfl⟩ | ⟨-, ⟨n, x, -, rfl⟩ | ⟨-, p, x, hx, rfl⟩⟩
  · exact h.settleLane
  · exact h.grantDrawer
  · exact h.take (Wall.nextTake_posted hx)

theorem evaluate (h : u.ListsShrink w) : u.ListsShrink w.evaluate :=
  Wall.evaluate_keeps (P := u.ListsShrink) (fun _ _ h e => h.evaluateOnce e) h

end Wall.ListsShrink
end Sys2Proof.Machine
end


section
namespace Sys2Proof.Machine
namespace Wall.ListsShrink
variable {u v w : Wall}

/-! ### Cancels (Cancel) -/

theorem cancelDispense {n : LaneId} {x : SlotId} (h : u.ListsShrink w) : u.ListsShrink (w.cancelDispense n x) := by
  unfold Wall.cancelDispense
  dsimp only
  split
  · exact h.answerCancel
  · refine ite h.answerCancel (ite h.refuseCancel ?_)
    split
    · exact h.answerCancel.beginEnd.finishDispense
    · exact h.answerCancel.beginEnd.dropRequest.finishDispense
    · exact h.answerCancel.beginEnd
    · exact h.answerCancel.beginEnd
    · exact h.answerCancel.beginEnd
    · exact h.answerCancel.beginEnd.closeByOwner
    · exact h.refuseCancel

theorem cancelRetract {n : LaneId} {x : SlotId} (h : u.ListsShrink w) : u.ListsShrink (w.cancelRetract n x) :=
  ite h.answerCancel.finish (ite h.answerCancel.dropRetract h.refuseCancel)

theorem cancelDeposit {n : LaneId} {x : SlotId} (h : u.ListsShrink w) : u.ListsShrink (w.cancelDeposit n x) := by
  unfold Wall.cancelDeposit
  refine ite h.answerCancel.finish (ite h ?_)
  split
  · exact (h.modSlot rfl).closeByOwner
  · exact (h.modSlot rfl).closeByOwner
  · exact (h.modSlot rfl).closeByOwner
  · exact h.refuseCancel

theorem cancelCapture {n : LaneId} {x : SlotId} (h : u.ListsShrink w) : u.ListsShrink (w.cancelCapture n x) :=
  ite h.answerCancel.leaveQueue.pocketHeld.finish h.refuseCancel

theorem cancelReturn {n : LaneId} {x : SlotId} (h : u.ListsShrink w) : u.ListsShrink (w.cancelReturn n x) :=
  ite h.answerCancel.leaveQueue.pocketHeld.finish (ite h.answerCancel.pocketHeld.finish h.refuseCancel)

theorem cancelOrder {p : PageId} {x : SlotId} (h : u.ListsShrink w) : u.ListsShrink (w.cancelOrder p x) := by
  unfold Wall.cancelOrder
  split
  · exact h.refuseCancel
  · refine ite h.refuseCancel ?_
    split
    · exact h.cancelDispense
    · exact h.cancelRetract
    · exact h.cancelDeposit
    · exact h.cancelCapture
    · exact h.cancelReturn
    · exact h.refuseCancel

theorem cancelEvent {p : PageId} {x : SlotId} (h : u.ListsShrink w) : u.ListsShrink (w.cancelEvent p x) := by
  unfold Wall.cancelEvent
  cases (w.slot p x).state with
  | posted => exact (h.closeSlot rfl).answerCancel
  | accepted => exact h.cancelOrder
  | running => exact h.cancelOrder
  | held => exact h.cancelOrder
  | empty => exact h.answerCancel
  | finished => exact h.answerCancel
  | refused => exact h.answerCancel

theorem flagEvent {k : Fin 16} {i : Nat} (h : u.ListsShrink w) : u.ListsShrink (w.flagEvent k i) :=
  ite h.cancelEvent (ite h.acknowledge h)

theorem setFlags {k : Fin 16} {mask : Word} (h : u.ListsShrink w) : u.ListsShrink (w.setFlags k mask) := by
  unfold Wall.setFlags
  extract_lets old new done
  have acted : u.ListsShrink done := h.modFlag.foldl (fun _ h => h.flagEvent) _
  exact ite acted.evaluate acted

/-! ### RUN, the wall reset and power-on (StartUp) -/

theorem run (h : u.ListsShrink w) : u.ListsShrink w.run :=
  ite h (evaluate (ite (h.modPort.modPort.startClearance.startConveyorClearance.eachLane fun _ h => h.modPocket) h.modPort))

/-- Where every slot is unlisted and every list empty the law of R26 holds. -/
theorem of_empty (hs : ∀ p x, (v.slot p x).state.listed = false) (hp : ∀ p, (v.pages.get p).posting = []) : u.ListsShrink v where
  law _ p := by simp [hp, hs]
  sub p := by simp [hp]

/-- A wall reset discards every order, POSTED ones too (R45). -/
theorem discardSlots : u.ListsShrink w.discardSlots := by
  refine of_empty (fun p x => ?_) fun p => by simp [Wall.discardSlots]
  simp only [Wall.discardSlots, Wall.slot, tabMap_get]
  split
  · next h => rw [h]; rfl
  · rfl

theorem clearBoard {k : Nat} (h : u.ListsShrink w) : u.ListsShrink (w.clearBoard k) := by
  unfold Wall.clearBoard
  extract_lets w1 w2
  have cleared : u.ListsShrink w1 := h.of_pages rfl
  have told : u.ListsShrink w2 := ite cleared.post cleared
  exact ite told.modPort.post told

theorem wallReset : u.ListsShrink w.wallReset := by
  unfold Wall.wallReset
  extract_lets w1
  have discarded : u.ListsShrink w.abandon.discard := of_pages (discardSlots (w := w.abandon)) rfl
  have cleared : u.ListsShrink w1 := discarded.clearBoard.refreshForced
  exact cleared.modPort.load.applyProfile

theorem reset : u.ListsShrink Wall.reset := of_empty (by decide) (by decide)

/-- Power-on empties every slot and every list, from whatever the wall was (R44). -/
theorem powerOnWall {i : WallInputs} {stored : Vector Word 64} {cutShort : Nat} : u.ListsShrink (Machine.powerOnWall i stored cutShort) := by
  unfold Machine.powerOnWall
  extract_lets base blank w points w1 w2
  have empty : u.ListsShrink blank := reset.of_pages rfl
  have loaded : u.ListsShrink w := empty.load
  have set : u.ListsShrink w1 := loaded.of_pages rfl
  have lanes : u.ListsShrink w2 := set.eachLane fun _ h => h.applyLockout
  exact refreshOutputs (lanes.foldl (fun _ h => h.startWatch) zoneIds)

end Wall.ListsShrink

/-! ### The posting event, and every command -/

/-- Between two walls the law of R26 has been kept, and each posting list has lost slots, or was joined first by one slot that was EMPTY. -/
structure Wall.ListsMove (u v : Wall) : Prop where
  law : u.postingLaw → v.postingLaw
  joined : ∀ p, ∃ j : List SlotId,
    (v.pages.get p).posting.Sublist ((u.pages.get p).posting ++ j) ∧ j.length ≤ 1 ∧ ∀ x ∈ j, (u.slot p x).state = .empty

theorem Wall.ListsShrink.move {u v : Wall} (h : u.ListsShrink v) : u.ListsMove v :=
  ⟨h.law, fun p => ⟨[], by simpa using h.sub p, by simp, by simp⟩⟩

theorem Wall.ListsMove.shrink {u v w : Wall} (h : u.ListsMove v) (h' : v.ListsShrink w) : u.ListsMove w where
  law hu := h'.law (h.law hu)
  joined p := by
    obtain ⟨j, hj, hl, he⟩ := h.joined p
    exact ⟨j, (h'.sub p).trans hj, hl, he⟩

/-- A posting event puts the slot at the tail of its page's list, and changes no other list (R26). -/
theorem Wall.postSlot_posting (p q : PageId) (x : SlotId) (w : Wall) :
    ((w.postSlot p x).pages.get q).posting = if q = p then (w.pages.get q).posting ++ [x] else (w.pages.get q).posting := by
  rw [Wall.postSlot, Wall.modPage_posting p q (fun l => l ++ [x]), Wall.modSlot_posting]

@[simp] theorem Wall.postSlot_slot (p : PageId) (x : SlotId) (w : Wall) : (w.postSlot p x).slot p x = { w.slot p x with state := .posted } := by
  rw [Wall.postSlot, Wall.modPage_posting_slot, Wall.modSlot_slot_same]

theorem Wall.postSlot_other {p q : PageId} {x y : SlotId} (w : Wall) (h : (q, y) ≠ (p, x)) : (w.postSlot p x).slot q y = w.slot q y := by
  rw [Wall.postSlot, Wall.modPage_posting_slot, Wall.modSlot_slot_other _ _ h]

/-- A posting event into an EMPTY slot, which the list does not hold, keeps the law of R26. -/
theorem Wall.postSlot_move {p : PageId} {x : SlotId} {w : Wall} (hx : (w.slot p x).state = .empty) : w.ListsMove (w.postSlot p x) where
  law hw q := by
    rw [Wall.postSlot_posting]
    by_cases hq : q = p
    · subst hq
      have out : x ∉ (w.pages.get q).posting := by rw [(hw q).2 x, hx]; decide
      rw [if_pos rfl]
      refine ⟨List.nodup_append.mpr ⟨(hw q).1, List.nodup_singleton x, fun a ha b hb => ?_⟩, fun y => ?_⟩
      · rw [List.mem_singleton.mp hb]
        exact fun e => out (e ▸ ha)
      · by_cases hy : y = x
        · subst hy
          simp [SlotState.listed]
        · rw [Wall.postSlot_other w fun e => hy (Prod.mk.inj e).2, ← (hw q).2 y]
          simp [hy]
    · rw [if_neg hq]
      refine ⟨(hw q).1, fun y => ?_⟩
      rw [Wall.postSlot_other w fun e => hq (Prod.mk.inj e).1, (hw q).2 y]
  joined q := by
    rw [Wall.postSlot_posting]
    by_cases hq : q = p
    · subst hq
      exact ⟨[x], by simp, by simp, by simpa using hx⟩
    · exact ⟨[], by simp [hq], by simp, by simp⟩

/-- A write to a word of an EMPTY slot's body leaves the slot EMPTY. -/
theorem Wall.ListsShrink.modBody {u w : Wall} {p : PageId} {x : SlotId} {b : Vector Word 14} (h : u.ListsShrink w) :
    u.ListsShrink (w.modSlot p x fun y => { y with body := b }) := h.modSlot rfl

theorem Wall.place_move (p : PageId) (x : SlotId) (k : Kind) (tag : Word) (params : List Word) (w : Wall) :
    w.ListsMove (w.place p x k tag params) := by
  unfold Wall.place
  split
  · next hx =>
    have written : w.ListsShrink (w.modSlot p x fun y => { y with body := orderBody k tag params }) := (Wall.ListsShrink.refl w).modBody
    have empty : ((w.modSlot p x fun y => { y with body := orderBody k tag params }).slot p x).state = .empty := by
      rw [Wall.modSlot_slot_same]; exact hx
    have posted := Wall.postSlot_move empty
    refine Wall.ListsMove.shrink ⟨fun hw => posted.law (written.law hw), fun q => ?_⟩ (Wall.ListsShrink.refl _).evaluate
    obtain ⟨j, hj, hl, he⟩ := posted.joined q
    rw [Wall.modSlot_posting] at hj
    refine ⟨j, hj, hl, fun y hy => ?_⟩
    have := he y hy
    by_cases e : (q, y) = (p, x)
    · obtain ⟨rfl, rfl⟩ := Prod.mk.inj e
      exact hx
    · rwa [Wall.modSlot_slot_other _ _ e] at this
  · exact (((Wall.ListsShrink.refl w).foldl (fun _ h => h.slip) _).slip).move

theorem Wall.writeSlotState_move (p : PageId) (x : SlotId) (k : Word) (w : Wall) : w.ListsMove (w.writeSlotState p x k) := by
  unfold Wall.writeSlotState
  dsimp only
  split
  · next h => exact (Wall.postSlot_move h.2).shrink (Wall.ListsShrink.refl _).evaluate
  · split
    · next h =>
      refine Wall.ListsShrink.move ((Wall.ListsShrink.refl w).modSlot ?_)
      obtain ⟨-, ended⟩ := h
      cases e : (w.slot p x).state <;> rw [e] at ended <;> first | rfl | exact absurd ended (by decide)
    · exact (Wall.ListsShrink.refl w).slip.move

end Sys2Proof.Machine
end


section
namespace Sys2Proof.Machine

/-- Whatever a command answers, its posting lists have moved as R26 says. -/
def State.ListsMove (s : State) (o : Result) : Prop := ∀ t, o = .next t → s.wall.ListsMove t.wall

namespace State.ListsMove
variable {s : State}

theorem next {t : State} (h : s.wall.ListsMove t.wall) : s.ListsMove (.next t) := by
  rintro u e
  obtain rfl := Host.Outcome.next.inj e
  exact h

theorem next_same {t : State} (h : t.wall = s.wall) : s.ListsMove (.next t) :=
  next (h ▸ (Wall.ListsShrink.refl s.wall).move)

theorem onWall {f : Wall → Wall} (h : s.wall.ListsShrink (f s.wall)) : s.ListsMove (s.onWall f) := by
  unfold State.onWall
  split
  · exact next h.move
  · exact next_same rfl

/-- A meaning that ends with the evaluations. -/
theorem evaluated {f : Wall → Wall} (h : s.wall.ListsShrink (f s.wall)) : s.ListsMove (s.onWall fun w => (f w).evaluate) := onWall h.evaluate

theorem onBus {f : Wall → Wall} (h : s.wall.ListsMove (f s.wall)) : s.ListsMove (s.onBus f) := by
  unfold State.onBus
  split
  · exact next h
  · exact next_same rfl

end State.ListsMove

theorem Wall.ListsShrink.whenSome {α : Type} {f : α → Wall → Wall} {u w : Wall} (a : Option α) (h : u.ListsShrink w)
    (hf : ∀ a, u.ListsShrink (f a w)) : u.ListsShrink (w.whenSome a f) := by
  cases a with
  | none => exact h
  | some a => exact hf a

theorem Wall.writeBody_shrink (p : PageId) (x : SlotId) (i : Fin 14) (k : Word) (w : Wall) : w.ListsShrink (w.writeBody p x i k) :=
  .ite ((Wall.ListsShrink.refl w).modSlot rfl) (Wall.ListsShrink.refl w).slip

theorem Wall.writeEntry_shrink (e : Fin 48) (k : Word) (w : Wall) : w.ListsShrink (w.writeEntry e k) := by
  have blanked : w.ListsShrink { w with board := tabSet w.board e Entry.blank } := (Wall.ListsShrink.refl w).of_pages rfl
  refine .ite ((Wall.ListsShrink.refl w).of_pages rfl) (.ite ?_ (Wall.ListsShrink.refl w).slip)
  exact .ite blanked.modPort blanked

theorem Wall.writeRunControl_shrink (k : Word) (w : Wall) : w.ListsShrink (w.writeRunControl k) :=
  .ite .wallReset (.ite (Wall.ListsShrink.refl w).run (Wall.ListsShrink.refl w).modPort)

/-- A host write moves the posting lists by a posting event alone (R23, R159). -/
theorem Wall.hostWrite_move (a : Nat) (k : Word) (w : Wall) : w.ListsMove (w.hostWrite a k) := by
  have h := Wall.ListsShrink.refl w
  unfold Wall.hostWrite
  split
  · exact Wall.writeSlotState_move _ _ _ w
  · exact (Wall.writeBody_shrink _ _ _ _ w).move
  · exact (Wall.writeEntry_shrink _ _ w).move
  · exact h.modProfile.move
  · exact h.setFlags.move
  · exact h.modFlag.move
  · exact (Wall.writeRunControl_shrink k w).move
  · exact h.modPort.move
  · exact h.slip.move
  · exact h.move
  · exact h.move

theorem State.busRead_wall (a : Nat) (s : State) : (s.busRead a).wall = s.wall := by
  unfold State.busRead
  split
  · rfl
  · split
    · split
      · split <;> rfl
      · rfl
    · rfl

/-- A host read moves nothing. -/
theorem State.ListsMove.busRead (a : Nat) (s : State) : s.ListsMove (if s.supply then .next (s.busRead a) else .next s) := by
  split
  · exact .next_same (s.busRead_wall a)
  · exact .next_same rfl

/-! The events at the lanes, the cassettes, the path and the points. -/

namespace Wall.ListsShrink
variable {u w : Wall}

theorem stowedAsserts {n : LaneId} (h : u.ListsShrink w) : u.ListsShrink (w.stowedAsserts n) := by
  unfold Wall.stowedAsserts
  extract_lets l w0 w1 w2
  have seated : u.ListsShrink w2 := (Wall.ListsShrink.ite h.restartSilence h).modLane.refreshForced
  exact .ite seated.arriveStowed seated

theorem liftEnds {n : LaneId} (h : u.ListsShrink w) : u.ListsShrink (w.liftEnds n) := by
  unfold Wall.liftEnds
  refine .ite ?_ h
  split
  · unfold Wall.liftedToPocket
    dsimp only
    split
    · exact h.modLane
    · split
      · exact h.modLane.pocketHeld.finish
      · exact h.modLane.pocketMove.modPocket.joinQueue.leaveDrawer
      · exact h.modLane
  · unfold Wall.liftedToDrawer
    dsimp only
    split
    · exact h.modLane.startTake.closeByOwner
    · exact h.modLane.startTake
  · exact h

theorem stowedClears {n : LaneId} (h : u.ListsShrink w) : u.ListsShrink (w.stowedClears n) :=
  .ite (.ite h.modLane h.modLane.refreshForced) h

theorem programmingEnds (h : u.ListsShrink w) : u.ListsShrink w.programmingEnds := by
  unfold Wall.programmingEnds
  split
  · exact .ite h h.endProgramming
  · exact h

theorem encoderLost (h : u.ListsShrink w) : u.ListsShrink w.encoderLost := by
  unfold Wall.encoderLost
  exact .ite h.transportFault h

theorem stableChange {p : Fin 12} (h : u.ListsShrink w) : u.ListsShrink (w.stableChange p) := by
  unfold Wall.stableChange
  exact .ite h h.changeLive

theorem sendPress {n : LaneId} (h : u.ListsShrink w) : u.ListsShrink (w.sendPress n) := by
  unfold Wall.sendPress
  exact .ite h.startClose h

theorem extendedAsserts {n : LaneId} (h : u.ListsShrink w) : u.ListsShrink (w.extendedAsserts n) := by
  unfold Wall.extendedAsserts
  exact .ite h.modLane.arriveExtended h.modLane

theorem obstruction {n : LaneId} (h : u.ListsShrink w) : u.ListsShrink (w.obstruction n) := by
  unfold Wall.obstruction
  exact .ite h.modLane.obstruct h.modLane

theorem windowExpires {n : LaneId} (h : u.ListsShrink w) : u.ListsShrink (w.windowExpires n) := by
  unfold Wall.windowExpires
  exact .ite h.startClose h

theorem takeExpires {n : LaneId} (h : u.ListsShrink w) : u.ListsShrink (w.takeExpires n) := by
  unfold Wall.takeExpires
  exact .ite (.ite h.startClose h.modLane.startClose) h

theorem depositExpires {n : LaneId} (h : u.ListsShrink w) : u.ListsShrink (w.depositExpires n) := by
  unfold Wall.depositExpires
  exact .ite h.startClose h

theorem travelOverrun {n : LaneId} (h : u.ListsShrink w) : u.ListsShrink (w.travelOverrun n) := by
  unfold Wall.travelOverrun
  exact .ite h.jamDrawer h

theorem liftOverrun {n : LaneId} {e i : Bool} (h : u.ListsShrink w) : u.ListsShrink (w.liftOverrun n e i) := by
  unfold Wall.liftOverrun
  exact .ite h.modLane.jamDrawer h

theorem forcedEnds {n : LaneId} (h : u.ListsShrink w) : u.ListsShrink (w.forcedEnds n) := by
  unfold Wall.forcedEnds
  exact .ite h.stowedAsserts h

theorem holdLimitExpires {n : LaneId} (h : u.ListsShrink w) : u.ListsShrink (w.holdLimitExpires n) := by
  unfold Wall.holdLimitExpires
  exact .ite h.expireHoldLimit h

theorem removeCassette {c : CassId} (h : u.ListsShrink w) : u.ListsShrink (w.removeCassette c) := by
  unfold Wall.removeCassette
  exact .ite h.modCassette.enterCassetteState h

theorem insertCassette {c : CassId} (h : u.ListsShrink w) : u.ListsShrink (w.insertCassette c) := by
  unfold Wall.insertCassette
  exact .ite h h.modCassette

theorem trailing (h : u.ListsShrink w) : u.ListsShrink (w.trailing) := by
  unfold Wall.trailing
  exact h.modGate.closePassage.modGate.checkEnding

theorem missed (h : u.ListsShrink w) : u.ListsShrink (w.missed) := by
  unfold Wall.missed
  exact .ite h.declareMiss.checkEnding h

theorem entryExpires {z : ZoneId} (h : u.ListsShrink w) : u.ListsShrink (w.entryExpires z) := by
  unfold Wall.entryExpires
  exact .ite h.zoneAlarm h

theorem sirenExpires {z : ZoneId} (h : u.ListsShrink w) : u.ListsShrink (w.sirenExpires z) := by
  unfold Wall.sirenExpires
  exact h.modZone.refreshOutputs

end Wall.ListsShrink

/-- Every command moves the posting lists as R26 says: an order row and a posting event join one slot, every other command takes slots out at most. -/
theorem exec_listsMove (c : Instr) (s : State) : s.ListsMove (exec c s) := by
  have h := Wall.ListsShrink.refl s.wall
  cases c with
  | powerOn i => exact .next Wall.ListsShrink.powerOnWall.move
  | hostWrite a k =>
    show s.ListsMove (if s.supply then .next (s.busWrite a.toNat k) else .next s)
    split
    · unfold State.busWrite
      split
      · exact .next_same rfl
      · exact .next (Wall.hostWrite_move _ k s.wall)
    · exact .next_same rfl
  | postingEvent p x => exact .onBus (Wall.writeSlotState_move p x _ s.wall)
  | giveBack p x => exact .onBus (Wall.writeSlotState_move p x _ s.wall)
  | orderBodyWrite p x i k => exact .onBus (Wall.writeBody_shrink p x i k s.wall).move
  | flagSetAlias k mask => exact .onBus h.setFlags.move
  | flagClearAlias k mask => exact .onBus h.modFlag.move
  | entrySeen e => exact .onBus (Wall.writeEntry_shrink e _ s.wall).move
  | entryFree e => exact .onBus (Wall.writeEntry_shrink e _ s.wall).move
  | counterHighRead k => exact .busRead _ s
  | counterLowRead k => exact .busRead _ s
  | run => exact .onBus (Wall.writeRunControl_shrink _ s.wall).move
  | halt => exact .onBus (Wall.writeRunControl_shrink _ s.wall).move
  | wallReset b => exact .onBus (Wall.writeRunControl_shrink _ s.wall).move
  | attentionMaskWrite k => exact .onBus h.modPort.move
  | dispense n x tag mode amount c0 c1 c2 c3 => exact .onBus (Wall.place_move _ _ _ _ _ s.wall)
  | retract n x tag => exact .onBus (Wall.place_move _ _ _ _ _ s.wall)
  | deposit n x tag => exact .onBus (Wall.place_move _ _ _ _ _ s.wall)
  | capture n x tag => exact .onBus (Wall.place_move _ _ _ _ _ s.wall)
  | returnOrder n x tag => exact .onBus (Wall.place_move _ _ _ _ _ s.wall)
  | laneOpen n x tag => exact .onBus (Wall.place_move _ _ _ _ _ s.wall)
  | laneClose n x tag => exact .onBus (Wall.place_move _ _ _ _ _ s.wall)
  | countSet x tag c l => exact .onBus (Wall.place_move _ _ _ _ _ s.wall)
  | cassetteClear x tag c => exact .onBus (Wall.place_move _ _ _ _ _ s.wall)
  | binReset x tag b => exact .onBus (Wall.place_move _ _ _ _ _ s.wall)
  | pathReset x tag m => exact .onBus (Wall.place_move _ _ _ _ _ s.wall)
  | zoneArm x tag z => exact .onBus (Wall.place_move _ _ _ _ _ s.wall)
  | zoneDisarm x tag z => exact .onBus (Wall.place_move _ _ _ _ _ s.wall)
  | zoneReset x tag z => exact .onBus (Wall.place_move _ _ _ _ _ s.wall)
  | lockdownClear x tag => exact .onBus (Wall.place_move _ _ _ _ _ s.wall)
  | holdWall x tag => exact .onBus (Wall.place_move _ _ _ _ _ s.wall)
  | releaseWall x tag => exact .onBus (Wall.place_move _ _ _ _ _ s.wall)
  | profileCommit x tag => exact .onBus (Wall.place_move _ _ _ _ _ s.wall)
  | profileLoad x tag => exact .onBus (Wall.place_move _ _ _ _ _ s.wall)
  | clockSet x tag hi lo => exact .onBus (Wall.place_move _ _ _ _ _ s.wall)
  | programmingEnd => exact .evaluated h.programmingEnds
  | callButtonPress n => exact .onWall h.modFlag
  | sendButtonPress n => exact .onWall h.sendPress
  | extendedSensorReached n => exact .onWall h.extendedAsserts
  | stowedSensorReached n => exact .evaluated h.stowedAsserts
  | drawerObstruction n => exact .evaluated h.obstruction
  | obstructionCleared n => exact .onWall h.modLane
  | itemSensorChange n b => exact .onWall h.modLane
  | clearWindowExpiry n => exact .onWall h.windowExpires
  | takeTimerExpiry n => exact .onWall h.takeExpires
  | depositTimerExpiry n => exact .onWall h.depositExpires
  | travelBudgetOverrun n => exact .evaluated h.travelOverrun
  | liftComplete n => exact .evaluated h.liftEnds
  | liftOverrun n e i => exact .evaluated h.liftOverrun
  | drawerForced n => exact .evaluated h.stowedClears
  | forcedMarkCleared n => exact .evaluated h.forcedEnds
  | cassetteRemoval c => exact .onWall h.removeCassette
  | cassetteInsertion c => exact .onWall h.insertCassette
  | pickRelease => exact .onWall (h.whenSome _ fun _ => h.releasePick)
  | leadingEdge => exact .onWall h.gateLeading
  | trailingEdge => exact .evaluated h.trailing
  | miss => exact .evaluated h.missed
  | diverterLeadingEdge => exact .evaluated (f := fun w => w.diverterLeading.checkEnding) h.diverterLeading.checkEnding
  | diverterTrailingEdge => exact .onWall h.modGate
  | encoderLoss => exact .evaluated h.encoderLost
  | encoderRestored => exact .onWall h.endLoss
  | exitLeadingEdge => exact .evaluated h.exitEdge
  | transportJam => exact .onWall (.ite h.transportFault.evaluate h)
  | remix => exact .evaluated (h.whenSome _ fun _ => h.remixLane)
  | deliveryStart => exact .onWall (h.whenSome _ fun _ => h.startDelivery)
  | deliveryEnd => exact .evaluated (h.whenSome _ fun _ => h.endDelivery)
  | deliveryOverrun b => exact .evaluated (h.whenSome _ fun _ => h.modLane.transportFault)
  | purgeStart => exact .onWall (h.whenSome _ fun _ => h.startPurge)
  | purgeEnd => exact .evaluated (h.whenSome _ fun _ => h.endDump)
  | clearanceBeltEnd => exact .onWall (.ite h.modTransport h)
  | sweepEnd => exact .onWall (h.whenSome _ fun _ => h.endSweep)
  | sweepStall => exact .evaluated (h.whenSome _ fun _ => h.stallSweep)
  | retractEnd => exact .evaluated (h.whenSome _ fun _ => h.endRetract)
  | holdLimitExpiry n => exact .onWall h.holdLimitExpires
  | servingEvaluation => exact .onWall (h.whenSome _ fun _ => h.serve)
  | conveyorExit => exact .evaluated h.conveyorExit
  | carryOverrun => exact .evaluated (h.whenSome _ fun _ => h.overrunCarry)
  | conveyorClearanceEnd => exact .onWall (.ite h.endConveyorClearance.evaluate h)
  | rawInputChange p => exact .onWall h.modPoint
  | liveChange p => exact .evaluated h.stableChange
  | entryDelayExpiry z => exact .evaluated h.entryExpires
  | sirenTimerExpiry z => exact .onWall h.sirenExpires
  | holdLineOn => exact .evaluated (f := fun w => w.setHold true w.port.orderCause) h.setHold
  | holdLineOff => exact .evaluated (f := fun w => w.setHold false w.port.orderCause) h.setHold
  | wallSecond => exact .onWall h.modPort
  | encoderRisingEdge k => exact .onWall h.pulse
  | hostRead a => exact .busRead _ s
  | supplyFailure =>
    refine .next (Wall.ListsShrink.move ?_)
    unfold State.powerDown
    split
    · exact h.modProfile
    · exact h

/-- So does every step: 10 ms of the timers touch no slot. -/
theorem step_listsMove (s : State) : s.ListsMove (step s) := by
  unfold step
  split
  · next c rest _ => exact exec_listsMove c { s with pending := rest }
  · unfold idle
    split
    · split
      · next c _ => exact exec_listsMove c s
      · exact .next (Wall.ListsShrink.of_pages (v := s.wall.tick) (.refl s.wall) rfl).move
    · exact .next_same rfl

/-- A list that has lost entries, and was joined at its tail by entries it did not hold, is its old entries in their order and then the new ones. -/
theorem eq_kept_append_joined {α : Type} [DecidableEq α] {old new j : List α} (hn : (old ++ j).Nodup) (hs : new.Sublist (old ++ j)) :
    new = old.filter (fun x => new.contains x) ++ new.filter (fun x => !old.contains x)
      ∧ (new.filter fun x => !old.contains x).Sublist j := by
  obtain ⟨kept, joined, rfl, hk, hj⟩ := List.sublist_append_iff.mp hs
  obtain ⟨nodup, -, apart⟩ := List.nodup_append.mp hn
  have fresh : ∀ x ∈ joined, x ∉ old := fun x hx ho => apart x ho x (hj.subset hx) rfl
  have old_kept : old.filter (fun x => (kept ++ joined).contains x) = kept := by
    have same : old.filter (fun x => (kept ++ joined).contains x) = old.filter fun x => kept.contains x := by
      refine List.filter_congr fun x hx => ?_
      have : x ∉ joined := fun h => fresh x h hx
      simp [this]
    rw [same]
    refine (List.Sublist.eq_of_length_le ?_ ?_).symm
    · simpa [List.filter_eq_self.mpr] using hk.filter fun x => kept.contains x
    · exact ((nodup.filter _).subperm fun x hx => by simpa using (List.mem_filter.mp hx).2).length_le
  have new_joined : (kept ++ joined).filter (fun x => !old.contains x) = joined := by
    rw [List.filter_append, List.filter_eq_nil_iff.mpr, List.filter_eq_self.mpr, List.nil_append]
    · exact fun x hx => by simpa using fresh x hx
    · exact fun x hx => by simpa using hk.subset hx
  exact ⟨by rw [old_kept, new_joined], by rw [new_joined]; exact hj⟩

/-- Lists that move as R26 says stay in posting order. -/
theorem Wall.ListsMove.postedInOrder {u v : Wall} (h : u.ListsMove v) (hu : u.postingLaw) (p : PageId) : u.postedInOrder v p := by
  obtain ⟨j, hs, hl, he⟩ := h.joined p
  have out : ∀ x ∈ j, x ∉ (u.pages.get p).posting := fun x hx ho => by
    have listed := ((hu p).2 x).mp ho
    rw [he x hx] at listed
    exact absurd listed (by decide)
  have nodup : ((u.pages.get p).posting ++ j).Nodup := by
    refine List.nodup_append.mpr ⟨(hu p).1, ?_, fun a ha b hb e => out b hb (e ▸ ha)⟩
    match j, hl with
    | [], _ => exact List.nodup_nil
    | [x], _ => exact List.nodup_singleton x
  obtain ⟨eq, joined⟩ := eq_kept_append_joined nodup hs
  refine ⟨eq, joined.length_le.trans hl, fun x hx ho => he x (joined.subset ?_)⟩
  simpa using ⟨hx, ho⟩

/-- Settles O10: every operation of the model takes slots out of the lists at most, and the posting event joins one EMPTY slot at the tail. -/
theorem postingListsStayExact : Obligations.PostingListsStayExact := by
  unfold Obligations.PostingListsStayExact
  intro s hs t ht
  have moved := step_listsMove s t ht
  exact ⟨moved.law hs, moved.postedInOrder hs⟩

end Sys2Proof.Machine
end

section
/-! PROOF. The state right after power-on (O4): the slots are EMPTY, so no order is listed, in progress or holds a reservation, and the board holds PROFILE
DEFAULTED alone. -/

namespace Sys2Proof.Machine

/-- After power-on a vector of equal records holds that record everywhere. -/
theorem replicate_get {α : Type} {n : Nat} (a : α) (i : Fin n) : (Vector.replicate n a).get i = a := by
  show (Vector.replicate n a)[i.val] = a
  simp

theorem reset_page (p : PageId) : State.reset.wall.pages.get p = Page.reset := replicate_get Page.reset p

theorem reset_slot (p : PageId) (x : SlotId) : State.reset.wall.slot p x = Slot.reset := by
  rw [Wall.slot, reset_page]
  exact replicate_get Slot.reset x

theorem reset_cassette (c : CassId) : State.reset.wall.cassettes.get c = Cassette.reset := replicate_get Cassette.reset c

/-- The board holds entry 0 alone. -/
theorem reset_board_free {e : Fin 48} (h : (State.reset.wall.board.get e).state ≠ .free) : e = 0 := by
  by_contra he
  have blank : State.reset.wall.board.get e = Entry.blank := (tabSet_get_other _ _ he).trans (replicate_get _ e)
  exact h (by rw [blank]; rfl)

theorem reset_orderOf (n : LaneId) (k : Kind) : State.reset.wall.orderOf n k = none := by
  cases h : State.reset.wall.orderOf n k with
  | none => rfl
  | some x =>
    have running := (Wall.orderOf_some h).1
    rw [reset_slot] at running
    exact absurd running (by decide)

theorem reset_owed (n : LaneId) (c : CassId) : (State.reset.wall.owed n).get c = 0 := by
  rw [Wall.owed, reset_orderOf]
  exact replicate_get 0 c

theorem reset_uniqueKeys : State.reset.wall.uniqueKeys := fun _ _ ha hb _ => (reset_board_free ha).trans (reset_board_free hb).symm

theorem reset_lockdownLaw : State.reset.wall.lockdownLaw := by
  unfold Wall.lockdownLaw
  decide

theorem reset_referencesInRange : State.reset.wall.referencesInRange := by
  intro c
  rw [reset_cassette]
  revert c
  decide

theorem reset_postingLaw : State.reset.wall.postingLaw := by
  intro p
  rw [reset_page]
  refine ⟨List.nodup_nil, fun x => ?_⟩
  rw [reset_slot]
  exact iff_of_false (List.not_mem_nil) (by decide)

theorem reset_reservationLaw : State.reset.wall.reservationLaw := by
  refine ⟨fun n x _ hx _ _ _ => ?_, ?_, fun c => ?_⟩
  · rw [reset_slot] at hx
    exact absurd hx (by decide)
  · intro l loaded
    cases loaded
  · rw [reset_cassette]
    simp only [reset_owed]
    rfl

/-- Settles O4, invariant by invariant. -/
theorem resetMeetsTheInvariants : Obligations.ResetMeetsTheInvariants :=
  ⟨rfl, reset_uniqueKeys, reset_lockdownLaw, reset_referencesInRange, ⟨rfl, rfl, rfl⟩, reset_postingLaw, reset_reservationLaw⟩

end Sys2Proof.Machine
end

section
/-! PROOF. The host's writes to a slot (O15): each is a bus access whose meaning tests the slot's state alone. -/

namespace Sys2Proof.Machine

theorem Wall.writeSlotState_posted_empty {w : Wall} {p : PageId} {x : SlotId} (h : (w.slot p x).state = .empty) :
    w.writeSlotState p x 1#16 = (w.postSlot p x).evaluate := by simp [Wall.writeSlotState, h]

theorem Wall.writeSlotState_posted_slip {w : Wall} {p : PageId} {x : SlotId} (h : (w.slot p x).state ≠ .empty) :
    w.writeSlotState p x 1#16 = w.slip (slotAddress p x 0) := by simp [Wall.writeSlotState, h]

theorem Wall.writeSlotState_empty_ended {w : Wall} {p : PageId} {x : SlotId} (h : (w.slot p x).state.ended = true) :
    w.writeSlotState p x 0#16 = w.modSlot p x Slot.discard := by simp [Wall.writeSlotState, h]

theorem Wall.writeSlotState_empty_slip {w : Wall} {p : PageId} {x : SlotId} (h : (w.slot p x).state.ended = false) :
    w.writeSlotState p x 0#16 = w.slip (slotAddress p x 0) := by simp [Wall.writeSlotState, h]

/-- Only FINISHED and REFUSED wait for the host to give the slot back (R23). -/
theorem SlotState.ended_iff (a : SlotState) : a.ended = true ↔ a = .finished ∨ a = .refused := by
  cases a <;> decide

/-- A bus access on a powered wall. -/
theorem State.onBus_wall {s : State} {f : Wall → Wall} {v : Wall} (h : s.supply = true) (hf : f s.wall = v) :
    s.onBus f = .next { s with latch := none, wall := v } := by rw [State.onBus_next f h, hf]

/-- What storing a word of the body leaves of the slots (R24). -/
theorem Wall.storeBody_slot (w : Wall) (p q : PageId) (x y : SlotId) (i : Fin 14) (v : Word) :
    (w.modSlot p x fun z => { z with body := tabSet z.body i v }).slot q y =
      if (q, y) = (p, x) then { w.slot p x with body := tabSet (w.slot p x).body i v } else w.slot q y := by
  split
  · next e =>
    obtain ⟨rfl, rfl⟩ := Prod.mk.inj e
    exact Wall.modSlot_slot_same _ _ _ _
  · next e => exact Wall.modSlot_slot_other _ _ e

/-- Settles O15, one write after the other. -/
theorem slotWrites : Obligations.SlotWrites := by
  unfold Obligations.SlotWrites
  intro s p x on
  refine ⟨fun h => State.onBus_wall on (Wall.writeSlotState_posted_empty h),
    fun h => State.onBus_wall on (Wall.writeSlotState_posted_slip h),
    fun h => State.onBus_wall on (Wall.writeSlotState_empty_ended ((SlotState.ended_iff _).mpr h)),
    fun hf hr => State.onBus_wall on (Wall.writeSlotState_empty_slip (Bool.eq_false_iff.mpr fun h =>
      ((SlotState.ended_iff _).mp h).elim hf hr)),
    fun i v => ⟨fun h => ?_, fun h => State.onBus_wall on (if_neg h)⟩⟩
  refine ⟨_, State.onBus_wall on (if_pos h), rfl, rfl, ?_⟩
  simp only [Wall.storeBody_slot, if_true]
  refine ⟨tabSet_get_same _ _ _, fun j hj => tabSet_get_other _ _ hj, h, fun q => ?_, fun q y hqy => if_neg hqy⟩
  exact Wall.modSlot_posting _ _ _ _ _

end Sys2Proof.Machine
end

section
/-! PROOF. The checks and refusals (O23): what each list of checks says of the wall, one lemma per kind, and the end of a slot that is refused. -/

namespace Sys2Proof.Machine

/-! ### Lists of every index -/

theorem mem_zoneIds (z : ZoneId) : z ∈ zoneIds := by revert z; decide
theorem mem_cassIds (c : CassId) : c ∈ cassIds := by revert c; decide
theorem mem_pointIds (p : PointId) : p ∈ pointIds := by revert p; decide

theorem zoneIds_any (f : ZoneId → Bool) : zoneIds.any f = true ↔ ∃ z, f z = true := by simp [List.any_eq_true, mem_zoneIds]

theorem findSlot_eq_none (f : SlotId → Bool) : findSlot f = none ↔ ∀ x, f x = false := by
  have every : ∀ x : SlotId, x ∈ [(0 : SlotId), 1, 2, 3] := by decide
  simp [findSlot, every]

theorem Wall.activeMember_isSome (w : Wall) (z : ZoneId) :
    (w.activeMember z).isSome = true ↔ ∃ p : PointId, (w.points.get p).zone = z ∧ (w.points.get p).live = true := by
  simp [Wall.activeMember, Wall.members, mem_pointIds]

theorem Wall.members_any_alert (w : Wall) (z : ZoneId) :
    (w.members z).any (fun p => (w.points.get p).alert) = true ↔ ∃ p : PointId, (w.points.get p).zone = z ∧ (w.points.get p).alert = true := by
  simp [Wall.members, mem_pointIds]

theorem Zone.lockdownAlarm_iff (z : Zone) : z.lockdownAlarm = true ↔ z.state = .alarm ∧ z.lockdownFlag = true ∧ z.mode ≠ .supervisory := by
  simp [Zone.lockdownAlarm, Zone.calls, and_comm, and_left_comm]

theorem Wall.quiet_iff (w : Wall) :
    w.quiet = true ↔ (∀ n x, (w.slot (lanePage n) x).state.inProgress = false) ∧ w.transport.join = .none ∧ w.transport.queue = []
      ∧ w.conveyor.carried = none ∧ w.conveyor.queue = [] ∧ w.transport.state ≠ .clearing ∧ w.conveyor.state ≠ .clearing
      ∧ ∀ n, (w.lanes.get n).drawer = .closing → (w.lanes.get n).owner ≠ none := by
  simp [Wall.quiet, mem_laneIds, findSlot_eq_none, and_assoc, imp_iff_not_or, Option.isSome_iff_ne_none]

/-! ### A parameter that names a record -/

theorem Slot.target4_eq {y : Slot} {k : Fin 4} (h : y.param 0 = k.val) : y.target4 = k := by
  rw [Slot.target4, h]
  exact Fin.ofNat_val_eq_self k

theorem Slot.targetBin_eq {y : Slot} {k : BinId} (h : y.param 0 = k.val) : y.targetBin = k := by
  rw [Slot.targetBin, h]
  exact Fin.ofNat_val_eq_self k

theorem Slot.mixCounts_get (y : Slot) (c : CassId) : y.mixCounts.get c = y.param (2 + c.val) := by
  match c with
  | 0 | 1 | 2 | 3 => rfl

theorem Slot.mixCounts_total (y : Slot) : Counts.total y.mixCounts = y.param 2 + y.param 3 + y.param 4 + y.param 5 := rfl

/-- A zone parameter is in range and its zone meets a condition: it names a zone that does (R34). -/
theorem Slot.target4_zone {y : Slot} {f : ZoneId → Prop} : (y.param 0 < 4 ∧ f y.target4) ↔ ∃ z : ZoneId, y.param 0 = z.val ∧ f z := by
  constructor
  · rintro ⟨small, hf⟩
    have named : y.param 0 = (⟨y.param 0, small⟩ : ZoneId).val := rfl
    exact ⟨_, named, Slot.target4_eq named ▸ hf⟩
  · rintro ⟨z, named, hf⟩
    exact ⟨named ▸ z.isLt, (Slot.target4_eq named).symm ▸ hf⟩

/-! ### Well-formed parameters (R34) -/

theorem Wall.wellFormed_dispense (w : Wall) (y : Slot) :
    w.wellFormed .dispense y = true ↔
      (y.param 0 = 0 ∧ 1 ≤ y.param 1 ∧ y.param 1 ≤ 60000)
      ∨ (y.param 0 = 1 ∧ (∀ i, 2 ≤ i → i ≤ 5 → y.param i ≤ 3000) ∧ 0 < y.param 2 + y.param 3 + y.param 4 + y.param 5) := by
  have bounds : (∀ c : CassId, y.mixCounts.get c ≤ 3000) ↔ ∀ i, 2 ≤ i → i ≤ 5 → y.param i ≤ 3000 := by
    constructor
    · intro h i two five
      have at_i := h ⟨i - 2, by omega⟩
      rwa [Slot.mixCounts_get, show 2 + (i - 2) = i by omega] at at_i
    · intro h c
      rw [Slot.mixCounts_get]
      exact h _ (by omega) (by omega)
  unfold Wall.wellFormed
  dsimp only
  split
  · next amount => simp [amount]
  · next other =>
    split
    · next mix => simp [mix, mem_cassIds, bounds, Slot.mixCounts_total]
    · next neither => simp [other, neither]

theorem Wall.wellFormed_zone (w : Wall) (y : Slot) {k : Kind} (hk : k = .zoneArm ∨ k = .zoneDisarm) :
    w.wellFormed k y = true ↔ ∃ z : ZoneId, y.param 0 = z.val ∧ (w.zones.get z).mode = .armable := by
  rw [← Slot.target4_zone]
  obtain rfl | rfl := hk <;> simp [Wall.wellFormed]

theorem Wall.wellFormed_zoneReset (w : Wall) (y : Slot) :
    w.wellFormed .zoneReset y = true ↔ ∃ z : ZoneId, y.param 0 = z.val ∧ (w.zones.get z).mode = .always := by
  rw [← Slot.target4_zone]
  simp [Wall.wellFormed]

theorem Wall.wellFormed_below (w : Wall) (y : Slot) :
    (w.wellFormed .countSet y = true ↔ y.param 0 ≤ 3 ∧ y.param 1 ≤ 3000)
    ∧ (w.wellFormed .cassetteClear y = true ↔ y.param 0 ≤ 3) ∧ (w.wellFormed .binReset y = true ↔ y.param 0 ≤ 2)
    ∧ (w.wellFormed .pathReset y = true ↔ y.param 0 ≤ 5) := by
  simp only [Wall.wellFormed, decide_eq_true_iff, Nat.lt_succ_iff, and_self]

theorem Wall.wellFormed_free (w : Wall) (y : Slot) :
    ∀ k ∈ [Kind.retract, .deposit, .capture, .returnEnvelope, .laneOpen, .laneClose, .lockdownClear, .holdWall, .releaseWall,
      .profileCommit, .profileLoad, .clockSet], w.wellFormed k y = true := by
  simp [Wall.wellFormed]

/-! ### The checks of the kinds (R35 to R39) -/

theorem firstRefusal_cons (bad : Bool) (e : OrderEnd) (rest : List (Bool × OrderEnd)) :
    firstRefusal ((bad, e) :: rest) = if bad = true then some e else firstRefusal rest := rfl

theorem Lane.leftHolding_iff (l : Lane) : l.leftHolding = true ↔ l.drawer = .holding ∧ l.owner = none := by simp [Lane.leftHolding]

theorem Wall.depositFull_iff (w : Wall) : w.depositFull = true ↔ (w.bins.get depositBin).capacity ≤ (w.bins.get depositBin).count := by
  simp [Wall.depositFull]

/-- The last three checks of a DISPENSE, by its mode: in MIX mode the cassettes and the counts it names, otherwise the mix (R35, R56, R57). -/
theorem dispense_mixChecks (w : Wall) (y : Slot) :
    firstRefusal
      [(!decide (y.param 0 = 1) && (w.orderMix y).isNone, .noMix),
        (decide (y.param 0 = 1) && cassIds.any fun c => decide (0 < y.mixCounts.get c) && !w.usable c, .noMix),
        (decide (y.param 0 = 1) && (cassIds.any (fun c => decide ((w.cassettes.get c).availability < y.mixCounts.get c))
          || decide (w.noteLimit < Counts.total y.mixCounts)), .overLimit)] =
      if y.param 0 = 1 then
        (if ∃ c : CassId, 0 < y.param (2 + c.val) ∧ w.usable c = false then some .noMix
        else if (∃ c : CassId, (w.cassettes.get c).availability < y.param (2 + c.val))
            ∨ w.noteLimit < y.param 2 + y.param 3 + y.param 4 + y.param 5 then some .overLimit
        else none)
      else if (w.orderMix y).isNone then some .noMix else none := by
  by_cases mix : y.param 0 = 1
  · simp [← Slot.mixCounts_total, mix, firstRefusal, mem_cassIds, Slot.mixCounts_get]
    congr
  · simp [mix, firstRefusal]

theorem Wall.checkLane_dispense (w : Wall) (n : LaneId) (y : Slot) :
    w.checkLane n .dispense y =
      (if w.lockdown then some .lockdown
      else if (w.lanes.get n).state = .lockedOut then some .laneLockedOut
      else if (w.lanes.get n).state ≠ .opened then some .laneClosed
      else if w.transport.state = .faulted then some .pathFault
      else if (w.bins.get rejectBin).full then some .binFull
      else if (w.lanes.get n).drawer = .jammed then some .drawerJammed
      else if (w.lanes.get n).drawer = .holding ∧ (w.lanes.get n).owner = none then some .drawerOccupied
      else if y.param 0 = 1 then
        (if ∃ c : CassId, 0 < y.param (2 + c.val) ∧ w.usable c = false then some .noMix
        else if (∃ c : CassId, (w.cassettes.get c).availability < y.param (2 + c.val))
            ∨ w.noteLimit < y.param 2 + y.param 3 + y.param 4 + y.param 5 then some .overLimit
        else none)
      else if (w.orderMix y).isNone then some .noMix
      else none) := by
  simp only [← dispense_mixChecks, Wall.checkLane, Wall.checkDispense]
  simp [firstRefusal_cons, ← Lane.leftHolding_iff]

theorem Wall.checkLane_deposit (w : Wall) (n : LaneId) (y : Slot) :
    w.checkLane n .deposit y =
      (if w.lockdown then some .lockdown
      else if (w.lanes.get n).state = .lockedOut then some .laneLockedOut
      else if (w.lanes.get n).state ≠ .opened then some .laneClosed
      else if (w.lanes.get n).pocket.state ≠ .empty then some .escrowFull
      else if (w.bins.get depositBin).capacity ≤ (w.bins.get depositBin).count then some .binFull
      else if (w.lanes.get n).drawer = .jammed then some .drawerJammed
      else none) := by
  simp [Wall.checkLane, firstRefusal, Wall.depositFull_iff]

theorem Wall.checkLane_retract (w : Wall) (n : LaneId) (y : Slot) :
    w.checkLane n .retract y =
      (if (w.lanes.get n).drawer = .jammed then some .drawerJammed
      else if (w.lanes.get n).drawer = .holding ∧ (w.lanes.get n).owner = none then none
      else some .nothingHeld) := by
  simp only [← Lane.leftHolding_iff]
  cases held : (w.lanes.get n).leftHolding <;> simp [Wall.checkLane, firstRefusal, held]

theorem Wall.checkLane_capture (w : Wall) (n : LaneId) (y : Slot) :
    w.checkLane n .capture y =
      (if (w.lanes.get n).pocket.state ≠ .held then some .nothingHeld
      else if (w.bins.get depositBin).capacity ≤ (w.bins.get depositBin).count then some .binFull
      else if w.conveyor.state = .faulted then some .pathFault
      else none) := by
  simp [Wall.checkLane, firstRefusal, Wall.depositFull_iff]

theorem Wall.checkLane_returnEnvelope (w : Wall) (n : LaneId) (y : Slot) :
    w.checkLane n .returnEnvelope y =
      (if (w.lanes.get n).pocket.state ≠ .held then some .nothingHeld
      else if (w.lanes.get n).drawer = .jammed then some .drawerJammed
      else none) := by
  simp [Wall.checkLane, firstRefusal]

/-! ### The checks of the service kinds (R38, R39) -/

theorem Wall.checkService_countSet (w : Wall) {y : Slot} {c : CassId} (h : y.param 0 = c.val) :
    w.checkService .countSet y =
      if (w.cassettes.get c).state = .absent then some .notPresent
      else if (w.cassettes.get c).state ≠ .uncounted then some .notServiced
      else none := by
  simp [Wall.checkService, firstRefusal, Slot.target4_eq h]

theorem Wall.checkService_binReset (w : Wall) {y : Slot} {k : BinId} (h : y.param 0 = k.val) :
    w.checkService .binReset y = if (w.bins.get k).door then none else some .notServiced := by
  cases door : (w.bins.get k).door <;> simp [Wall.checkService, firstRefusal, Slot.targetBin_eq h, door]

/-- A PATH RESET is refused while its mechanism is in use. -/
theorem Wall.checkService_pathReset (w : Wall) (y : Slot) {m : Nat} {P : Prop} [Decidable P] (h : y.param 0 = m)
    (free : w.mechanismBusy m = false ↔ P) : w.checkService .pathReset y = if P then none else some .notQuiet := by
  cases busy : w.mechanismBusy m with
  | true => simp [Wall.checkService, firstRefusal, h, busy, ← free]
  | false => simp [Wall.checkService, firstRefusal, h, busy, ← free]

theorem Wall.mechanismBusy_transport (w : Wall) : w.mechanismBusy 0 = false ↔ w.transport.join = .none ∧ w.transport.queue = [] := by
  simp [Wall.mechanismBusy]

theorem Wall.mechanismBusy_conveyor (w : Wall) : w.mechanismBusy 1 = false ↔ w.conveyor.carried = none ∧ w.conveyor.queue = [] := by
  simp [Wall.mechanismBusy]

theorem Wall.mechanismBusy_drawer (w : Wall) (n : LaneId) :
    w.mechanismBusy (2 + n.val) = false ↔ (w.lanes.get n).owner = none ∧ (w.lanes.get n).waiting = [] := by
  have not_belt : 2 + n.val ≠ 0 ∧ 2 + n.val ≠ 1 := by omega
  simp [Wall.mechanismBusy, not_belt]

theorem Wall.checkService_zoneArm (w : Wall) {y : Slot} {z : ZoneId} (h : y.param 0 = z.val) :
    w.checkService .zoneArm y =
      if ∃ p : PointId, (w.points.get p).zone = z ∧ (w.points.get p).live = true then some .pointsActive else none := by
  simp only [Wall.checkService, Slot.target4_eq h, Wall.activeMember_isSome, firstRefusal]

theorem Wall.checkService_zoneReset (w : Wall) {y : Slot} {z : ZoneId} (h : y.param 0 = z.val) :
    w.checkService .zoneReset y =
      if ∃ p : PointId, (w.points.get p).zone = z ∧ (w.points.get p).live = true then some .pointsActive
      else if ∃ p : PointId, (w.points.get p).zone = z ∧ (w.points.get p).alert = true then some .unacknowledged
      else none := by
  simp only [Wall.checkService, Slot.target4_eq h, Wall.activeMember_isSome, Wall.members_any_alert, firstRefusal]

theorem Wall.checkService_lockdownClear (w : Wall) (y : Slot) :
    w.checkService .lockdownClear y =
      if ∃ z : ZoneId, (w.zones.get z).state = .alarm ∧ (w.zones.get z).lockdownFlag = true ∧ (w.zones.get z).mode ≠ .supervisory then
        some .zoneInAlarm
      else none := by
  simp only [Wall.checkService, zoneIds_any, Zone.lockdownAlarm_iff, firstRefusal]

theorem Wall.checkService_profile (w : Wall) (y : Slot) {k : Kind} (hk : k = .profileCommit ∨ k = .profileLoad) :
    w.checkService k y =
      if (∀ n x, (w.slot (lanePage n) x).state.inProgress = false) ∧ w.transport.join = .none ∧ w.transport.queue = []
          ∧ w.conveyor.carried = none ∧ w.conveyor.queue = [] ∧ w.transport.state ≠ .clearing ∧ w.conveyor.state ≠ .clearing
          ∧ (∀ n, (w.lanes.get n).drawer = .closing → (w.lanes.get n).owner ≠ none) then none
      else some .notQuiet := by
  have quiet : w.checkService k y = if w.quiet = true then none else some .notQuiet := by
    obtain rfl | rfl := hk <;> cases q : w.quiet <;> simp [Wall.checkService, firstRefusal, q]
  simp only [quiet, Wall.quiet_iff]

/-! ### The taking of a slot that fails a check (R30) -/

theorem Wall.refusal_unknown {w : Wall} {p : PageId} {x : SlotId} (h : w.kindAt p x = none) : w.refusal p x = some .unknownKind := by
  simp [Wall.refusal, h]

theorem Wall.refusal_malformed {w : Wall} {p : PageId} {x : SlotId} {k : Kind} (h : w.kindAt p x = some k)
    (bad : w.wellFormed k (w.slot p x) = false) : w.refusal p x = some .badParameter := by
  simp [Wall.refusal, h, bad]

theorem Wall.refusal_lane {w : Wall} {n : LaneId} {x : SlotId} {k : Kind} (h : w.kindAt (lanePage n) x = some k)
    (good : w.wellFormed k (w.slot (lanePage n) x) = true) : w.refusal (lanePage n) x = w.checkLane n k (w.slot (lanePage n) x) := by
  simp [Wall.refusal, h, good]

theorem Wall.refusal_service {w : Wall} {x : SlotId} {k : Kind} (h : w.kindAt servicePage x = some k)
    (good : w.wellFormed k (w.slot servicePage x) = true) : w.refusal servicePage x = w.checkService k (w.slot servicePage x) := by
  simp [Wall.refusal, h, good]

theorem Wall.take_refused {w : Wall} {p : PageId} {x : SlotId} {e : OrderEnd} (h : w.refusal p x = some e) :
    w.take p x = w.closeSlot p x .refused e [] := by
  simp only [Wall.take, h, Wall.refuse]

/-- A close of a slot with no cancel pending changes the pages alone. -/
theorem Wall.closeSlot_pages {w : Wall} {p : PageId} {x : SlotId} (st : SlotState) (e : OrderEnd) (fields : List Word)
    (h : (w.slot p x).cancelPending = false) : w.closeSlot p x st e fields = { w with pages := (w.closeSlot p x st e fields).pages } := by
  simp only [Wall.closeSlot, Wall.closeSlotAt, h]
  rfl

/-- Settles O23, from the lemma of each kind. -/
theorem checksAndRefusals : Obligations.ChecksAndRefusals := by
  unfold Obligations.ChecksAndRefusals
  refine ⟨fun w p x e refused still => ?_, fun w p x => ⟨Wall.refusal_unknown, fun k hk => ⟨Wall.refusal_malformed hk, fun good => ⟨?_, ?_⟩⟩⟩,
    fun w y => ?_, fun w n y => ?_, fun w y => ?_⟩
  · rw [Wall.take_refused refused]
    have closed := Wall.closeSlot_slot p x .refused e [] w
    refine ⟨by rw [closed], by rw [closed]; rfl, by rw [closed], ?_, fun q y hqy => Wall.closeSlot_other _ _ _ w hqy, Wall.closeSlot_pages _ _ _ still⟩
    exact (Wall.closeSlotAt_posting ..).trans (if_pos rfl)
  · rintro n rfl
    exact Wall.refusal_lane hk good
  · rintro rfl
    exact Wall.refusal_service hk good
  · obtain ⟨count, clear, bin, path⟩ := w.wellFormed_below y
    exact ⟨w.wellFormed_dispense y, count, clear, bin, path, fun _ => w.wellFormed_zone y, w.wellFormed_zoneReset y, w.wellFormed_free y⟩
  · exact ⟨w.checkLane_dispense n y, w.checkLane_retract n y, w.checkLane_deposit n y, w.checkLane_capture n y, w.checkLane_returnEnvelope n y⟩
  · refine ⟨fun _ => w.checkService_countSet, fun _ => w.checkService_binReset, fun h => w.checkService_pathReset y h w.mechanismBusy_transport,
      fun h => w.checkService_pathReset y h w.mechanismBusy_conveyor, fun n h => w.checkService_pathReset y h (w.mechanismBusy_drawer n),
      fun _ h => ⟨w.checkService_zoneArm h, w.checkService_zoneReset h⟩, w.checkService_lockdownClear y, fun _ => w.checkService_profile y, ?_⟩
    rintro k (rfl | rfl | rfl | rfl | rfl) <;> rfl

end Sys2Proof.Machine
end

section
/-! SUPPORT. An order that the host places and that is taken at once (log 2): placing it gives the evaluations nothing to do but take it, and one that then
waits for its STOWED drawer is granted it next (R11, R28). -/

namespace Sys2Proof.Machine

/-! ### When one evaluation finds nothing, and what it finds first -/

theorem mem_pageIds (p : PageId) : p ∈ pageIds := by revert p; decide

theorem Wall.nextDrawer_eq_none {w : Wall} : w.nextDrawer = none ↔ ∀ n, w.nextGrant n = none := by
  simp [Wall.nextDrawer, List.findSome?_eq_none_iff, mem_laneIds]

theorem Wall.nextTake_eq_none {w : Wall} : w.nextTake = none ↔ ∀ p, ∀ x ∈ (w.pages.get p).posting, w.takeable p x = false := by
  simp [Wall.nextTake, List.findSome?_eq_none_iff, mem_pageIds]

/-- What a taking evaluation takes is listed and can be taken. -/
theorem Wall.nextTake_takeable {w : Wall} {p : PageId} {x : SlotId} (h : w.nextTake = some (p, x)) :
    x ∈ (w.pages.get p).posting ∧ w.takeable p x = true := by
  obtain ⟨q, -, hq⟩ := List.exists_of_findSome?_eq_some h
  obtain ⟨y, hy, e⟩ := Option.map_eq_some_iff.mp hq
  obtain ⟨rfl, rfl⟩ := Prod.mk.inj e
  exact ⟨List.mem_of_find?_eq_some hy, List.find?_some hy⟩

theorem Wall.find_settles_none {w : Wall} : laneIds.find? w.settles = none ↔ ∀ n, w.settles n = false := by
  simp [List.find?_eq_none, mem_laneIds]

theorem Wall.evaluateOnce_eq_none {w : Wall} :
    w.evaluateOnce = none ↔ (∀ n, w.settles n = false) ∧ w.nextDrawer = none ∧ w.nextTake = none := by
  rw [← Wall.find_settles_none]
  unfold Wall.evaluateOnce
  cases laneIds.find? w.settles with
  | some n => simp
  | none =>
    cases w.nextDrawer with
    | some g => simp
    | none => simp

theorem Wall.evaluateOnce_grant {w : Wall} {n : LaneId} {x : SlotId} (hs : ∀ m, w.settles m = false) (hd : w.nextDrawer = some (n, x)) :
    w.evaluateOnce = some (w.grantDrawer n x) := by
  simp only [Wall.evaluateOnce, Wall.find_settles_none.mpr hs, hd]

theorem Wall.evaluateOnce_take {w : Wall} {p : PageId} {x : SlotId} (hs : ∀ m, w.settles m = false) (hd : w.nextDrawer = none)
    (ht : w.nextTake = some (p, x)) : w.evaluateOnce = some (w.take p x) := by
  simp only [Wall.evaluateOnce, Wall.find_settles_none.mpr hs, hd, ht, Option.map_some]

/-! ### What settling, granting and taking depend on -/

/-- A lane that does not settle still does not where the orders that hold it open are still in progress (R3). -/
theorem Wall.settles_mono {v w : Wall} {n : LaneId} (hl : (v.lanes.get n).state = (w.lanes.get n).state)
    (hs : ∀ x, (w.slot (lanePage n) x).state.inProgress = true → w.kindAt (lanePage n) x ≠ some .laneClose →
      (v.slot (lanePage n) x).state.inProgress = true ∧ v.kindAt (lanePage n) x ≠ some .laneClose)
    (h : w.settles n = false) : v.settles n = false := by
  rw [Bool.eq_false_iff] at h ⊢
  intro hv
  apply h
  simp only [Wall.settles, Bool.and_eq_true, beq_iff_eq, Option.isNone_iff_eq_none, findSlot_eq_none, hl, Bool.and_eq_false_iff,
    Bool.not_eq_false'] at hv ⊢
  refine ⟨hv.1, fun x => ?_⟩
  by_contra both
  simp only [not_or, Bool.not_eq_false] at both
  obtain ⟨running, kind⟩ := hs x both.1 both.2
  rcases hv.2 x with idle | close
  · rw [running] at idle
    exact absurd idle (by decide)
  · exact kind close

theorem Wall.grantable_congr {v w : Wall} {n : LaneId} {x : SlotId} (hf : (v.lanes.get n).forced = (w.lanes.get n).forced)
    (hd : (v.lanes.get n).drawer = (w.lanes.get n).drawer) (hk : v.kindAt (lanePage n) x = w.kindAt (lanePage n) x) :
    v.grantable n x = w.grantable n x := by
  simp only [Wall.grantable, hf, hd, hk]

/-- A STOWED drawer that is not forced goes to any order (R11). -/
theorem Wall.grantable_stowed {w : Wall} {n : LaneId} (x : SlotId) (hd : (w.lanes.get n).drawer = .stowed) (hf : (w.lanes.get n).forced = false) :
    w.grantable n x = true := by
  unfold Wall.grantable
  dsimp only
  rw [hd, hf]
  split <;> rfl

/-- Where a STOWED drawer without an owner is granted to no order, none waits for it (R11). -/
theorem Wall.waiting_nil {w : Wall} {n : LaneId} (h : w.nextGrant n = none) (hd : (w.lanes.get n).drawer = .stowed)
    (hf : (w.lanes.get n).forced = false) (ho : (w.lanes.get n).owner = none) : (w.lanes.get n).waiting = [] := by
  simp only [Wall.nextGrant, ho, ne_eq, not_true_eq_false, if_false, List.find?_eq_none] at h
  refine List.eq_nil_iff_forall_not_mem.mpr fun y hy => h y hy (Wall.grantable_stowed y hd hf)

/-- Only the lane that `v` gives a waiting order has a drawer to grant (R11). -/
theorem Wall.nextDrawer_single {v : Wall} {n : LaneId} {x : SlotId} (hn : v.nextGrant n = some x) (ho : ∀ m, m ≠ n → v.nextGrant m = none) :
    v.nextDrawer = some (n, x) := by
  cases h : v.nextDrawer with
  | none => rw [Wall.nextDrawer_eq_none.mp h n] at hn; cases hn
  | some g =>
    obtain ⟨m, -, hm⟩ := List.exists_of_findSome?_eq_some h
    obtain ⟨y, hy, rfl⟩ := Option.map_eq_some_iff.mp hm
    by_cases e : m = n
    · subst e
      rw [hn] at hy
      rw [Option.some.inj hy]
    · rw [ho m e] at hy
      cases hy

/-- One waiting order and its STOWED drawer (R11). -/
theorem Wall.nextGrant_single {v : Wall} {n : LaneId} {x : SlotId} (hw : (v.lanes.get n).waiting = [x]) (ho : (v.lanes.get n).owner = none)
    (hd : (v.lanes.get n).drawer = .stowed) (hf : (v.lanes.get n).forced = false) : v.nextGrant n = some x := by
  simp [Wall.nextGrant, ho, hw, Wall.grantable_stowed x hd hf]

theorem Wall.nextGrant_congr {v w : Wall} {n : LaneId} (hl : v.lanes.get n = w.lanes.get n)
    (hk : ∀ x ∈ (w.lanes.get n).waiting, v.kindAt (lanePage n) x = w.kindAt (lanePage n) x) (h : w.nextGrant n = none) : v.nextGrant n = none := by
  unfold Wall.nextGrant at h ⊢
  rw [hl]
  split
  · rfl
  · next ho =>
    rw [if_neg ho, List.find?_eq_none] at h
    rw [List.find?_eq_none]
    intro y hy
    rw [Wall.grantable_congr (congrArg Lane.forced hl) (congrArg Lane.drawer hl) (hk y hy)]
    exact h y hy

/-! ### The posting of an order -/

theorem Wall.posted_frame (p : PageId) (x : SlotId) (k : Kind) (tag : Word) (params : List Word) (w : Wall) :
    w.posted p x k tag params = { w with pages := (w.posted p x k tag params).pages } := rfl

@[simp] theorem Wall.posted_slot (p : PageId) (x : SlotId) (k : Kind) (tag : Word) (params : List Word) (w : Wall) :
    (w.posted p x k tag params).slot p x = { w.slot p x with body := orderBody k tag params, state := .posted } := by
  rw [Wall.posted, Wall.postSlot_slot, Wall.modSlot_slot_same]

theorem Wall.posted_other {p q : PageId} {x y : SlotId} (k : Kind) (tag : Word) (params : List Word) (w : Wall) (h : (q, y) ≠ (p, x)) :
    (w.posted p x k tag params).slot q y = w.slot q y := by
  rw [Wall.posted, Wall.postSlot_other _ h, Wall.modSlot_slot_other _ _ h]

theorem Wall.posted_posting (p q : PageId) (x : SlotId) (k : Kind) (tag : Word) (params : List Word) (w : Wall) :
    ((w.posted p x k tag params).pages.get q).posting = if q = p then (w.pages.get q).posting ++ [x] else (w.pages.get q).posting := by
  rw [Wall.posted, Wall.postSlot_posting, Wall.modSlot_posting]

/-- A lane's page reads back the kind of an order of a lane (R27). -/
theorem kindOn_lanePage (n : LaneId) (k : Kind) (h : k.track ≠ .service) : kindOn (lanePage n) (word k.code) = some k := by
  revert h n
  cases k <;> decide

theorem Wall.posted_kindAt (n : LaneId) (x : SlotId) (k : Kind) (tag : Word) (params : List Word) (w : Wall) (h : k.track ≠ .service) :
    (w.posted (lanePage n) x k tag params).kindAt (lanePage n) x = some k := by
  rw [Wall.kindAt, Wall.posted_slot]
  exact kindOn_lanePage n k h

/-- What it means that an order of a kind, placed now, is the next thing taken (R28, R29, R39). -/
structure Wall.TakesNow (w : Wall) (p : PageId) (x : SlotId) (k : Kind) : Prop where
  settles : ∀ n, w.settles n = false
  drawers : ∀ n, w.nextGrant n = none
  takes : ∀ q, ∀ y ∈ (w.pages.get q).posting, w.takeable q y = false
  empty : (w.slot p x).state = .empty
  enabled : w.takingEnabled = true
  commit : ((laneOf p).isNone || !w.commitRuns) = true
  first : w.oldestPosted p k.track = none
  track : w.trackOpen p k = true
  apart : ∀ n, lanePage n = p → x ∉ (w.lanes.get n).waiting

theorem Wall.takesNow_iff {w : Wall} {p : PageId} {x : SlotId} {k : Kind} : w.takesNow p x k = true ↔ w.TakesNow p x k := by
  have apart : (laneIds.all fun n => !(lanePage n == p) || !((w.lanes.get n).waiting.contains x)) = true ↔
      ∀ n, lanePage n = p → x ∉ (w.lanes.get n).waiting := by
    simp [List.all_eq_true, mem_laneIds, imp_iff_not_or]
  simp only [Wall.takesNow, Bool.and_eq_true, apart, Option.isNone_iff_eq_none, Wall.evaluateOnce_eq_none, Wall.nextDrawer_eq_none,
    Wall.nextTake_eq_none, beq_iff_eq]
  constructor
  · rintro ⟨⟨⟨⟨⟨⟨⟨hs, hd, ht⟩, he⟩, hn⟩, hc⟩, hf⟩, hk⟩, ha⟩
    exact ⟨hs, hd, ht, he, hn, hc, hf, hk, ha⟩
  · rintro ⟨hs, hd, ht, he, hn, hc, hf, hk, ha⟩
    exact ⟨⟨⟨⟨⟨⟨⟨hs, hd, ht⟩, he⟩, hn⟩, hc⟩, hf⟩, hk⟩, ha⟩

namespace Wall.TakesNow
variable {w : Wall} {p : PageId} {x : SlotId} {k : Kind}

/-- The posting touches no order in progress. -/
theorem posted_inProgress (h : w.TakesNow p x k) (tag : Word) (params : List Word) (q : PageId) (y : SlotId) :
    ((w.posted p x k tag params).slot q y).state.inProgress = (w.slot q y).state.inProgress := by
  by_cases e : (q, y) = (p, x)
  · obtain ⟨rfl, rfl⟩ := Prod.mk.inj e
    rw [Wall.posted_slot, h.empty]
    rfl
  · rw [Wall.posted_other _ _ _ _ e]

theorem posted_kind_inProgress (h : w.TakesNow p x k) (tag : Word) (params : List Word) {q : PageId} {y : SlotId}
    (hy : (w.slot q y).state.inProgress = true) : (w.posted p x k tag params).kindAt q y = w.kindAt q y := by
  have e : (q, y) ≠ (p, x) := fun e => by
    obtain ⟨rfl, rfl⟩ := Prod.mk.inj e
    rw [h.empty] at hy
    exact absurd hy (by decide)
  rw [Wall.kindAt, Wall.posted_other _ _ _ _ e, Wall.kindAt]

theorem posted_settles (h : w.TakesNow p x k) (tag : Word) (params : List Word) (n : LaneId) :
    (w.posted p x k tag params).settles n = false :=
  Wall.settles_mono (w := w) rfl (fun y hy hk => ⟨(h.posted_inProgress tag params _ y).trans hy, h.posted_kind_inProgress tag params hy ▸ hk⟩)
    (h.settles n)

theorem posted_nextGrant (h : w.TakesNow p x k) (tag : Word) (params : List Word) (n : LaneId) :
    (w.posted p x k tag params).nextGrant n = none := by
  refine Wall.nextGrant_congr (w := w) rfl (fun y hy => ?_) (h.drawers n)
  have e : (lanePage n, y) ≠ (p, x) := fun e => by
    obtain ⟨hp, rfl⟩ := Prod.mk.inj e
    exact h.apart n hp hy
  rw [Wall.kindAt, Wall.posted_other _ _ _ _ e, Wall.kindAt]

/-- The search of a track for an order in progress finds what it found. -/
theorem posted_search (h : w.TakesNow p x k) (tag : Word) (params : List Word) (q : PageId) (f : Option Kind → Bool) :
    (findSlot fun y => ((w.posted p x k tag params).slot q y).state.inProgress && f ((w.posted p x k tag params).kindAt q y)) =
      findSlot fun y => (w.slot q y).state.inProgress && f (w.kindAt q y) := by
  congr 1
  funext y
  rw [h.posted_inProgress]
  cases hy : (w.slot q y).state.inProgress with
  | false => rfl
  | true => rw [h.posted_kind_inProgress tag params hy]

theorem posted_commitRuns (h : w.TakesNow p x k) (tag : Word) (params : List Word) :
    (w.posted p x k tag params).commitRuns = w.commitRuns :=
  congrArg Option.isSome (h.posted_search tag params servicePage fun j => j == some .profileCommit)

theorem posted_trackOpen (h : w.TakesNow p x k) (tag : Word) (params : List Word) (q : PageId) (j : Kind) :
    (w.posted p x k tag params).trackOpen q j = w.trackOpen q j := by
  have same : (w.posted p x k tag params).occupant q j.track = w.occupant q j.track :=
    h.posted_search tag params q fun i => i.map Kind.track == some j.track
  rw [Wall.trackOpen, same, Wall.trackOpen]
  cases found : w.occupant q j.track with
  | none => rfl
  | some y =>
    have running := (Bool.and_eq_true_iff.mp (findSlot_true found)).1
    have e : (q, y) ≠ (p, x) := fun e => by
      obtain ⟨rfl, rfl⟩ := Prod.mk.inj e
      rw [h.empty] at running
      exact absurd running (by decide)
    simp only [Wall.posted_other _ _ _ _ e]

/-- On its own track the new order is the oldest POSTED slot, and on every other track the oldest is who it was (R28). -/
theorem posted_oldest (h : w.TakesNow p x k) (tag : Word) (params : List Word)
    (hk : (w.posted p x k tag params).kindAt p x = some k) (q : PageId) (t : Track) :
    (w.posted p x k tag params).oldestPosted q t = if q = p ∧ t = k.track then some x else w.oldestPosted q t := by
  have old : ∀ y, (q, y) ≠ (p, x) →
      (((w.posted p x k tag params).slot q y).state == .posted && (w.posted p x k tag params).onTrack q t y) =
        ((w.slot q y).state == .posted && w.onTrack q t y) := fun y e => by
    simp only [Wall.onTrack, Wall.kindAt, Wall.posted_other _ _ _ _ e]
  have before : ((w.slot p x).state == SlotState.posted) = false := by rw [h.empty]; rfl
  have after : (((w.posted p x k tag params).slot p x).state == .posted && (w.posted p x k tag params).onTrack p t x) = (some k.track == some t) := by
    simp only [Wall.onTrack, hk, Wall.posted_slot, beq_self_eq_true, Bool.true_and, Option.map_some]
  unfold Wall.oldestPosted
  rw [Wall.posted_posting]
  by_cases hq : q = p
  · subst hq
    rw [if_pos rfl, List.find?_append]
    by_cases ht : t = k.track
    · subst ht
      rw [if_pos ⟨rfl, rfl⟩]
      have none_older := List.find?_eq_none.mp h.first
      cases found : (w.pages.get q).posting.find? fun y => ((w.posted q x k tag params).slot q y).state == .posted
          && (w.posted q x k tag params).onTrack q k.track y with
      | none =>
        rw [beq_self_eq_true] at after
        simp only [Option.none_or, List.find?_cons, after]
      | some y =>
        by_cases e : y = x
        · subst e
          rfl
        · have holds := List.find?_some found
          rw [old y fun both => e (Prod.mk.inj both).2] at holds
          exact absurd holds (none_older y (List.mem_of_find?_eq_some found))
    · rw [if_neg fun both => ht both.2]
      have apart : (some k.track == some t) = false := by simpa using fun e => ht e.symm
      have same : (fun y => ((w.posted q x k tag params).slot q y).state == .posted && (w.posted q x k tag params).onTrack q t y) =
          fun y => (w.slot q y).state == .posted && w.onTrack q t y := by
        funext y
        by_cases e : y = x
        · subst e
          rw [after, before, apart]
          rfl
        · exact old y fun both => e (Prod.mk.inj both).2
      rw [same]
      simp [before]
  · rw [if_neg hq, if_neg fun both => hq both.1]
    congr 1
    funext y
    exact old y fun both => hq (Prod.mk.inj both).1

theorem posted_takeable (h : w.TakesNow p x k) (tag : Word) (params : List Word)
    (hk : (w.posted p x k tag params).kindAt p x = some k) : (w.posted p x k tag params).takeable p x = true := by
  have enabled : (w.posted p x k tag params).takingEnabled = true := h.enabled
  have oldest := h.posted_oldest tag params hk p k.track
  rw [if_pos ⟨rfl, rfl⟩] at oldest
  have commit := h.commit
  simp only [Wall.takeable, hk, enabled, h.posted_commitRuns, h.posted_trackOpen, h.track, oldest, Wall.posted_slot, beq_self_eq_true,
    Bool.true_and, Bool.and_true]
  exact commit

/-- Nothing else can be taken now that could not be taken before. -/
theorem posted_takeable_other (h : w.TakesNow p x k) (tag : Word) (params : List Word)
    (hk : (w.posted p x k tag params).kindAt p x = some k) {q : PageId} {y : SlotId} (e : (q, y) ≠ (p, x))
    (hy : (w.posted p x k tag params).takeable q y = true) : w.takeable q y = true := by
  have slot := Wall.posted_other k tag params w e
  have kind : (w.posted p x k tag params).kindAt q y = w.kindAt q y := Wall.kindAt_congr (congrArg Slot.body slot)
  have enabled : (w.posted p x k tag params).takingEnabled = w.takingEnabled := rfl
  simp only [Wall.takeable, slot, kind, enabled, h.posted_commitRuns, h.posted_trackOpen, Bool.and_eq_true] at hy ⊢
  refine ⟨hy.1, ?_⟩
  obtain ⟨-, taken⟩ := hy
  cases named : w.kindAt q y with
  | none => rfl
  | some j =>
    rw [named] at taken
    simp only [h.posted_oldest tag params hk, Bool.and_eq_true, beq_iff_eq] at taken ⊢
    refine ⟨?_, taken.2⟩
    split at taken
    · next same =>
      obtain ⟨hq, -⟩ := same
      exact absurd (Prod.ext hq (Option.some.inj taken.1).symm) e
    · exact taken.1

/-- The order placed is the next thing evaluated, and is taken (R28, log 2). -/
theorem evaluateOnce (h : w.TakesNow p x k) (tag : Word) (params : List Word)
    (hk : (w.posted p x k tag params).kindAt p x = some k) :
    (w.posted p x k tag params).evaluateOnce = some ((w.posted p x k tag params).take p x) := by
  have drawers := Wall.nextDrawer_eq_none.mpr (h.posted_nextGrant tag params)
  refine Wall.evaluateOnce_take (h.posted_settles tag params) drawers ?_
  have listed : x ∈ ((w.posted p x k tag params).pages.get p).posting := by simp [Wall.posted_posting]
  have can := h.posted_takeable tag params hk
  cases found : (w.posted p x k tag params).nextTake with
  | none => exact absurd ((Wall.nextTake_eq_none.mp found p x listed).symm.trans can) (by decide)
  | some g =>
    obtain ⟨q, y⟩ := g
    obtain ⟨hy, taken⟩ := Wall.nextTake_takeable found
    by_contra other
    have e : (q, y) ≠ (p, x) := fun e => other (congrArg some e)
    have before : y ∈ (w.pages.get q).posting := by
      rw [Wall.posted_posting] at hy
      split at hy
      · next hq =>
        rcases List.mem_append.mp hy with old | new
        · exact old
        · exact absurd (Prod.ext hq (List.mem_singleton.mp new)) e
      · exact hy
    exact absurd ((h.takes q y before).symm.trans (h.posted_takeable_other tag params hk e taken)) (by decide)

end Wall.TakesNow

/-- An order row whose order is taken at once: the slot is posted and taken, and at most 79 evaluations are left (log 2). -/
theorem State.place_takes {s : State} {p : PageId} {x : SlotId} {k : Kind} (on : s.supply = true) (h : s.wall.TakesNow p x k) (tag : Word)
    (params : List Word) (hk : (s.wall.posted p x k tag params).kindAt p x = some k) {v : Wall}
    (hv : (s.wall.posted p x k tag params).take p x = v) :
    s.onBus (Wall.place p x k tag params) = .next (State.evaluatedFor 79 { s with latch := none, wall := v }) := by
  refine State.onBus_wall on ?_
  rw [Wall.place, if_pos h.empty]
  exact (Wall.evaluateFor_some (h.evaluateOnce tag params hk) 79).trans (by rw [hv])

/-- One evaluation of a command's evaluations is made. -/
theorem State.evaluatedFor_some {s : State} {v : Wall} (h : s.wall.evaluateOnce = some v) (j : Nat) :
    s.evaluatedFor (j + 1) = State.evaluatedFor j { s with wall := v } := by
  simp only [State.evaluatedFor, Wall.evaluateFor_some h]

/-- An order of a lane that waits for its STOWED drawer once it is taken: it is accepted in its slot, it is the only one to wait, and nothing else of the lanes,
the kinds or the orders in progress has changed. It is granted the drawer next (R11). -/
structure Wall.WaitsAlone (u v : Wall) (n : LaneId) (x : SlotId) : Prop where
  drawer : (v.lanes.get n).drawer = .stowed
  forced : (v.lanes.get n).forced = false
  owner : (v.lanes.get n).owner = none
  waiting : (v.lanes.get n).waiting = [x]
  state : (v.lanes.get n).state = (u.lanes.get n).state
  lanes : ∀ m, m ≠ n → v.lanes.get m = u.lanes.get m
  kinds : ∀ p y, v.kindAt p y = u.kindAt p y
  running : ∀ p y, (u.slot p y).state.inProgress = true → (v.slot p y).state.inProgress = true

theorem Wall.WaitsAlone.evaluateOnce {u v : Wall} {n : LaneId} {x : SlotId} (h : Wall.WaitsAlone u v n x) (hs : ∀ m, u.settles m = false)
    (hd : ∀ m, u.nextGrant m = none) : v.evaluateOnce = some (v.grantDrawer n x) := by
  have lane_state : ∀ m, (v.lanes.get m).state = (u.lanes.get m).state := fun m => by
    by_cases e : m = n
    · rw [e, h.state]
    · rw [h.lanes m e]
  refine Wall.evaluateOnce_grant (fun m => ?_) (Wall.nextDrawer_single (Wall.nextGrant_single h.waiting h.owner h.drawer h.forced) fun m e => ?_)
  · exact Wall.settles_mono (w := u) (lane_state m) (fun y hy hk => ⟨h.running _ y hy, by rwa [h.kinds]⟩) (hs m)
  · exact Wall.nextGrant_congr (w := u) (h.lanes m e) (fun y _ => h.kinds _ y) (hd m)

end Sys2Proof.Machine
end

section
/-! PROOF. LANE OPEN and LANE CLOSE (O25). -/

namespace Sys2Proof.Machine

/-- What an accepted order of a lane's page does at its taking (R30). -/
theorem Wall.take_lane {w : Wall} {n : LaneId} {x : SlotId} {k : Kind} (hk : w.kindAt (lanePage n) x = some k)
    (hr : w.refusal (lanePage n) x = none) : w.take (lanePage n) x = w.acceptLane n x k := by
  simp only [Wall.take, hr, hk, laneOf_lanePage]

theorem Wall.checkLane_laneOpen (w : Wall) (n : LaneId) (y : Slot) :
    w.checkLane n .laneOpen y =
      if w.lockdown then some .lockdown else if (w.lanes.get n).state = .lockedOut then some .laneLockedOut else none := by
  simp [Wall.checkLane, firstRefusal]

theorem Wall.checkLane_laneClose (w : Wall) (n : LaneId) (y : Slot) : w.checkLane n .laneClose y = none := rfl

/-- The checks of an order just placed are those of its kind, where its kind has no parameters. -/
theorem Wall.posted_refusal (n : LaneId) (x : SlotId) {k : Kind} (tag : Word) (params : List Word) (w : Wall)
    (hk : k ∈ [Kind.retract, .deposit, .capture, .returnEnvelope, .laneOpen, .laneClose]) :
    (w.posted (lanePage n) x k tag params).refusal (lanePage n) x =
      w.checkLane n k ((w.posted (lanePage n) x k tag params).slot (lanePage n) x) := by
  have lane_kind : k.track ≠ .service := by revert hk k; decide
  have free : (w.posted (lanePage n) x k tag params).wellFormed k ((w.posted (lanePage n) x k tag params).slot (lanePage n) x) = true :=
    Wall.wellFormed_free _ _ k (by simp only [List.mem_cons] at hk ⊢; tauto)
  rw [Wall.refusal_lane (Wall.posted_kindAt n x k tag params w lane_kind) free]
  simp only [List.mem_cons, List.not_mem_nil, or_false] at hk
  obtain rfl | rfl | rfl | rfl | rfl | rfl := hk <;> rfl

/-- A LANE CLOSE of a lane that is OPEN or CLOSING is RUNNING and the lane CLOSING (R3). -/
theorem Wall.acceptLaneClose_closing {w : Wall} {n : LaneId} {x : SlotId} (h : (w.lanes.get n).state = .opened ∨ (w.lanes.get n).state = .closing) :
    w.acceptLaneClose n x = (w.modLane n fun l => { l with state := .closing }).startWork (lanePage n) x := by
  rcases h with h | h
  · simp only [Wall.acceptLaneClose, h]
  · have same : (w.modLane n fun l => { l with state := .closing }) = w := by
      rw [Wall.modLane, tabMod_same _ _ _ (by rw [← h])]
    simp only [Wall.acceptLaneClose, h, same]

theorem Wall.acceptLaneClose_closed {w : Wall} {n : LaneId} {x : SlotId} (h : (w.lanes.get n).state = .closed ∨ (w.lanes.get n).state = .lockedOut) :
    w.acceptLaneClose n x = w.finish (lanePage n) x .done [] := by
  rcases h with h | h <;> simp only [Wall.acceptLaneClose, h]

/-! ### The settling that follows a LANE CLOSE with no order in progress -/

/-- One lane settles first where no other does. -/
theorem Wall.evaluateOnce_settle {w : Wall} {n : LaneId} (hn : w.settles n = true) (ho : ∀ m, m ≠ n → w.settles m = false) :
    w.evaluateOnce = some (w.settleLane n) := by
  have found : laneIds.find? w.settles = some n := by
    cases h : laneIds.find? w.settles with
    | none => exact absurd ((Wall.find_settles_none.mp h n).symm.trans hn) (by decide)
    | some m =>
      by_contra other
      exact absurd ((ho m fun e => other (congrArg some e)).symm.trans (List.find?_some h)) (by decide)
  simp only [Wall.evaluateOnce, found]

/-- The wall when a LANE CLOSE just placed in a lane has been accepted. -/
def Wall.laneCloseBegun (n : LaneId) (x : SlotId) (tag : Word) (w : Wall) : Wall :=
  ((w.posted (lanePage n) x .laneClose tag []).modLane n fun l => { l with state := .closing }).startWork (lanePage n) x

/-- Work starts in a slot that is POSTED or in progress (R31). -/
theorem Wall.startWork_listed {w : Wall} {p : PageId} {x : SlotId} (h : (w.slot p x).state.listed = true) :
    (w.startWork p x).slot p x = { w.slot p x with state := w.workState } := by
  rw [Wall.startWork_slot, if_pos h]

section
variable {w : Wall} {n : LaneId} {x : SlotId} (tag : Word)

theorem Wall.laneCloseBegun_slot : (w.laneCloseBegun n x tag).slot (lanePage n) x =
    { w.slot (lanePage n) x with body := orderBody .laneClose tag [], state := w.workState } := by
  have posted : ((w.posted (lanePage n) x .laneClose tag []).modLane n fun l => { l with state := .closing }).slot (lanePage n) x =
      { w.slot (lanePage n) x with body := orderBody .laneClose tag [], state := .posted } := Wall.posted_slot ..
  rw [Wall.laneCloseBegun, Wall.startWork_listed (by rw [posted]; rfl), posted]
  rfl

theorem Wall.laneCloseBegun_other {q : PageId} {y : SlotId} (h : (q, y) ≠ (lanePage n, x)) : (w.laneCloseBegun n x tag).slot q y = w.slot q y := by
  rw [Wall.laneCloseBegun, Wall.startWork, Wall.modSlot_slot_other _ _ h]
  exact Wall.posted_other _ _ _ _ h

theorem Wall.laneCloseBegun_lane {m : LaneId} (h : m ≠ n) : (w.laneCloseBegun n x tag).lanes.get m = w.lanes.get m := tabMod_get_other _ _ h

theorem Wall.workState_inProgress (w : Wall) : w.workState.inProgress = true := by
  unfold Wall.workState
  split <;> rfl

/-- The LANE CLOSE is the only order in progress in its lane. -/
theorem Wall.laneCloseBegun_only (idle : ∀ y, (w.slot (lanePage n) y).state.inProgress = false) (y : SlotId) :
    ((w.laneCloseBegun n x tag).slot (lanePage n) y).state.inProgress = true ↔ y = x := by
  by_cases e : y = x
  · subst e
    simp [Wall.laneCloseBegun_slot, Wall.workState_inProgress]
  · simp [Wall.laneCloseBegun_other tag fun both => e (Prod.mk.inj both).2, idle, e]

theorem Wall.laneCloseBegun_kindAt : (w.laneCloseBegun n x tag).kindAt (lanePage n) x = some .laneClose := by
  rw [Wall.kindAt, Wall.laneCloseBegun_slot]
  exact kindOn_lanePage n .laneClose (by decide)

theorem Wall.laneCloseBegun_orderOf (idle : ∀ y, (w.slot (lanePage n) y).state.inProgress = false) :
    (w.laneCloseBegun n x tag).orderOf n .laneClose = some x := by
  cases found : (w.laneCloseBegun n x tag).orderOf n .laneClose with
  | none =>
    have away := (findSlot_eq_none _).mp found x
    rw [Wall.laneCloseBegun_kindAt, (Wall.laneCloseBegun_only tag idle x).mpr rfl] at away
    exact absurd away (by decide)
  | some y => rw [(Wall.laneCloseBegun_only tag idle y).mp (Wall.orderOf_some found).1]

/-- Its lane settles next, and no other does (R3). -/
theorem Wall.laneCloseBegun_evaluateOnce (h : w.TakesNow (lanePage n) x .laneClose)
    (idle : ∀ y, (w.slot (lanePage n) y).state.inProgress = false) :
    (w.laneCloseBegun n x tag).evaluateOnce = some ((w.laneCloseBegun n x tag).settleLane n) := by
  refine Wall.evaluateOnce_settle ?_ fun m e => ?_
  · have closing : ((w.laneCloseBegun n x tag).lanes.get n).state = .closing :=
      congrArg Lane.state (tabMod_get_same w.lanes n fun l => { l with state := .closing })
    simp only [Wall.settles, closing, beq_self_eq_true, Bool.true_and, Option.isNone_iff_eq_none, findSlot_eq_none]
    intro y
    by_cases e : y = x
    · rw [e, Wall.laneCloseBegun_kindAt]
      simp
    · rw [Bool.eq_false_iff.mpr fun running => e ((Wall.laneCloseBegun_only tag idle y).mp running)]
      rfl
  · refine Wall.settles_mono (w := w) (congrArg Lane.state (Wall.laneCloseBegun_lane tag e)) (fun y hy hk => ?_) (h.settles m)
    have apart : (lanePage m, y) ≠ (lanePage n, x) := fun both => e (Fin.castSucc_injective _ (Prod.mk.inj both).1)
    have kept := Wall.laneCloseBegun_other (w := w) tag apart
    rw [kept, Wall.kindAt_congr (congrArg Slot.body kept)]
    exact ⟨hy, hk⟩

end

/-- What the settling leaves of the lane, of the LANE CLOSE and of the other lanes (R3). -/
theorem Wall.settleLane_laneClose {w : Wall} {n : LaneId} {x : SlotId} (h : w.orderOf n .laneClose = some x) :
    ((w.settleLane n).lanes.get n).state = (if w.lockedOut n then .lockedOut else .closed)
    ∧ ((w.settleLane n).slot (lanePage n) x).state = .finished
    ∧ ((w.settleLane n).slot (lanePage n) x).result = resultWords .done (w.slot (lanePage n) x).tooLate w.port.seconds []
    ∧ ∀ m, m ≠ n → (w.settleLane n).lanes.get m = w.lanes.get m := by
  have settled : w.settleLane n =
      (w.modLane n fun l => { l with state := if w.lockedOut n then .lockedOut else .closed }).finish (lanePage n) x .done [] := by
    simp only [Wall.settleLane, h]
  have slot := Wall.finish_slot (lanePage n) x .done [] (w.modLane n fun l => { l with state := if w.lockedOut n then .lockedOut else .closed })
  rw [settled, slot]
  refine ⟨?_, rfl, rfl, fun m e => ?_⟩
  · simp [Wall.finish, Wall.finishAt_lanes, Lane.leave]
  · simp [Wall.finish, Wall.finishAt_lanes, tabMod_get_other _ _ e]

/-- Settles O25: the order is taken at once, and the checks of its kind say which of its endings the taking is. -/
theorem laneOrders : Obligations.LaneOrders := by
  unfold Obligations.LaneOrders
  refine ⟨fun w n y => ⟨w.checkLane_laneOpen n y, w.checkLane_laneClose n y⟩, fun s n x tag on => ?_⟩
  have open_kind := s.wall.posted_kindAt n x .laneOpen tag [] (by decide)
  have open_checks := s.wall.posted_refusal n x (k := .laneOpen) tag [] (by decide)
  rw [Wall.checkLane_laneOpen] at open_checks
  refine ⟨fun h unlocked hl => ?_, fun h locked => ?_, fun h unlocked hl => ?_, fun h => ?_⟩
  · refine State.place_takes on (Wall.takesNow_iff.mp h) tag [] open_kind ?_
    rw [unlocked, if_neg (by decide), if_neg hl] at open_checks
    exact Wall.take_lane open_kind open_checks
  · refine State.place_takes on (Wall.takesNow_iff.mp h) tag [] open_kind ?_
    rw [locked, if_pos rfl] at open_checks
    exact Wall.take_refused open_checks
  · refine State.place_takes on (Wall.takesNow_iff.mp h) tag [] open_kind ?_
    rw [unlocked, if_neg (by decide), if_pos hl] at open_checks
    exact Wall.take_refused open_checks
  · have close_kind := s.wall.posted_kindAt n x .laneClose tag [] (by decide)
    have takes := Wall.takesNow_iff.mp h
    have taken : (s.wall.posted (lanePage n) x .laneClose tag []).take (lanePage n) x =
        (s.wall.posted (lanePage n) x .laneClose tag []).acceptLaneClose n x :=
      Wall.take_lane close_kind (s.wall.posted_refusal n x tag [] (by decide))
    refine ⟨fun hl => ?_, fun hl => ?_, fun hl idle => ?_⟩
    · exact State.place_takes on takes tag [] close_kind (taken.trans (Wall.acceptLaneClose_closed hl))
    · exact State.place_takes on takes tag [] close_kind (taken.trans (Wall.acceptLaneClose_closing hl))
    · have begun := State.place_takes on takes tag [] close_kind (taken.trans (Wall.acceptLaneClose_closing (.inl hl)))
      obtain ⟨state, finished, result, others⟩ := Wall.settleLane_laneClose (Wall.laneCloseBegun_orderOf (x := x) tag idle)
      have settles : State.evaluatedFor 79 { s with latch := none, wall := s.wall.laneCloseBegun n x tag } =
          State.evaluatedFor 78 { s with latch := none, wall := (s.wall.laneCloseBegun n x tag).settleLane n } :=
        State.evaluatedFor_some (s := { s with latch := none, wall := s.wall.laneCloseBegun n x tag })
          (Wall.laneCloseBegun_evaluateOnce tag takes idle) 78
      refine ⟨_, rfl, begun.trans (congrArg Host.Outcome.next settles), state, finished, ?_,
        fun m e => (others m e).trans (Wall.laneCloseBegun_lane tag e)⟩
      rw [Wall.laneCloseBegun_slot] at result
      exact result

end Sys2Proof.Machine
end

section
/-! PROOF. A DEPOSIT, a CAPTURE and a RETURN begin (O36). -/

namespace Sys2Proof.Machine

/-! ### An order that waits for its drawer, alone (R11) -/

/-- An order that is accepted and requests its lane's STOWED drawer waits for it alone, whatever its acceptance does to the lane's pocket and to its own slot. -/
theorem Wall.waitsAlone_request {u v : Wall} {n : LaneId} {x : SlotId} {pocket : Pocket} (drawers : u.nextGrant n = none)
    (hd : (u.lanes.get n).drawer = .stowed) (hf : (u.lanes.get n).forced = false) (ho : (u.lanes.get n).owner = none)
    (hl : v.lanes.get n = { u.lanes.get n with pocket := pocket, waiting := (u.lanes.get n).waiting ++ [x] })
    (lanes : ∀ m, m ≠ n → v.lanes.get m = u.lanes.get m) (slots : ∀ p y, (p, y) ≠ (lanePage n, x) → v.slot p y = u.slot p y)
    (body : (v.slot (lanePage n) x).body = (u.slot (lanePage n) x).body) (accepted : (v.slot (lanePage n) x).state = .accepted) :
    Wall.WaitsAlone u v n x := by
  rw [Wall.waiting_nil drawers hd hf ho] at hl
  refine ⟨by rw [hl, hd], by rw [hl, hf], by rw [hl, ho], by rw [hl]; rfl, by rw [hl], lanes, fun p y => ?_, fun p y hy => ?_⟩
  · apply Wall.kindAt_congr
    by_cases e : (p, y) = (lanePage n, x)
    · obtain ⟨rfl, rfl⟩ := Prod.mk.inj e
      exact body
    · rw [slots p y e]
  · by_cases e : (p, y) = (lanePage n, x)
    · obtain ⟨rfl, rfl⟩ := Prod.mk.inj e
      rw [accepted]
      rfl
    · rwa [slots p y e]

/-- The evaluations of a command whose order is taken, and then granted its drawer (R11). -/
theorem State.place_grants {s : State} {n : LaneId} {x : SlotId} {k : Kind} (on : s.supply = true) (h : s.wall.TakesNow (lanePage n) x k)
    (tag : Word) (params : List Word) (hk : k.track ≠ .service)
    (alone : Wall.WaitsAlone (s.wall.posted (lanePage n) x k tag params) ((s.wall.posted (lanePage n) x k tag params).take (lanePage n) x) n x) :
    s.onBus (Wall.place (lanePage n) x k tag params) = .next (State.evaluatedFor 78
      { s with latch := none, wall := ((s.wall.posted (lanePage n) x k tag params).take (lanePage n) x).grantDrawer n x }) := by
  have granted := State.evaluatedFor_some
    (s := { s with latch := none, wall := (s.wall.posted (lanePage n) x k tag params).take (lanePage n) x })
    (alone.evaluateOnce (h.posted_settles tag params) (h.posted_nextGrant tag params)) 78
  exact (State.place_takes on h tag params (s.wall.posted_kindAt n x k tag params hk) rfl).trans (congrArg Host.Outcome.next granted)

/-! ### What a grant to each of the two kinds does (R11, R17, R9) -/

/-- The drawer is given to an order (R11). -/
def Wall.giveDrawer (n : LaneId) (x : SlotId) (w : Wall) : Wall :=
  w.modLane n fun l => { l with owner := some x, ownerClose := none, waiting := l.waiting.filter fun y => y ≠ x }

theorem Wall.grantDrawer_deposit {w : Wall} {n : LaneId} {x : SlotId} (h : w.kindAt (lanePage n) x = some .deposit) :
    w.grantDrawer n x = ((w.giveDrawer n x).startWork (lanePage n) x).startDeposit n := by
  simp only [Wall.grantDrawer, h]
  rfl

theorem Wall.grantDrawer_return {w : Wall} {n : LaneId} {x : SlotId} (h : w.kindAt (lanePage n) x = some .returnEnvelope) :
    w.grantDrawer n x = ((w.giveDrawer n x).startWork (lanePage n) x).startLift n .liftToDrawer := by
  simp only [Wall.grantDrawer, h]
  rfl

/-- An order that is ACCEPTED has its work started by the grant. -/
theorem Wall.giveDrawer_startWork {w : Wall} {n : LaneId} {x : SlotId} (h : (w.slot (lanePage n) x).state = .accepted) :
    ((w.giveDrawer n x).startWork (lanePage n) x).slot (lanePage n) x = { w.slot (lanePage n) x with state := w.workState } :=
  Wall.startWork_listed (w := w.giveDrawer n x) (congrArg SlotState.listed h)

/-- The lane of a DEPOSIT that is granted its drawer (R11, R17, R6). -/
theorem Wall.depositGranted_lane (w : Wall) (n : LaneId) (x : SlotId) :
    (((w.giveDrawer n x).startWork (lanePage n) x).startDeposit n).lanes.get n =
      { w.lanes.get n with
          owner := some x, ownerClose := none, waiting := (w.lanes.get n).waiting.filter (fun y => y ≠ x), cycle := .deposit, result := .none,
          late := false, shortTimer := false, drawer := .opening, travel := .outward, budgetMs := 4000,
          stowedSensor := (w.lanes.get n).stowedSensor && w.held,
          leaving := (w.lanes.get n).leaving || (w.lanes.get n).stowedSensor } := by
  rw [Wall.startDeposit, Wall.startOpen_lane, Wall.modLane_get_same]
  have given : ((w.giveDrawer n x).startWork (lanePage n) x).lanes.get n =
      { w.lanes.get n with owner := some x, ownerClose := none, waiting := (w.lanes.get n).waiting.filter (fun y => y ≠ x) } :=
    Wall.modLane_get_same ..
  rw [given]
  rfl

/-- The lane of a RETURN that is granted its drawer (R11, R134, R9). -/
theorem Wall.returnGranted_lane (w : Wall) (n : LaneId) (x : SlotId) :
    (((w.giveDrawer n x).startWork (lanePage n) x).startLift n .liftToDrawer).lanes.get n =
      { w.lanes.get n with
          owner := some x, ownerClose := none, waiting := (w.lanes.get n).waiting.filter (fun y => y ≠ x), drawer := .lifting,
          travel := .liftToDrawer, budgetMs := 3000 } := by
  have given : ((w.giveDrawer n x).startWork (lanePage n) x).lanes.get n =
      { w.lanes.get n with owner := some x, ownerClose := none, waiting := (w.lanes.get n).waiting.filter (fun y => y ≠ x) } :=
    Wall.modLane_get_same ..
  rw [Wall.startLift, Wall.modLane_get_same, given]

theorem Wall.acceptSlot_slot (p : PageId) (x : SlotId) (w : Wall) : (w.acceptSlot p x).slot p x = { w.slot p x with state := .accepted } :=
  Wall.modSlot_slot_same ..

theorem Wall.acceptSlot_other {p q : PageId} {x y : SlotId} (w : Wall) (h : (q, y) ≠ (p, x)) : (w.acceptSlot p x).slot q y = w.slot q y :=
  Wall.modSlot_slot_other _ _ h

theorem Wall.requestDrawer_lane (n : LaneId) (x : SlotId) (w : Wall) :
    (w.requestDrawer n x).lanes.get n = { w.lanes.get n with waiting := (w.lanes.get n).waiting ++ [x] } := Wall.modLane_get_same ..

theorem Wall.pocketMove_lane (n : LaneId) (st : PocketState) (owner : Option SlotId) (w : Wall) :
    (w.pocketMove n st owner).lanes.get n =
      { w.lanes.get n with
          pocket := { (w.lanes.get n).pocket with state := st, owner := owner, holdMs := 0, timerRunning := false, stranded := false } } :=
  Wall.modLane_get_same ..

theorem Wall.checkLane_deposit_none {w : Wall} {n : LaneId} (y : Slot) (unlocked : w.lockdown = false) (opened : (w.lanes.get n).state = .opened)
    (pocket : (w.lanes.get n).pocket.state = .empty) (room : (w.bins.get depositBin).count < (w.bins.get depositBin).capacity)
    (drawer : (w.lanes.get n).drawer = .stowed) : w.checkLane n .deposit y = none := by
  simp [Wall.checkLane_deposit, unlocked, opened, pocket, Nat.not_le.mpr room, drawer]

/-- A DEPOSIT that passes its checks is accepted and granted its drawer, whose deposit cycle starts (R124, R11, R17). -/
theorem depositBegins {s : State} {n : LaneId} {x : SlotId} (tag : Word) (on : s.supply = true) (h : s.wall.TakesNow (lanePage n) x .deposit)
    (unlocked : s.wall.lockdown = false) (opened : (s.wall.lanes.get n).state = .opened) (pocket : (s.wall.lanes.get n).pocket.state = .empty)
    (room : (s.wall.bins.get depositBin).count < (s.wall.bins.get depositBin).capacity) (drawer : (s.wall.lanes.get n).drawer = .stowed)
    (unforced : (s.wall.lanes.get n).forced = false) (free : (s.wall.lanes.get n).owner = none) :
    ∃ t,
        t = { s with latch := none, wall := ((s.wall.posted (lanePage n) x .deposit tag []).take (lanePage n) x).grantDrawer n x }
      ∧ exec (.deposit n x tag) s = .next (t.evaluatedFor 78) ∧ (t.wall.slot (lanePage n) x).state = s.wall.workState
      ∧ (t.wall.lanes.get n).owner = some x ∧ (t.wall.lanes.get n).waiting = []
      ∧ (t.wall.lanes.get n).drawer = .opening ∧ (t.wall.lanes.get n).travel = .outward ∧ (t.wall.lanes.get n).budgetMs = 4000
      ∧ (t.wall.lanes.get n).cycle = .deposit ∧ (t.wall.lanes.get n).result = .none ∧ (t.wall.lanes.get n).late = false
      ∧ (t.wall.lanes.get n).pocket = (s.wall.lanes.get n).pocket ∧ t.wall.transport = s.wall.transport
      ∧ t.wall.conveyor = s.wall.conveyor ∧ ∀ m, m ≠ n → t.wall.lanes.get m = s.wall.lanes.get m := by
  generalize hu : s.wall.posted (lanePage n) x .deposit tag [] = u
  have lanes : u.lanes = s.wall.lanes := by rw [← hu]; rfl
  have kind : u.kindAt (lanePage n) x = some .deposit := hu ▸ s.wall.posted_kindAt n x .deposit tag [] (by decide)
  have checks : u.refusal (lanePage n) x = none := by
    rw [← hu, Wall.posted_refusal n x tag [] _ (by decide)]
    exact Wall.checkLane_deposit_none _ unlocked opened pocket room drawer
  have taken : u.take (lanePage n) x = (u.acceptSlot (lanePage n) x).requestDrawer n x := Wall.take_lane kind checks
  have accepted : ((u.acceptSlot (lanePage n) x).requestDrawer n x).slot (lanePage n) x = { u.slot (lanePage n) x with state := .accepted } :=
    Wall.acceptSlot_slot (lanePage n) x u
  have alone : Wall.WaitsAlone u (u.take (lanePage n) x) n x := by
    rw [taken]
    refine Wall.waitsAlone_request (pocket := (u.lanes.get n).pocket) (hu ▸ h.posted_nextGrant tag [] n) ?_ ?_ ?_
      (Wall.requestDrawer_lane ..) (fun m e => Wall.modLane_get_other _ _ e) (fun p y e => Wall.acceptSlot_other u e)
      (by rw [accepted]) (by rw [accepted]) <;> rw [lanes] <;> assumption
  have granted := State.place_grants on h tag [] (by decide) (hu ▸ alone)
  rw [hu] at granted
  refine ⟨_, rfl, granted, ?_⟩
  rw [taken] at alone ⊢
  rw [Wall.grantDrawer_deposit ((alone.kinds _ x).trans kind)]
  refine ⟨?_, ?_⟩
  · have started := Wall.giveDrawer_startWork (w := (u.acceptSlot (lanePage n) x).requestDrawer n x) (congrArg Slot.state accepted)
    refine (congrArg Slot.state started).trans ?_
    rw [← hu]
    rfl
  · rw [Wall.depositGranted_lane, alone.waiting]
    refine ⟨rfl, by simp, rfl, rfl, rfl, rfl, rfl, rfl, ?_, ?_, ?_, fun m e => ?_⟩
    · rw [Wall.requestDrawer_lane]
      exact congrArg (fun l => (l.get n).pocket) lanes
    · rw [← hu]
      rfl
    · rw [← hu]
      rfl
    · refine ((Wall.startOpen_frame n _).1 m e).trans ((Wall.modLane_get_other _ _ e).trans ((Wall.modLane_get_other _ _ e).trans ((alone.lanes m e).trans ?_)))
      rw [lanes]

/-! ### A CAPTURE and a RETURN (R133, R134) -/

theorem Wall.checkLane_capture_none {w : Wall} {n : LaneId} (y : Slot) (pocket : (w.lanes.get n).pocket.state = .held)
    (room : (w.bins.get depositBin).count < (w.bins.get depositBin).capacity) (belt : w.conveyor.state ≠ .faulted) :
    w.checkLane n .capture y = none := by
  simp [Wall.checkLane_capture, pocket, Nat.not_le.mpr room, belt]

/-- A CAPTURE that passes its checks claims the pocket and queues its lane (R133). -/
theorem captureBegins {s : State} {n : LaneId} {x : SlotId} (tag : Word) (on : s.supply = true) (h : s.wall.TakesNow (lanePage n) x .capture)
    (pocket : (s.wall.lanes.get n).pocket.state = .held) (room : (s.wall.bins.get depositBin).count < (s.wall.bins.get depositBin).capacity)
    (belt : s.wall.conveyor.state ≠ .faulted) :
    ∃ t,
        t = { s with latch := none, wall := (s.wall.posted (lanePage n) x .capture tag []).take (lanePage n) x }
      ∧ exec (.capture n x tag) s = .next (t.evaluatedFor 79) ∧ (t.wall.slot (lanePage n) x).state = .accepted
        ∧ t.wall.lanes.get n =
          { s.wall.lanes.get n with
              pocket := { (s.wall.lanes.get n).pocket with
                            state := .captureWait, owner := some x, holdMs := 0, timerRunning := false, stranded := false } }
        ∧ t.wall.conveyor = { s.wall.conveyor with queue := s.wall.conveyor.queue ++ [n] }
        ∧ t.wall.bins = s.wall.bins ∧ ∀ m, m ≠ n → t.wall.lanes.get m = s.wall.lanes.get m := by
  have kind := s.wall.posted_kindAt n x .capture tag [] (by decide)
  have checks := s.wall.posted_refusal n x (k := .capture) tag [] (by decide)
  have taken : (s.wall.posted (lanePage n) x .capture tag []).take (lanePage n) x =
      (s.wall.posted (lanePage n) x .capture tag []).acceptCapture n x :=
    Wall.take_lane kind (checks.trans (Wall.checkLane_capture_none _ pocket room belt))
  refine ⟨_, rfl, State.place_takes on h tag [] kind rfl, ?_⟩
  rw [taken]
  refine ⟨congrArg Slot.state (Wall.acceptSlot_slot (lanePage n) x _), Wall.pocketMove_lane .., rfl, rfl, fun m e => ?_⟩
  exact Wall.modLane_get_other _ _ e

theorem Wall.checkLane_return_none {w : Wall} {n : LaneId} (y : Slot) (pocket : (w.lanes.get n).pocket.state = .held)
    (drawer : (w.lanes.get n).drawer = .stowed) : w.checkLane n .returnEnvelope y = none := by
  simp [Wall.checkLane_returnEnvelope, pocket, drawer]

/-- A RETURN that passes its checks claims the pocket and is granted its drawer, whose lift starts (R134, R11, R9). -/
theorem returnBegins {s : State} {n : LaneId} {x : SlotId} (tag : Word) (on : s.supply = true)
    (h : s.wall.TakesNow (lanePage n) x .returnEnvelope) (pocket : (s.wall.lanes.get n).pocket.state = .held)
    (drawer : (s.wall.lanes.get n).drawer = .stowed) (unforced : (s.wall.lanes.get n).forced = false)
    (free : (s.wall.lanes.get n).owner = none) :
    ∃ t,
        t = { s with latch := none, wall := ((s.wall.posted (lanePage n) x .returnEnvelope tag []).take (lanePage n) x).grantDrawer n x }
      ∧ exec (.returnOrder n x tag) s = .next (t.evaluatedFor 78) ∧ (t.wall.slot (lanePage n) x).state = s.wall.workState
        ∧ (t.wall.lanes.get n).owner = some x ∧ (t.wall.lanes.get n).waiting = []
        ∧ (t.wall.lanes.get n).drawer = .lifting ∧ (t.wall.lanes.get n).travel = .liftToDrawer ∧ (t.wall.lanes.get n).budgetMs = 3000
        ∧ (t.wall.lanes.get n).pocket =
          { (s.wall.lanes.get n).pocket with
              state := .returning, owner := some x, holdMs := 0, timerRunning := false, stranded := false }
        ∧ t.wall.conveyor = s.wall.conveyor ∧ ∀ m, m ≠ n → t.wall.lanes.get m = s.wall.lanes.get m := by
  generalize hu : s.wall.posted (lanePage n) x .returnEnvelope tag [] = u
  have lanes : u.lanes = s.wall.lanes := by rw [← hu]; rfl
  have kind : u.kindAt (lanePage n) x = some .returnEnvelope := hu ▸ s.wall.posted_kindAt n x .returnEnvelope tag [] (by decide)
  have checks : u.refusal (lanePage n) x = none := by
    rw [← hu, Wall.posted_refusal n x tag [] _ (by decide)]
    exact Wall.checkLane_return_none _ pocket drawer
  have taken : u.take (lanePage n) x = u.acceptReturn n x := Wall.take_lane kind checks
  have accepted : (u.acceptReturn n x).slot (lanePage n) x = { u.slot (lanePage n) x with state := .accepted } :=
    Wall.acceptSlot_slot (lanePage n) x u
  have lane : (u.acceptReturn n x).lanes.get n =
      { u.lanes.get n with
          pocket := { (u.lanes.get n).pocket with state := .returning, owner := some x, holdMs := 0, timerRunning := false, stranded := false },
          waiting := (u.lanes.get n).waiting ++ [x] } := by
    rw [Wall.acceptReturn, Wall.requestDrawer_lane, Wall.pocketMove_lane]
    rfl
  have others : ∀ m, m ≠ n → (u.acceptReturn n x).lanes.get m = u.lanes.get m := fun m e =>
    (Wall.modLane_get_other _ _ e).trans (Wall.modLane_get_other _ _ e)
  have alone : Wall.WaitsAlone u (u.take (lanePage n) x) n x := by
    rw [taken]
    refine Wall.waitsAlone_request (hu ▸ h.posted_nextGrant tag [] n) ?_ ?_ ?_ lane others (fun p y e => Wall.acceptSlot_other u e)
      (by rw [accepted]) (by rw [accepted]) <;> rw [lanes] <;> assumption
  have granted := State.place_grants on h tag [] (by decide) (hu ▸ alone)
  rw [hu] at granted
  refine ⟨_, rfl, granted, ?_⟩
  rw [taken] at alone ⊢
  rw [Wall.grantDrawer_return ((alone.kinds _ x).trans kind)]
  refine ⟨?_, ?_⟩
  · have started := Wall.giveDrawer_startWork (congrArg Slot.state accepted)
    refine (congrArg Slot.state started).trans ?_
    rw [← hu]
    rfl
  · rw [Wall.returnGranted_lane, alone.waiting]
    refine ⟨rfl, by simp, rfl, rfl, rfl, ?_, ?_, fun m e => ?_⟩
    · rw [lane, lanes]
    · rw [← hu]
      rfl
    · refine (Wall.modLane_get_other _ _ e).trans ((Wall.modLane_get_other _ _ e).trans ((others m e).trans ?_))
      rw [lanes]

/-- Settles O36, kind by kind. -/
theorem envelopeOrdersBegin : Obligations.EnvelopeOrdersBegin := by
  unfold Obligations.EnvelopeOrdersBegin
  refine ⟨fun s n x tag on h unlocked opened pocket room drawer unforced free => ?_, fun s n x tag on pocket =>
    ⟨fun h room belt => ?_, fun h drawer unforced free => ?_⟩⟩
  · exact depositBegins tag on (Wall.takesNow_iff.mp h) unlocked opened pocket room drawer unforced free
  · exact captureBegins tag on (Wall.takesNow_iff.mp h) pocket room belt
  · exact returnBegins tag on (Wall.takesNow_iff.mp h) pocket drawer unforced free

end Sys2Proof.Machine
end

section
/-! PROOF. A DISPENSE begins (O34). -/

namespace Sys2Proof.Machine

/-! ### The context of a DISPENSE that is not in tenure (R91) -/

theorem Wall.modContext_progress {w : Wall} {n : LaneId} {x : SlotId} (f : DispenseContext → DispenseContext) (order : w.orderOf n .dispense = some x)
    (apart : w.engine.loaded.map Loaded.lane ≠ some n) :
    w.modContext n f = w.modSlot (lanePage n) x fun y => { y with context := y.context.map f } := by
  unfold Wall.modContext
  simp only [order]
  split
  · next l loaded =>
    rw [loaded, Option.map_some] at apart
    rw [if_neg fun same => apart (congrArg some same)]
  · rfl

theorem Wall.contextOf_progress {w : Wall} {n : LaneId} {x : SlotId} (order : w.orderOf n .dispense = some x)
    (apart : w.engine.loaded.map Loaded.lane ≠ some n) : w.contextOf n = (w.slot (lanePage n) x).context := by
  unfold Wall.contextOf
  simp only [order]
  split
  · next l loaded =>
    rw [loaded, Option.map_some] at apart
    rw [if_neg fun same => apart (congrArg some same)]
    rfl
  · rfl

/-! ### The grant of a BUNDLE request (R89, R92) -/

/-- The only request is a lane's BUNDLE request, and nothing keeps the path from it. -/
theorem Wall.transportGrant_bundle {w : Wall} {n : LaneId} (idle : w.transport.state = .idle) (free : w.held = false) (unlocked : w.lockdown = false)
    (queue : w.transport.queue = [{ lane := n, kind := .bundle }]) : w.transportGrant = w.grantBundle n := by
  unfold Wall.transportGrant
  rw [if_pos ⟨idle, free⟩]
  simp [queue, Wall.tryRetracts, unlocked]

/-- The context that the engine loads at the grant (R91, R92). -/
def Wall.loadedContext (w : Wall) (c : DispenseContext) : DispenseContext :=
  { c with phase := Phase.building, target := min w.bundleLimit (Counts.total c.outstanding) }

/-- The wall when the lane's bundle has been granted and its context loaded, before the order's work starts. -/
def Wall.bundleLoaded (n : LaneId) (x : SlotId) (c : DispenseContext) (w : Wall) : Wall :=
  ((((w.dropRequest n .bundle).modTransport fun t => { t with state := .granted, join := .dispense n, silentMs := 0 }).gatePrepare.modGate
    fun g => { g with acceptEnable := true }).modEngine fun e =>
      { e with loaded := some { lane := n, slot := x, context := w.loadedContext c }, routedInBundle := 0, lastRelease := none,
               sinceRelease := 0 })

theorem Wall.grantBundle_accepted {w : Wall} {n : LaneId} {x : SlotId} {c : DispenseContext} (order : w.orderOf n .dispense = some x)
    (context : (w.slot (lanePage n) x).context = some c) (accepted : (w.slot (lanePage n) x).state = .accepted) :
    w.grantBundle n = (w.bundleLoaded n x c).startWork (lanePage n) x := by
  unfold Wall.grantBundle
  dsimp only
  split
  · next none_found => exact absurd (order.symm.trans none_found) (by simp)
  · next y found =>
    obtain rfl : x = y := Option.some.inj (order.symm.trans found)
    split
    · next no_context => exact absurd (context.symm.trans no_context) (by simp)
    · next d found_context =>
      obtain rfl : c = d := Option.some.inj (context.symm.trans found_context)
      exact if_pos accepted

/-! ### The acceptance of a DISPENSE (R55, R91) -/

/-- The context of a DISPENSE that has just been accepted (R91). -/
def DispenseContext.begun (acceptance : Nat) (mix : Counts) : DispenseContext :=
  { phase := .drawerWait, acceptance := acceptance, outstanding := mix, routed := Counts.zero, rejects := 0, bundles := 0,
    target := 0, inDrawer := 0, final := false, takenLate := false, endCause := .none, remixes := 0 }

section
variable {w : Wall} {n : LaneId} {x : SlotId} {mix : Counts}

theorem Wall.acceptDispense_slot (h : w.orderMix (w.slot (lanePage n) x) = some mix) :
    (w.acceptDispense n x).slot (lanePage n) x =
      { w.slot (lanePage n) x with state := .accepted, context := some (DispenseContext.begun (w.engine.acceptances + 1) mix) } := by
  simp only [Wall.acceptDispense, h, Option.getD_some]
  exact Wall.modSlot_slot_same ..

theorem Wall.acceptDispense_other {q : PageId} {y : SlotId} (e : (q, y) ≠ (lanePage n, x)) : (w.acceptDispense n x).slot q y = w.slot q y :=
  Wall.modSlot_slot_other (p := lanePage n) (x := x) _ _ e

theorem Wall.acceptDispense_lane :
    (w.acceptDispense n x).lanes.get n = { w.lanes.get n with waiting := (w.lanes.get n).waiting ++ [x] } := Wall.requestDrawer_lane ..

theorem Wall.acceptDispense_cassettes (h : w.orderMix (w.slot (lanePage n) x) = some mix) (c : CassId) :
    ((w.acceptDispense n x).cassettes.get c).reserved = (w.cassettes.get c).reserved + mix.get c := by
  simp only [Wall.acceptDispense, h, Option.getD_some]
  exact congrArg Cassette.reserved (tabMap_get w.cassettes (fun c y => { y with reserved := y.reserved + mix.get c }) c)

theorem Wall.acceptDispense_tally (h : w.orderMix (w.slot (lanePage n) x) = some mix) :
    ((w.acceptDispense n x).tallyOf n).map Tally.chosen = some mix := by
  simp only [Wall.acceptDispense, h, Option.getD_some]
  exact congrArg (Option.map Tally.chosen) (tabSet_get_same w.engine.tallies n _)

end

/-- An order that is placed and taken passed the checks of its kind (R30). -/
theorem Wall.checkLane_of_refusal {w : Wall} {n : LaneId} {x : SlotId} {k : Kind} (hk : w.kindAt (lanePage n) x = some k)
    (h : w.refusal (lanePage n) x = none) : w.checkLane n k (w.slot (lanePage n) x) = none := by
  cases good : w.wellFormed k (w.slot (lanePage n) x) with
  | false => rw [Wall.refusal_malformed hk good] at h; cases h
  | true => rwa [Wall.refusal_lane hk good] at h

/-- A DISPENSE that passes its checks finds no lockdown and no path fault (R35). -/
theorem Wall.checkLane_dispense_passed {w : Wall} {n : LaneId} {y : Slot} (h : w.checkLane n .dispense y = none) :
    w.lockdown = false ∧ w.transport.state ≠ .faulted := by
  rw [Wall.checkLane_dispense] at h
  split at h
  · cases h
  · next unlocked =>
    refine ⟨Bool.eq_false_iff.mpr unlocked, fun faulted => ?_⟩
    rw [if_pos faulted] at h
    split at h
    · cases h
    · split at h <;> cases h

/-! ### The grant of the drawer to a DISPENSE just accepted (R11, R88) -/

/-- The one order of a kind in progress on a lane's page. -/
theorem Wall.orderOf_only {w : Wall} {n : LaneId} {k : Kind} {x : SlotId} (running : (w.slot (lanePage n) x).state.inProgress = true)
    (kind : w.kindAt (lanePage n) x = some k)
    (only : ∀ y, y ≠ x → (w.slot (lanePage n) y).state.inProgress = true → w.kindAt (lanePage n) y ≠ some k) : w.orderOf n k = some x := by
  cases found : w.orderOf n k with
  | none =>
    have away := (findSlot_eq_none _).mp found x
    rw [running, kind, beq_self_eq_true] at away
    cases away
  | some y =>
    obtain ⟨hy, hk⟩ := Wall.orderOf_some found
    by_contra other
    exact only y (fun e => other (congrArg some e)) hy hk

/-- A free track has no order of its kinds in progress (R27). -/
theorem Wall.TakesNow.free_track {w : Wall} {p : PageId} {x : SlotId} {k : Kind} (h : w.TakesNow p x k) (hk : k ≠ .releaseWall) {y : SlotId} {j : Kind}
    (hj : j.track = k.track) (hy : (w.slot p y).state.inProgress = true) : w.kindAt p y ≠ some j := by
  intro named
  have free := h.track
  rw [Wall.trackOpen] at free
  cases found : w.occupant p k.track with
  | some o =>
    rw [found] at free
    simp [hk] at free
  | none =>
    have away := (findSlot_eq_none _).mp found y
    rw [hy, Wall.onTrack, named, Option.map_some, hj, beq_self_eq_true] at away
    cases away

/-- The wall in which a DISPENSE, accepted with a mix, has its BUNDLE request in the queue. -/
structure Wall.Queued (u q : Wall) (n : LaneId) (x : SlotId) (mix : Counts) : Prop where
  order : q.orderOf n .dispense = some x
  slot : q.slot (lanePage n) x =
    { u.slot (lanePage n) x with
        state := .accepted, context := some { DispenseContext.begun (u.engine.acceptances + 1) mix with phase := .bundleWait } }
  owner : (q.lanes.get n).owner = some x
  lanes : ∀ m, m ≠ n → q.lanes.get m = u.lanes.get m
  reserved : ∀ c, (q.cassettes.get c).reserved = (u.cassettes.get c).reserved + mix.get c
  chosen : (q.tallyOf n).map Tally.chosen = some mix
  acceptances : q.engine.acceptances = u.engine.acceptances + 1
  loaded : q.engine.loaded = u.engine.loaded
  transport : q.transport = { u.transport with queue := u.transport.queue ++ [{ lane := n, kind := .bundle }] }
  frame : q.alarm = u.alarm ∧ q.port = u.port ∧ q.profile = u.profile

/-- What the grant of the drawer and the BUNDLE request do to an accepted DISPENSE's wall (R11, R88). -/
theorem Wall.queueBundle_given {v : Wall} {n : LaneId} {x : SlotId} (order : v.orderOf n .dispense = some x)
    (apart : v.engine.loaded.map Loaded.lane ≠ some n) :
    (v.giveDrawer n x).queueBundle n =
      (((v.giveDrawer n x).modSlot (lanePage n) x fun y => { y with context := y.context.map fun c => { c with phase := .bundleWait } }).modTransport
        fun t => { t with queue := t.queue ++ [{ lane := n, kind := .bundle }] }) := by
  rw [Wall.queueBundle, Wall.modContext_progress (w := v.giveDrawer n x) _ order apart]

theorem Wall.queueBundle_given_frame {v : Wall} {n : LaneId} {x : SlotId} (order : v.orderOf n .dispense = some x)
    (apart : v.engine.loaded.map Loaded.lane ≠ some n) :
    (v.giveDrawer n x).queueBundle n =
      { v with pages := ((v.giveDrawer n x).queueBundle n).pages, lanes := ((v.giveDrawer n x).queueBundle n).lanes,
               transport := { v.transport with queue := v.transport.queue ++ [{ lane := n, kind := .bundle }] } } := by
  rw [Wall.queueBundle_given order apart]
  rfl

theorem Wall.queueBundle_given_slot {v : Wall} {n : LaneId} {x : SlotId} (order : v.orderOf n .dispense = some x)
    (apart : v.engine.loaded.map Loaded.lane ≠ some n) :
    ((v.giveDrawer n x).queueBundle n).slot (lanePage n) x =
        { v.slot (lanePage n) x with context := (v.slot (lanePage n) x).context.map fun c => { c with phase := .bundleWait } }
      ∧ ∀ q y, (q, y) ≠ (lanePage n, x) → ((v.giveDrawer n x).queueBundle n).slot q y = v.slot q y := by
  rw [Wall.queueBundle_given order apart]
  exact ⟨Wall.modSlot_slot_same (lanePage n) x _ (v.giveDrawer n x), fun q y e => Wall.modSlot_slot_other _ (v.giveDrawer n x) e⟩

theorem Wall.queueBundle_given_lanes {v : Wall} {n : LaneId} {x : SlotId} (order : v.orderOf n .dispense = some x)
    (apart : v.engine.loaded.map Loaded.lane ≠ some n) :
    (((v.giveDrawer n x).queueBundle n).lanes.get n).owner = some x
      ∧ ∀ m, m ≠ n → ((v.giveDrawer n x).queueBundle n).lanes.get m = v.lanes.get m := by
  rw [Wall.queueBundle_given order apart]
  exact ⟨congrArg Lane.owner (Wall.modLane_get_same n _ v), fun m e => Wall.modLane_get_other _ v e⟩

theorem Wall.acceptDispense_frame (n : LaneId) (x : SlotId) (u : Wall) :
    u.acceptDispense n x =
      { u with pages := (u.acceptDispense n x).pages, lanes := (u.acceptDispense n x).lanes, cassettes := (u.acceptDispense n x).cassettes,
               engine := { u.engine with acceptances := u.engine.acceptances + 1, tallies := (u.acceptDispense n x).engine.tallies } } := rfl

theorem Wall.queued_dispense {u : Wall} {n : LaneId} {x : SlotId} {mix : Counts} (h : u.orderMix (u.slot (lanePage n) x) = some mix)
    (kind : u.kindAt (lanePage n) x = some .dispense)
    (only : ∀ y, y ≠ x → (u.slot (lanePage n) y).state.inProgress = true → u.kindAt (lanePage n) y ≠ some .dispense)
    (apart : u.engine.loaded.map Loaded.lane ≠ some n) :
    Wall.Queued u (((u.acceptDispense n x).giveDrawer n x).queueBundle n) n x mix := by
  have frame := Wall.acceptDispense_frame n x u
  have accepted := Wall.acceptDispense_slot h
  have others : ∀ q y, (q, y) ≠ (lanePage n, x) → (u.acceptDispense n x).slot q y = u.slot q y := fun q y => Wall.acceptDispense_other
  have reserved := Wall.acceptDispense_cassettes h
  have chosen := Wall.acceptDispense_tally h
  have lanes : ∀ m, m ≠ n → (u.acceptDispense n x).lanes.get m = u.lanes.get m := fun m => Wall.modLane_get_other _ _
  generalize u.acceptDispense n x = v at *
  have loaded : v.engine.loaded = u.engine.loaded := by rw [frame]
  have order : v.orderOf n .dispense = some x := by
    refine Wall.orderOf_only (by rw [accepted]; rfl) ((Wall.kindAt_congr (by rw [accepted])).trans kind) fun y e hy => ?_
    have kept := others (lanePage n) y fun both => e (Prod.mk.inj both).2
    rw [kept] at hy
    rw [Wall.kindAt_congr (congrArg Slot.body kept)]
    exact only y e hy
  have free : v.engine.loaded.map Loaded.lane ≠ some n := by rwa [loaded]
  obtain ⟨slot, rest⟩ := Wall.queueBundle_given_slot order free
  obtain ⟨owner, apart_lanes⟩ := Wall.queueBundle_given_lanes order free
  have queued := Wall.queueBundle_given_frame order free
  generalize (v.giveDrawer n x).queueBundle n = q at *
  refine ⟨?_, by rw [slot, accepted]; rfl, owner, fun m e => (apart_lanes m e).trans (lanes m e), fun c => by rw [queued]; exact reserved c,
    by rw [queued]; exact chosen, by rw [queued, frame], by rw [queued, frame], by rw [queued, frame], by rw [queued, frame]; exact ⟨rfl, rfl, rfl⟩⟩
  have kept : ∀ y, (q.slot (lanePage n) y).state = (v.slot (lanePage n) y).state ∧ (q.slot (lanePage n) y).body = (v.slot (lanePage n) y).body := by
    intro y
    by_cases e : y = x
    · subst e
      rw [slot]
      exact ⟨rfl, rfl⟩
    · rw [rest _ y fun both => e (Prod.mk.inj both).2]
      exact ⟨rfl, rfl⟩
  exact (Wall.orderOf_congr (fun y _ => by rw [(kept y).1]) fun y => Wall.kindAt_congr (kept y).2).trans order

theorem Wall.grantDrawer_dispense {w : Wall} {n : LaneId} {x : SlotId} (kind : w.kindAt (lanePage n) x = some .dispense)
    (unlocked : w.lockdown = false) (path : w.transport.state ≠ .faulted) :
    w.grantDrawer n x = ((w.giveDrawer n x).queueBundle n).transportGrant := by
  simp only [Wall.grantDrawer, kind, unlocked]
  exact if_neg path

/-! ### The path finds the request (R89) -/

/-- A wall with a DISPENSE's BUNDLE request queued, and the path not free for it (R89). -/
theorem Wall.Queued.busy {u q : Wall} {n : LaneId} {x : SlotId} {mix : Counts} (h : Wall.Queued u q n x mix)
    (apart : u.engine.loaded.map Loaded.lane ≠ some n) (busy : u.transport.state ≠ .idle ∨ u.held = true) :
    q.transportGrant = q
      ∧ q.contextOf n = some { DispenseContext.begun (u.engine.acceptances + 1) mix with phase := .bundleWait } := by
  obtain ⟨-, port, -⟩ := h.frame
  refine ⟨Wall.transportGrant_busy ?_, (Wall.contextOf_progress h.order (h.loaded ▸ apart)).trans (by rw [h.slot])⟩
  rw [h.transport, Wall.held, port]
  exact busy

/-- What the grant of the one BUNDLE request leaves (R89, R91, R92). -/
theorem Wall.Queued.granted {u q : Wall} {n : LaneId} {x : SlotId} {mix : Counts} (h : Wall.Queued u q n x mix) (unlocked : u.lockdown = false)
    (idle : u.transport.state = .idle) (free : u.held = false) (queue : u.transport.queue = []) :
    q.transportGrant = (q.bundleLoaded n x { DispenseContext.begun (u.engine.acceptances + 1) mix with phase := .bundleWait }).startWork (lanePage n) x
      := by
  obtain ⟨alarm, port, -⟩ := h.frame
  rw [Wall.transportGrant_bundle (n := n), Wall.grantBundle_accepted h.order (by rw [h.slot]) (by rw [h.slot])]
  · rw [h.transport, idle]
  · rw [Wall.held, port]
    exact free
  · rw [Wall.lockdown, alarm]
    exact unlocked
  · rw [h.transport, queue]
    rfl

/-- The context that the granted bundle has (R91, R92). -/
theorem Wall.bundleLoaded_contextOf (n : LaneId) (x : SlotId) (c : DispenseContext) (w : Wall) :
    ((w.bundleLoaded n x c).startWork (lanePage n) x).contextOf n = some (w.loadedContext c) := if_pos rfl

/-- The one request is dropped from the queue. -/
theorem Wall.dropRequest_queue {n : LaneId} {w : Wall} (h : w.transport.queue = [{ lane := n, kind := .bundle }]) :
    (w.dropRequest n .bundle).transport.queue = [] := by
  show w.transport.queue.filter (fun r => !(r.lane == n && r.kind == .bundle)) = []
  rw [h]
  simp

/-- Settles O34: the DISPENSE is accepted, waits for its drawer alone, is granted it, and requests the path. -/
theorem dispenseBegins : Obligations.DispenseBegins := by
  unfold Obligations.DispenseBegins
  intro s n x tag mode amount c0 c1 c2 c3 on takesNow checks mix chosen drawer unforced ownerless apart
  have h := Wall.takesNow_iff.mp takesNow
  have settled := h.posted_nextGrant tag [mode, amount, c0, c1, c2, c3] n
  have running := h.posted_inProgress tag [mode, amount, c0, c1, c2, c3] (lanePage n)
  have kinds := fun y hy => h.posted_kind_inProgress tag [mode, amount, c0, c1, c2, c3] (q := lanePage n) (y := y) hy
  have kind := s.wall.posted_kindAt n x .dispense tag [mode, amount, c0, c1, c2, c3] (by decide)
  have slot := Wall.posted_slot (lanePage n) x .dispense tag [mode, amount, c0, c1, c2, c3] s.wall
  have placed := State.place_grants on h tag [mode, amount, c0, c1, c2, c3] (by decide)
  have frame := Wall.posted_frame (lanePage n) x .dispense tag [mode, amount, c0, c1, c2, c3] s.wall
  generalize s.wall.posted (lanePage n) x .dispense tag [mode, amount, c0, c1, c2, c3] = u at *
  have listing : u.orderMix (u.slot (lanePage n) x) = some mix := by
    rw [slot, frame]
    exact chosen
  have lanes : u.lanes = s.wall.lanes := by rw [frame]
  have engine : u.engine = s.wall.engine := by rw [frame]
  have transport : u.transport = s.wall.transport := by rw [frame]
  have port : u.port = s.wall.port := by rw [frame]
  have cassettes : u.cassettes = s.wall.cassettes := by rw [frame]
  have profile : u.profile = s.wall.profile := by rw [frame]
  rw [← lanes] at drawer unforced ownerless
  rw [← engine] at apart
  obtain ⟨unlocked, path⟩ := Wall.checkLane_dispense_passed (Wall.checkLane_of_refusal kind checks)
  have only : ∀ y, y ≠ x → (u.slot (lanePage n) y).state.inProgress = true → u.kindAt (lanePage n) y ≠ some .dispense := fun y _ hy => by
    rw [running] at hy
    rw [kinds y hy]
    exact h.free_track (by decide) rfl hy
  have taken : u.take (lanePage n) x = u.acceptDispense n x := Wall.take_lane kind checks
  have accepted := Wall.acceptDispense_slot listing
  have alone : Wall.WaitsAlone u (u.acceptDispense n x) n x :=
    Wall.waitsAlone_request (pocket := (u.lanes.get n).pocket) settled drawer unforced ownerless Wall.acceptDispense_lane
      (fun m e => Wall.modLane_get_other _ _ e) (fun p y e => Wall.acceptDispense_other e) (by rw [accepted]) (by rw [accepted])
  have grant : (u.acceptDispense n x).grantDrawer n x = (((u.acceptDispense n x).giveDrawer n x).queueBundle n).transportGrant :=
    Wall.grantDrawer_dispense ((alone.kinds _ x).trans kind) unlocked path
  have queued := Wall.queued_dispense listing kind only apart
  rw [taken] at placed ⊢
  rw [grant] at placed ⊢
  refine ⟨fun _ => placed alone, fun busy => ⟨_, rfl, placed alone, ?_⟩, fun idle free queue => ⟨_, rfl, placed alone, ?_⟩⟩
  · generalize ((u.acceptDispense n x).giveDrawer n x).queueBundle n = q at *
    obtain ⟨same, context⟩ := queued.busy apart (by rw [transport, Wall.held, port]; exact busy)
    rw [same, ← cassettes, ← transport, ← engine, ← lanes, context]
    exact ⟨queued.reserved, queued.owner, by rw [queued.slot], queued.transport, queued.acceptances, rfl, rfl, queued.chosen, queued.lanes⟩
  · generalize ((u.acceptDispense n x).giveDrawer n x).queueBundle n = q at *
    have free' : q.held = false := by rw [Wall.held, queued.frame.2.1, port]; exact free
    have limit : q.bundleLimit = s.wall.bundleLimit := by rw [Wall.bundleLimit, Wall.setting, queued.frame.2.2, profile]; rfl
    have request : q.transport.queue = [{ lane := n, kind := .bundle }] := by rw [queued.transport, transport, queue]; rfl
    rw [queued.granted unlocked (transport ▸ idle) (by rw [Wall.held, port]; exact free) (transport ▸ queue), ← cassettes, ← lanes,
      Wall.bundleLoaded_contextOf]
    refine ⟨queued.reserved, queued.owner, ?_, rfl, rfl, Wall.dropRequest_queue request, rfl, rfl, rfl, rfl, ?_, rfl, queued.chosen, queued.lanes⟩
    · have listed : ((q.bundleLoaded n x { DispenseContext.begun (u.engine.acceptances + 1) mix with phase := .bundleWait }).slot (lanePage n)
          x).state.listed = true := (congrArg (fun y => y.state.listed) queued.slot)
      rw [Wall.startWork_listed listed]
      show q.workState = .running
      rw [Wall.workState, free']
      rfl
    · rw [← limit]
      rfl

end Sys2Proof.Machine
end

section
/-! PROOF. The cancel event (O17): the bits that make one, and the answer to it by each state of its slot (R40, R41). -/

namespace Sys2Proof.Machine

/-! ### The bits of F0 and F1 -/

theorem cancelPlace_lane (n : LaneId) (x : SlotId) : cancelPlace (lanePage n) x = (0, 4 * n.val + x.val) := by
  simp only [cancelPlace, laneOf_lanePage]

/-- The bit of a slot names the slot, and lies in F0 or F1 (2.5). -/
theorem cancelSlot_cancelPlace (p : PageId) (x : SlotId) : cancelSlot (cancelPlace p x).1 (cancelPlace p x).2 = (p, x) := by
  revert p x; decide

theorem cancelPlace_flag (p : PageId) (x : SlotId) : (cancelPlace p x).1 = 0 ∨ (cancelPlace p x).1 = 1 := by revert p x; decide

theorem cancelPlace_bit (p : PageId) (x : SlotId) : (cancelPlace p x).2 < 16 := by revert p x; decide

theorem onesOf_one {i : Nat} (h : i < 16) : onesOf (1#16 <<< i) = [i] := by
  have each : ∀ j : Fin 16, onesOf (1#16 <<< j.val) = [j.val] := by decide
  exact each ⟨i, h⟩

theorem onesOf_zero : onesOf 0#16 = [] := by decide

/-- Bits 4 to 15 of F1 make no event (R161). -/
theorem onesOf_masked (v old : Word) : onesOf (v &&& flagMask 1 &&& ~~~old) = (List.range 4).filter fun i => (v &&& flagMask 1 &&& ~~~old).getLsbD i := by
  have parts : List.range 16 = List.range 4 ++ [4, 5, 6, 7, 8, 9, 10, 11, 12, 13, 14, 15] := by decide
  have mask : ∀ i ∈ [4, 5, 6, 7, 8, 9, 10, 11, 12, 13, 14, 15], (flagMask 1).getLsbD i = false := by decide
  have none_high : ([4, 5, 6, 7, 8, 9, 10, 11, 12, 13, 14, 15].filter fun i => (v &&& flagMask 1 &&& ~~~old).getLsbD i) = [] :=
    List.filter_eq_nil_iff.mpr fun i hi => by simp [mask i hi]
  rw [onesOf, parts, List.filter_append, none_high, List.append_nil]

/-- The events of a write, in rising order of page and slot (log 11): the set bits of the slots are the set bits of the word. -/
theorem cancel_order (k : Fin 16) (hk : k.val < 2) (v old : Word) :
    ((pageIds.flatMap fun q => laneIds.map fun y => (q, y)).filter fun y =>
        decide ((cancelPlace y.1 y.2).1 = k) && (v &&& flagMask k &&& ~~~old).getLsbD (cancelPlace y.1 y.2).2) =
      (onesOf (v &&& flagMask k &&& ~~~old)).map (cancelSlot k) := by
  obtain rfl | rfl : k = 0 ∨ k = 1 := by omega
  · have places : ((pageIds.flatMap fun q => laneIds.map fun y => (q, y)).filter fun y => decide ((cancelPlace y.1 y.2).1 = 0)) =
        (List.range 16).map (cancelSlot 0) := by decide
    have named : ∀ i ∈ List.range 16, (cancelPlace (cancelSlot 0 i).1 (cancelSlot 0 i).2).2 = i := by decide
    rw [← List.filter_filter, List.filter_comm, places, List.filter_map, onesOf]
    exact congrArg _ (List.filter_congr fun i hi => by simp only [Function.comp, named i hi])
  · have places : ((pageIds.flatMap fun q => laneIds.map fun y => (q, y)).filter fun y => decide ((cancelPlace y.1 y.2).1 = 1)) =
        (List.range 4).map (cancelSlot 1) := by decide
    have named : ∀ i ∈ List.range 4, (cancelPlace (cancelSlot 1 i).1 (cancelSlot 1 i).2).2 = i := by decide
    rw [onesOf_masked, ← List.filter_filter, List.filter_comm, places, List.filter_map]
    exact congrArg _ (List.filter_congr fun i hi => by simp only [Function.comp, named i hi])

/-- The event of a bit of F0 or F1 is a cancel event (R40). -/
theorem Wall.flagEvent_cancel {k : Fin 16} (hk : k = 0 ∨ k = 1) (i : Nat) (w : Wall) :
    w.flagEvent k i = w.cancelEvent (cancelSlot k i).1 (cancelSlot k i).2 := if_pos hk

/-- A write to F0 or F1 makes the cancel events of the bits it newly sets, and the evaluations follow (R40, R161). -/
theorem Wall.setFlags_cancel {k : Fin 16} (hk : k = 0 ∨ k = 1) (v : Word) (w : Wall) :
    w.setFlags k v = ((onesOf (v &&& flagMask k &&& ~~~(w.flags.get k))).foldl
      (fun w i => w.cancelEvent (cancelSlot k i).1 (cancelSlot k i).2)
      (w.modFlag k fun f => f ||| (v &&& flagMask k &&& ~~~(w.flags.get k)))).evaluate := by
  have small : k.val < 2 := by rcases hk with rfl | rfl <;> decide
  simp only [Wall.setFlags, small, if_true, Wall.flagEvent_cancel hk]

theorem Wall.modFlag_or_zero (k : Fin 16) (w : Wall) : (w.modFlag k fun f => f ||| 0#16) = w := by
  rw [Wall.modFlag, tabMod_same _ _ _ (by simp)]

/-! ### The answers that need no rule of a kind (R41) -/

theorem Wall.cancelEvent_posted {w : Wall} {p : PageId} {x : SlotId} (h : (w.slot p x).state = .posted) :
    w.cancelEvent p x = (w.closeSlot p x .finished .cancelled []).answerCancel p x := by
  simp only [Wall.cancelEvent, h]

theorem Wall.cancelEvent_inProgress {w : Wall} {p : PageId} {x : SlotId} (h : (w.slot p x).state.inProgress = true) :
    w.cancelEvent p x = w.cancelOrder p x := by
  unfold Wall.cancelEvent
  cases e : (w.slot p x).state <;> rw [e] at h <;> first | rfl | exact absurd h (by decide)

theorem Wall.cancelEvent_idle {w : Wall} {p : PageId} {x : SlotId}
    (h : (w.slot p x).state = .empty ∨ (w.slot p x).state = .finished ∨ (w.slot p x).state = .refused) :
    w.cancelEvent p x = w.answerCancel p x := by
  rcases h with h | h | h <;> simp only [Wall.cancelEvent, h]

theorem Wall.cancelOrder_refused {w : Wall} {p : PageId} {x : SlotId}
    (h : p = servicePage ∨ w.kindAt p x = some .laneClose ∨ (w.slot p x).tooLate = true) : w.cancelOrder p x = w.refuseCancel p x := by
  unfold Wall.cancelOrder
  rcases h with rfl | h | h
  · simp only [laneOf_servicePage]
  · split
    · rfl
    · simp only [h, ite_self]
  · split
    · rfl
    · exact if_pos h

/-- An answered cancel's bit is clear (R41). -/
theorem Wall.answerCancel_bit (p : PageId) (x : SlotId) (w : Wall) :
    ((w.answerCancel p x).flags.get (cancelPlace p x).1).getLsbD (cancelPlace p x).2 = false := by
  have cleared : (w.answerCancel p x).flags.get (cancelPlace p x).1 = w.flags.get (cancelPlace p x).1 &&& ~~~(1#16 <<< (cancelPlace p x).2) :=
    tabMod_get_same ..
  have bit := cancelPlace_bit p x
  rw [cleared]
  simp [bit]

/-- A cancel of a POSTED slot ends it CANCELLED, and touches no other slot (R41). -/
theorem cancelEvent_posted_spec (w : Wall) (p : PageId) (x : SlotId) (h : (w.slot p x).state = .posted) :
    ((w.cancelEvent p x).slot p x).state = .finished
    ∧ ((w.cancelEvent p x).slot p x).result =
        [word 6, word (markBit 0 (w.slot p x).tooLate), highWord w.port.seconds, lowWord w.port.seconds]
    ∧ ((w.cancelEvent p x).slot p x).body = (w.slot p x).body
    ∧ ((w.cancelEvent p x).pages.get p).posting = (w.pages.get p).posting.filter (fun y => y ≠ x)
    ∧ ((w.cancelEvent p x).flags.get (cancelPlace p x).1).getLsbD (cancelPlace p x).2 = false
    ∧ (∀ q y, (q, y) ≠ (p, x) → (w.cancelEvent p x).slot q y = w.slot q y)
    ∧ w.cancelEvent p x = { w with pages := (w.cancelEvent p x).pages, flags := (w.cancelEvent p x).flags } := by
  have closed := Wall.closeSlot_slot p x .finished .cancelled [] w
  have frame := Wall.closeSlot_frame p x .finished .cancelled [] w
  have others := fun q y (e : (q, y) ≠ (p, x)) => Wall.closeSlot_other .finished .cancelled [] w e
  have listing : ((w.closeSlot p x .finished .cancelled []).pages.get p).posting = (w.pages.get p).posting.filter fun y => y ≠ x :=
    (Wall.closeSlotAt_posting ..).trans (if_pos rfl)
  rw [Wall.cancelEvent_posted h]
  generalize w.closeSlot p x .finished .cancelled [] = v at *
  have same : ∀ q y, (v.answerCancel p x).slot q y = v.slot q y := fun _ _ => rfl
  rw [same, closed]
  exact ⟨rfl, rfl, rfl, listing, v.answerCancel_bit p x, others, by rw [frame]; rfl⟩

/-- The cancel events of a write to F0 or F1 (R40, R161; log 11). -/
theorem cancelWrites {s : State} (p : PageId) (x : SlotId) (v : Word) (on : s.supply = true) :
    (v &&& flagMask (cancelPlace p x).1 &&& ~~~(s.wall.flags.get (cancelPlace p x).1) = 1#16 <<< (cancelPlace p x).2 →
      exec (.flagSetAlias (cancelPlace p x).1 v) s = .next
        { s with latch := none,
                 wall := ((s.wall.modFlag (cancelPlace p x).1 fun f => f ||| 1#16 <<< (cancelPlace p x).2).cancelEvent p x).evaluate })
    ∧ (∀ k : Fin 16, k.val < 2 → ∀ new, new = v &&& flagMask k &&& ~~~(s.wall.flags.get k) → exec (.flagSetAlias k v) s = .next
        { s with latch := none,
                 wall := (((pageIds.flatMap fun q => laneIds.map fun y => (q, y)).filter fun y =>
                     decide ((cancelPlace y.1 y.2).1 = k) && new.getLsbD (cancelPlace y.1 y.2).2).foldl
                   (fun w y => w.cancelEvent y.1 y.2) (s.wall.modFlag k fun f => f ||| new)).evaluate })
    ∧ (v &&& flagMask (cancelPlace p x).1 &&& ~~~(s.wall.flags.get (cancelPlace p x).1) = 0#16 →
      exec (.flagSetAlias (cancelPlace p x).1 v) s = .next (State.evaluated { s with latch := none })) := by
  refine ⟨fun h => State.onBus_wall on ?_, fun k hk new hnew => State.onBus_wall on ?_, fun h => State.onBus_wall on ?_⟩
  · rw [Wall.setFlags_cancel (cancelPlace_flag p x), h, onesOf_one (cancelPlace_bit p x), List.foldl_cons, List.foldl_nil, cancelSlot_cancelPlace]
  · rw [Wall.setFlags_cancel (by omega), hnew, cancel_order k hk, List.foldl_map]
  · rw [Wall.setFlags_cancel (cancelPlace_flag p x), h, onesOf_zero, List.foldl_nil, Wall.modFlag_or_zero]

end Sys2Proof.Machine
end

section
/-! PROOF. The cancel rules of the kinds but DISPENSE (O17): a RETRACT, a DEPOSIT, a CAPTURE and a RETURN that are in progress and were not answered TOO LATE
before. Each rule ends the order, closes its drawer, or answers TOO LATE. -/

namespace Sys2Proof.Machine

/-- The rule of its kind answers an order in progress (R41, R42). -/
theorem Wall.cancelEvent_rule {w : Wall} {n : LaneId} {x : SlotId} (running : (w.slot (lanePage n) x).state.inProgress = true)
    (fresh : (w.slot (lanePage n) x).tooLate = false) :
    w.cancelEvent (lanePage n) x =
      match w.kindAt (lanePage n) x with
      | some .dispense => w.cancelDispense n x
      | some .retract => w.cancelRetract n x
      | some .deposit => w.cancelDeposit n x
      | some .capture => w.cancelCapture n x
      | some .returnEnvelope => w.cancelReturn n x
      | _ => w.refuseCancel (lanePage n) x := by
  rw [Wall.cancelEvent_inProgress running, Wall.cancelOrder, laneOf_lanePage]
  simp only [fresh]
  rfl

theorem Wall.refuseCancel_eq (p : PageId) (x : SlotId) (w : Wall) :
    w.refuseCancel p x = (w.modSlot p x fun y => { y with tooLate := true }).clearFlagBit (cancelPlace p x).1 (cancelPlace p x).2 := rfl

/-- What an order that ends CANCELLED, after its cancel is answered, leaves of its slot and of its lane (R41, R32). -/
theorem Wall.cancelled_finish {v w : Wall} {n : LaneId} {x : SlotId} (fields : List Word) (slots : v.slot (lanePage n) x = w.slot (lanePage n) x)
    (port : v.port = w.port) (fresh : (w.slot (lanePage n) x).tooLate = false) :
    ((v.finish (lanePage n) x .cancelled fields).slot (lanePage n) x).state = .finished
      ∧ ((v.finish (lanePage n) x .cancelled fields).slot (lanePage n) x).result = resultWords .cancelled false w.port.seconds fields
      ∧ (v.finish (lanePage n) x .cancelled fields).lanes = tabMod v.lanes n (Lane.leave x)
      ∧ v.finish (lanePage n) x .cancelled fields =
        { v with pages := (v.finish (lanePage n) x .cancelled fields).pages, flags := (v.finish (lanePage n) x .cancelled fields).flags,
                 lanes := (v.finish (lanePage n) x .cancelled fields).lanes } := by
  have closed := Wall.finish_slot (lanePage n) x .cancelled fields v
  refine ⟨by rw [closed], by rw [closed, slots, fresh, port], Wall.finishAt_lanes .., Wall.finish_frame ..⟩

section
variable {w : Wall} {n : LaneId} {x : SlotId} (running : (w.slot (lanePage n) x).state.inProgress = true)
  (fresh : (w.slot (lanePage n) x).tooLate = false)
include running fresh

/-! ### RETRACT (R115) -/

theorem cancel_retract (kind : w.kindAt (lanePage n) x = some .retract) :
    (x ∈ (w.lanes.get n).waiting → ∃ t, t = w.cancelEvent (lanePage n) x ∧ (t.slot (lanePage n) x).state = .finished
        ∧ (t.slot (lanePage n) x).result = resultWords .cancelled false w.port.seconds [0#16, 0#16, 0#16, 0#16, 0#16]
        ∧ (t.lanes.get n).waiting = (w.lanes.get n).waiting.filter (fun y => y ≠ x) ∧ t.transport = w.transport)
      ∧ (x ∉ (w.lanes.get n).waiting → (w.lanes.get n).bundle.phase = .queued ∨ (w.lanes.get n).bundle.phase = .heldBack →
        w.orderOf n .dispense = none → w.orderOf n .retract = some x → (w.lanes.get n).owner = some x →
        ∃ t, t = w.cancelEvent (lanePage n) x ∧ (t.slot (lanePage n) x).state = .finished
        ∧ (t.slot (lanePage n) x).result = resultWords .cancelled false w.port.seconds [0#16, 0#16, 0#16, 0#16, 0#16]
        ∧ (t.lanes.get n).owner = none ∧ (t.lanes.get n).drawer = (w.lanes.get n).drawer ∧ (t.lanes.get n).bundle.phase = .none
        ∧ t.transport = { w.transport with queue := w.transport.queue.filter fun r => !(r.lane == n && r.kind == .retract) })
      ∧ (x ∉ (w.lanes.get n).waiting → (w.lanes.get n).bundle.phase = .sweeping ∨ (w.lanes.get n).bundle.phase = .draining →
        w.cancelEvent (lanePage n) x = w.refuseCancel (lanePage n) x) := by
  have rule := Wall.cancelEvent_rule running fresh
  rw [kind] at rule
  change _ = w.cancelRetract n x at rule
  rw [rule]
  refine ⟨fun waits => ⟨_, rfl, ?_⟩, fun away queued no_dispense order owner => ⟨_, rfl, ?_⟩, fun away swept => ?_⟩
  · rw [Wall.cancelRetract, if_pos waits]
    obtain ⟨state, result, lanes, frame⟩ := Wall.cancelled_finish (v := w.answerCancel (lanePage n) x) (retractFields BundleRecord.reset) rfl rfl fresh
    refine ⟨state, result, ?_, by rw [frame]; rfl⟩
    rw [lanes, tabMod_get_same]
    rfl
  · rw [Wall.cancelRetract, if_neg away, if_pos queued]
    have dropped : (w.answerCancel (lanePage n) x).dropRetract n .cancelled =
        (((w.answerCancel (lanePage n) x).dropRequest n .retract).modBundle n fun b => { b with phase := .none }).finish (lanePage n) x .cancelled
          (retractFields BundleRecord.reset) := by
      have no_dispense' : (((w.answerCancel (lanePage n) x).dropRequest n .retract).modBundle n fun b => { b with phase := .none }).orderOf n .dispense
          = none := no_dispense
      have order' : (((w.answerCancel (lanePage n) x).dropRequest n .retract).modBundle n fun b => { b with phase := .none }).orderOf n .retract
          = some x := order
      simp only [Wall.dropRetract, no_dispense', order']
    rw [dropped]
    obtain ⟨state, result, lanes, frame⟩ := Wall.cancelled_finish (w := w)
      (v := ((w.answerCancel (lanePage n) x).dropRequest n .retract).modBundle n fun b => { b with phase := .none })
      (retractFields BundleRecord.reset) rfl rfl fresh
    have lane : ((((w.answerCancel (lanePage n) x).dropRequest n .retract).modBundle n fun b => { b with phase := .none }).lanes.get n) =
        { w.lanes.get n with bundle := { (w.lanes.get n).bundle with phase := .none } } := Wall.modLane_get_same ..
    refine ⟨state, result, ?_, ?_, ?_, by rw [frame]; rfl⟩ <;> rw [lanes, tabMod_get_same, lane]
    · exact if_pos owner
    · rfl
    · rfl
  · have granted : ¬((w.lanes.get n).bundle.phase = .queued ∨ (w.lanes.get n).bundle.phase = .heldBack) := by
      rcases swept with e | e <;> rw [e] <;> decide
    rw [Wall.cancelRetract, if_neg away, if_neg granted]

/-! ### DEPOSIT (R126) -/

theorem cancel_deposit (kind : w.kindAt (lanePage n) x = some .deposit) :
    ((w.lanes.get n).owner ≠ some x → ∃ t, t = w.cancelEvent (lanePage n) x ∧ (t.slot (lanePage n) x).state = .finished
        ∧ (t.slot (lanePage n) x).result =
          resultWords .cancelled false w.port.seconds (depositFields (w.lanes.get n).closeCause .none (w.lanes.get n).pocket.state)
        ∧ (t.lanes.get n).waiting = (w.lanes.get n).waiting.filter (fun y => y ≠ x) ∧ (t.lanes.get n).pocket = (w.lanes.get n).pocket)
      ∧ ((w.lanes.get n).owner = some x → (w.slot (lanePage n) x).cancelPending = true → w.cancelEvent (lanePage n) x = w)
      ∧ ((w.lanes.get n).owner = some x → (w.slot (lanePage n) x).cancelPending = false →
        (w.lanes.get n).drawer = .opening ∨ (w.lanes.get n).drawer = .offered → ∃ t, t = w.cancelEvent (lanePage n) x
        ∧ t.slot (lanePage n) x = { w.slot (lanePage n) x with cancelPending := true } ∧ t.flags = w.flags
        ∧ (t.lanes.get n).drawer = .closing ∧ (t.lanes.get n).closeCause = .order ∧ (t.lanes.get n).budgetMs = 4000
        ∧ (t.lanes.get n).timerMs = 0 ∧ (t.lanes.get n).ownerClose = some .order)
      ∧ ((w.lanes.get n).owner = some x → (w.slot (lanePage n) x).cancelPending = false → (w.lanes.get n).drawer = .closing →
        w.cancelEvent (lanePage n) x =
          (w.modSlot (lanePage n) x fun y => { y with cancelPending := true }).modLane n fun l => { l with ownerClose := some .order })
      ∧ ((w.lanes.get n).owner = some x → (w.slot (lanePage n) x).cancelPending = false → (w.lanes.get n).drawer = .lifting →
        w.cancelEvent (lanePage n) x = w.refuseCancel (lanePage n) x) := by
  have rule := Wall.cancelEvent_rule running fresh
  rw [kind] at rule
  change _ = w.cancelDeposit n x at rule
  rw [rule]
  have owned : (w.lanes.get n).owner = some x → (w.slot (lanePage n) x).cancelPending = false → w.cancelDeposit n x =
      match (w.lanes.get n).drawer with
      | .opening | .offered | .closing => (w.modSlot (lanePage n) x fun y => { y with cancelPending := true }).closeByOwner n .order
      | _ => w.refuseCancel (lanePage n) x := fun owner pending => by
    simp only [Wall.cancelDeposit, owner, pending, ne_eq, not_true_eq_false, if_false]
    rfl
  refine ⟨fun other => ⟨_, rfl, ?_⟩, fun owner pending => ?_, fun owner pending out => ⟨_, rfl, ?_⟩, fun owner pending closing => ?_,
    fun owner pending lifting => ?_⟩
  · simp only [Wall.cancelDeposit, ne_eq, other, not_false_eq_true, if_true]
    obtain ⟨state, result, lanes, -⟩ := Wall.cancelled_finish (v := w.answerCancel (lanePage n) x)
      (depositFields (w.lanes.get n).closeCause .none (w.lanes.get n).pocket.state) rfl rfl fresh
    refine ⟨state, result, ?_, ?_⟩ <;> rw [lanes, tabMod_get_same] <;> rfl
  · simp only [Wall.cancelDeposit, owner, pending, ne_eq, not_true_eq_false, if_false, if_true]
  · have closes : w.cancelDeposit n x =
        (((w.modSlot (lanePage n) x fun y => { y with cancelPending := true }).startClose n .order).modLane n fun l =>
          { l with ownerClose := some .order }) := by
      rw [owned owner pending]
      rcases out with out | out <;> simp only [out, Wall.closeByOwner, Wall.modSlot_lanes]
    rw [closes, Wall.modLane_get_same, Wall.startClose_lane]
    exact ⟨Wall.modSlot_slot_same .., rfl, rfl, rfl, rfl, rfl, rfl⟩
  · rw [owned owner pending]
    simp only [closing, Wall.closeByOwner, Wall.modSlot_lanes]
  · rw [owned owner pending]
    simp only [lifting]

/-! ### CAPTURE and RETURN (R133, R135) -/

theorem cancel_capture (kind : w.kindAt (lanePage n) x = some .capture) :
    ((w.lanes.get n).pocket.state = .captureWait → ∃ t, t = w.cancelEvent (lanePage n) x ∧ (t.slot (lanePage n) x).state = .finished
        ∧ (t.slot (lanePage n) x).result = resultWords .cancelled false w.port.seconds
          [word (w.bins.get depositBin).count, word (markBit 0 (w.lanes.get n).pocket.unknownOrigin)]
        ∧ (t.lanes.get n).pocket.state = .held ∧ (t.lanes.get n).pocket.owner = none ∧ (t.lanes.get n).pocket.holdMs = w.holdLimitMs
        ∧ (t.lanes.get n).pocket.timerRunning = true
        ∧ t.conveyor = { w.conveyor with queue := w.conveyor.queue.filter fun m => m ≠ n })
      ∧ ((w.lanes.get n).pocket.state ≠ .captureWait → w.cancelEvent (lanePage n) x = w.refuseCancel (lanePage n) x) := by
  have rule := Wall.cancelEvent_rule running fresh
  rw [kind] at rule
  change _ = w.cancelCapture n x at rule
  rw [rule]
  refine ⟨fun waits => ⟨_, rfl, ?_⟩, fun other => if_neg other⟩
  simp only [Wall.cancelCapture, waits, if_true]
  obtain ⟨state, result, lanes, frame⟩ := Wall.cancelled_finish (w := w) (v := ((w.answerCancel (lanePage n) x).leaveQueue n).pocketHeld n)
    (w.captureFields (w.lanes.get n).pocket.unknownOrigin) rfl rfl fresh
  have lane : (((w.answerCancel (lanePage n) x).leaveQueue n).pocketHeld n).lanes.get n = _ := Wall.modLane_get_same ..
  refine ⟨state, result, ?_, ?_, ?_, ?_, by rw [frame]; rfl⟩ <;> rw [lanes, tabMod_get_same, lane] <;> rfl

theorem cancel_return (kind : w.kindAt (lanePage n) x = some .returnEnvelope) :
    ((w.lanes.get n).pocket.state = .captureWait ∨ (w.lanes.get n).pocket.state = .returning ∧ (w.lanes.get n).owner ≠ some x →
        ∃ t, t = w.cancelEvent (lanePage n) x ∧ (t.slot (lanePage n) x).state = .finished
        ∧ (t.slot (lanePage n) x).result = resultWords .cancelled false w.port.seconds
          (w.returnFields (if (w.lanes.get n).pocket.state = .captureWait then .left else .none))
        ∧ (t.lanes.get n).pocket.state = .held ∧ (t.lanes.get n).pocket.owner = none ∧ (t.lanes.get n).pocket.abandoned = false
        ∧ (t.lanes.get n).pocket.holdMs = w.holdLimitMs ∧ (t.lanes.get n).pocket.timerRunning = true
        ∧ (t.lanes.get n).waiting = (w.lanes.get n).waiting.filter (fun y => y ≠ x)
        ∧ ((w.lanes.get n).pocket.state = .captureWait →
          t.conveyor = { w.conveyor with queue := w.conveyor.queue.filter fun m => m ≠ n })
        ∧ ((w.lanes.get n).pocket.state = .returning → t.conveyor = w.conveyor))
      ∧ ((w.lanes.get n).pocket.state ≠ .captureWait → (w.lanes.get n).owner = some x →
        w.cancelEvent (lanePage n) x = w.refuseCancel (lanePage n) x) := by
  have rule := Wall.cancelEvent_rule running fresh
  rw [kind] at rule
  change _ = w.cancelReturn n x at rule
  rw [rule]
  refine ⟨fun waits => ⟨_, rfl, ?_⟩, fun other owner => ?_⟩
  · by_cases queued : (w.lanes.get n).pocket.state = .captureWait
    · have rule' : w.cancelReturn n x =
          (((w.answerCancel (lanePage n) x).leaveQueue n).pocketHeld n).finish (lanePage n) x .cancelled (w.returnFields .left) := if_pos queued
      rw [rule', if_pos queued]
      obtain ⟨state, result, lanes, frame⟩ := Wall.cancelled_finish (w := w) (v := ((w.answerCancel (lanePage n) x).leaveQueue n).pocketHeld n)
        (w.returnFields .left) rfl rfl fresh
      have lane : (((w.answerCancel (lanePage n) x).leaveQueue n).pocketHeld n).lanes.get n = _ := Wall.modLane_get_same ..
      refine ⟨state, result, ?_, ?_, ?_, ?_, ?_, ?_, fun _ => by rw [frame]; rfl,
        fun e => by rw [queued] at e; cases e⟩ <;>
        rw [lanes, tabMod_get_same, lane] <;> rfl
    · have returning := waits.resolve_left queued
      have rule' : w.cancelReturn n x = ((w.answerCancel (lanePage n) x).pocketHeld n).finish (lanePage n) x .cancelled (w.returnFields .none) :=
        (if_neg queued).trans (if_pos returning)
      rw [rule', if_neg queued]
      obtain ⟨state, result, lanes, frame⟩ := Wall.cancelled_finish (w := w) (v := (w.answerCancel (lanePage n) x).pocketHeld n)
        (w.returnFields .none) rfl rfl fresh
      have lane : ((w.answerCancel (lanePage n) x).pocketHeld n).lanes.get n = _ := Wall.modLane_get_same ..
      refine ⟨state, result, ?_, ?_, ?_, ?_, ?_, ?_, fun e => absurd e queued, fun _ => by rw [frame]; rfl⟩ <;>
        rw [lanes, tabMod_get_same, lane] <;> rfl
  · simp [Wall.cancelReturn, other, owner]

end

end Sys2Proof.Machine
end

section
/-! PROOF. The cancel rule of a DISPENSE (O17, R101): its end begins, and what follows is its phase's. -/

namespace Sys2Proof.Machine

/-! ### The end of a DISPENSE that is marked (R101, R58) -/

/-- The loaded context changes in the engine (R91). -/
theorem Wall.modContext_loaded {w : Wall} {n : LaneId} {x : SlotId} {l : Loaded} (f : DispenseContext → DispenseContext)
    (order : w.orderOf n .dispense = some x) (loaded : w.engine.loaded = some l) (same : l.lane = n) :
    (w.modContext n f).engine.loaded = some { l with context := f l.context } := by
  simp only [Wall.modContext, order, loaded, same, if_true]
  rfl

/-- A change of the context of a lane's DISPENSE is seen by who reads it, in the progress area or in the engine (R91). -/
theorem Wall.modContext_contextOf {w : Wall} {n : LaneId} {x : SlotId} (f : DispenseContext → DispenseContext) (order : w.orderOf n .dispense = some x) :
    (w.modContext n f).orderOf n .dispense = some x ∧ (w.modContext n f).contextOf n = (w.contextOf n).map f := by
  have moves := Wall.modContext_moves n f w
  have order' : (w.modContext n f).orderOf n .dispense = some x :=
    (Wall.orderOf_congr (fun y _ => by rw [moves.slot]) fun y => Wall.kindAt_congr (by rw [moves.slot])).trans order
  refine ⟨order', ?_⟩
  have progress : w.engine.loaded.map Loaded.lane ≠ some n → (w.modContext n f).contextOf n = (w.contextOf n).map f := fun apart => by
    have same : (w.modContext n f).engine.loaded = w.engine.loaded := by rw [Wall.modContext_progress f order apart]; rfl
    rw [Wall.contextOf_progress order' (same ▸ apart), Wall.contextOf_progress order apart, Wall.modContext_progress f order apart,
      Wall.modSlot_slot_same]
  cases loaded : w.engine.loaded with
  | none => exact progress (by rw [loaded]; simp)
  | some l =>
    by_cases same : l.lane = n
    · simp only [Wall.contextOf, Wall.modContext_loaded f order loaded same, loaded, same, if_true, Option.map_some]
    · exact progress (by rw [loaded]; simpa using same)

/-- The first step of an end that begins: the end cause is set and a re-mix wait is cut (R101, R58). -/
def Wall.markEnd (n : LaneId) (cause : EndCause) (w : Wall) : Wall :=
  (w.modContext n fun c => { c with endCause := cause }).modTally n fun t => { t with remixWait := false }

/-- A lane's DISPENSE with its slot, its context and its tally. -/
structure Wall.Dispensing (w : Wall) (n : LaneId) (x : SlotId) (c : DispenseContext) (t : Tally) : Prop where
  order : w.orderOf n .dispense = some x
  context : w.contextOf n = some c
  tally : w.tallyOf n = some t

section
variable {w : Wall} {n : LaneId} {x : SlotId} {c : DispenseContext} {ty : Tally}

theorem Wall.Dispensing.marked (h : w.Dispensing n x c ty) (cause : EndCause) :
    (w.markEnd n cause).Dispensing n x { c with endCause := cause } { ty with remixWait := false } := by
  obtain ⟨order, context⟩ := Wall.modContext_contextOf (fun c => { c with endCause := cause }) h.order
  have engine : (w.modContext n fun c => { c with endCause := cause }).tallyOf n = some ty := by
    rw [Wall.tallyOf, (Wall.modContext_moves n _ w).frame]
    exact h.tally
  refine ⟨order, context.trans (by rw [h.context]; rfl), ?_⟩
  exact (tabMod_get_same _ n (Option.map fun t : Tally => { t with remixWait := false })).trans (congrArg _ engine)

/-- The mark changes the pages and the engine alone, and of a slot its progress area. -/
theorem Wall.markEnd_frame (n : LaneId) (cause : EndCause) (w : Wall) :
    w.markEnd n cause = { w with pages := (w.markEnd n cause).pages, engine := (w.markEnd n cause).engine } := by
  have moves := Wall.modContext_moves n (fun c => { c with endCause := cause }) w
  unfold Wall.markEnd
  generalize w.modContext n (fun c => { c with endCause := cause }) = v at *
  rw [moves.frame]
  rfl

theorem Wall.markEnd_slot (n : LaneId) (cause : EndCause) (w : Wall) (p : PageId) (y : SlotId) :
    (w.markEnd n cause).slot p y = { w.slot p y with context := ((w.markEnd n cause).slot p y).context } :=
  (Wall.modContext_moves n (fun c => { c with endCause := cause }) w).slot p y

/-- The end of a DISPENSE that builds no bundle begins with the mark alone. -/
theorem Wall.Dispensing.beginEnd (h : w.Dispensing n x c ty) (cause : EndCause) (phase : c.phase ≠ .building) :
    w.beginEnd n cause = w.markEnd n cause := by
  have context : ((w.modContext n fun c => { c with endCause := cause }).modTally n fun t => { t with remixWait := false }).contextOf n =
      some { c with endCause := cause } := (h.marked cause).context
  simp only [Wall.beginEnd, context, phase, if_false]
  rfl

/-- The end of a DISPENSE that builds a bundle takes accept enable away, and the tenure ends where nothing is on its way (R94). -/
theorem Wall.Dispensing.beginEnd_building (h : w.Dispensing n x c ty) (cause : EndCause) (phase : c.phase = .building) :
    w.beginEnd n cause = ((w.markEnd n cause).modGate fun g => { g with acceptEnable := false }).checkEnding := by
  have context : ((w.modContext n fun c => { c with endCause := cause }).modTally n fun t => { t with remixWait := false }).contextOf n =
      some { c with endCause := cause } := (h.marked cause).context
  simp only [Wall.beginEnd, context, phase, if_true]
  rfl

theorem dispenseOutcome_cancel {c : DispenseContext} {ty : Tally} (sound : ty.faulted = false) :
    dispenseOutcome false { c with endCause := .cancel } { ty with remixWait := false } = .cancelled := by
  simp [dispenseOutcome, sound]

theorem Wall.Dispensing.endBegun (h : w.Dispensing n x c ty) : w.endBegun n = (!(c.endCause == .none) || ty.faulted) := by
  simp only [Wall.endBegun, h.context, h.tally, Option.map_some, Option.getD_some]

/-- The answer to a cancel changes the flag words alone, and nothing a DISPENSE is found by. -/
theorem Wall.Dispensing.answered (h : w.Dispensing n x c ty) (p : PageId) (y : SlotId) : (w.answerCancel p y).Dispensing n x c ty :=
  ⟨h.order, h.context, h.tally⟩

/-- What a cancelled DISPENSE that finishes leaves (R101, R105). -/
theorem Wall.Dispensing.cancelled {v : Wall} (h : v.Dispensing n x { c with endCause := .cancel } { ty with remixWait := false })
    (sound : ty.faulted = false) (fresh : (v.slot (lanePage n) x).tooLate = false) :
    ((v.finishDispense n false).slot (lanePage n) x).state = .finished
      ∧ ((v.finishDispense n false).slot (lanePage n) x).result.take 4 = resultWords .cancelled false v.port.seconds []
      ∧ (∀ k, ((v.finishDispense n false).cassettes.get k).reserved = (v.cassettes.get k).reserved - c.outstanding.get k)
      ∧ (v.finishDispense n false).tallyOf n = none
      ∧ ((v.finishDispense n false).lanes.get n).owner ≠ some x
      ∧ ((v.finishDispense n false).lanes.get n).waiting = (v.lanes.get n).waiting.filter (fun y => y ≠ x)
      ∧ (v.finishDispense n false).transport = v.transport
      ∧ (v.finishDispense n false).gate = v.gate
      ∧ ∀ m, m ≠ n → (v.finishDispense n false).lanes.get m = v.lanes.get m := by
  obtain ⟨state, result, -, lanes, tally, reserved, transport, ends, -⟩ := Wall.finishDispenseAt_spec v.decision false h.order h.context h.tally
  rw [dispenseOutcome_cancel sound, fresh] at result
  change (v.finishDispense n false).lanes = _ at lanes
  refine ⟨state, (congrArg (List.take 4) result).trans rfl, reserved, tally, ?_, ?_, transport, ?_, fun m e => ?_⟩
  · rw [lanes, tabMod_get_same]
    show (if (v.lanes.get n).owner = some x then none else (v.lanes.get n).owner) ≠ some x
    split
    · simp
    · next other => exact other
  · rw [lanes, tabMod_get_same]
    rfl
  · have frame := ends.frame
    change v.finishDispense n false = _ at frame
    rw [frame]
  · rw [lanes, tabMod_get_other _ _ e]

/-! ### The rule by its phase (R101) -/

/-- A DISPENSE whose end has not begun: what the rule does is its phase's. -/
theorem Wall.Dispensing.cancelDispense (h : w.Dispensing n x c ty) (open_end : c.endCause = .none) (sound : ty.faulted = false) :
    w.cancelDispense n x =
      match c.phase with
      | .drawerWait => ((w.answerCancel (lanePage n) x).beginEnd n .cancel).finishDispense n false
      | .bundleWait => (((w.answerCancel (lanePage n) x).beginEnd n .cancel).dropRequest n .bundle).finishDispense n false
      | .building | .delivering | .retracting => (w.answerCancel (lanePage n) x).beginEnd n .cancel
      | .inDrawer => ((w.answerCancel (lanePage n) x).beginEnd n .cancel).closeByOwner n .order
      | .purging => w.refuseCancel (lanePage n) x := by
  have begun : w.endBegun n = false := by rw [h.endBegun, open_end, sound]; rfl
  have other : ¬c.endCause = .cancel := by rw [open_end]; decide
  cases phase : c.phase <;> simp only [Wall.cancelDispense, h.context, other, begun, phase, if_false, Bool.false_eq_true]

theorem Wall.Dispensing.cancelDispense_again (h : w.Dispensing n x c ty) (again : c.endCause = .cancel) :
    w.cancelDispense n x = w.clearFlagBit 0 (4 * n.val + x.val) := by
  simp only [Wall.cancelDispense, h.context, again, if_true, Wall.answerCancel, cancelPlace_lane]

theorem Wall.Dispensing.cancelDispense_late (h : w.Dispensing n x c ty) (other : c.endCause ≠ .cancel)
    (late : c.endCause ≠ .none ∨ ty.faulted = true ∨ c.phase = .purging) : w.cancelDispense n x = w.refuseCancel (lanePage n) x := by
  by_cases begun : c.endCause ≠ .none ∨ ty.faulted = true
  · have ends : w.endBegun n = true := by
      rw [h.endBegun]
      rcases begun with cause | fault
      · simp [cause]
      · simp [fault]
    simp only [Wall.cancelDispense, h.context, other, ends, if_false, if_true]
  · obtain ⟨open_end, sound⟩ := not_or.mp begun
    rw [h.cancelDispense (not_not.mp open_end) (by simpa using sound)]
    have purging : c.phase = .purging := (late.resolve_left open_end).resolve_left sound
    simp only [purging]

/-- The mark of a cancelled end, set after the cancel is answered. -/
theorem Wall.Dispensing.cancelMarked (h : w.Dispensing n x c ty) :
    ((w.answerCancel (lanePage n) x).markEnd n .cancel).Dispensing n x { c with endCause := .cancel } { ty with remixWait := false } :=
  (h.answered (lanePage n) x).marked .cancel

variable (fresh : (w.slot (lanePage n) x).tooLate = false)
include fresh

/-- Cancelled before its bundle is granted, the DISPENSE finishes at once (R101). -/
theorem Wall.Dispensing.cancel_waiting (h : w.Dispensing n x c ty) (open_end : c.endCause = .none) (sound : ty.faulted = false)
    (phase : c.phase = .drawerWait ∨ c.phase = .bundleWait) :
    ∃ t, t = w.cancelDispense n x ∧ (t.slot (lanePage n) x).state = .finished
        ∧ (t.slot (lanePage n) x).result.take 4 = resultWords .cancelled false w.port.seconds []
        ∧ (∀ k, (t.cassettes.get k).reserved = (w.cassettes.get k).reserved - c.outstanding.get k) ∧ t.tallyOf n = none
        ∧ (t.lanes.get n).owner ≠ some x ∧ (t.lanes.get n).waiting = (w.lanes.get n).waiting.filter (fun y => y ≠ x)
        ∧ (c.phase = .bundleWait →
          t.transport = { w.transport with queue := w.transport.queue.filter fun r => !(r.lane == n && r.kind == .bundle) })
        ∧ ∀ m, m ≠ n → t.lanes.get m = w.lanes.get m := by
  refine ⟨_, rfl, ?_⟩
  have building : c.phase ≠ .building := by rcases phase with e | e <;> rw [e] <;> decide
  have marked := h.cancelMarked
  have frame := Wall.markEnd_frame n .cancel (w.answerCancel (lanePage n) x)
  have late : (((w.answerCancel (lanePage n) x).markEnd n .cancel).slot (lanePage n) x).tooLate = false := by
    rw [Wall.markEnd_slot]
    exact fresh
  rw [h.cancelDispense open_end sound, (h.answered (lanePage n) x).beginEnd .cancel building]
  generalize (w.answerCancel (lanePage n) x).markEnd n .cancel = v at *
  have port : v.port = w.port := by rw [frame]; rfl
  have cassettes : v.cassettes = w.cassettes := by rw [frame]; rfl
  have lanes : v.lanes = w.lanes := by rw [frame]; rfl
  have transport : v.transport = w.transport := by rw [frame]; rfl
  rcases phase with e | e <;> rw [e] <;> dsimp only
  · obtain ⟨state, result, reserved, tally, owner, waiting, -, -, others⟩ := marked.cancelled sound late
    rw [port] at result
    rw [cassettes] at reserved
    rw [lanes] at waiting others
    exact ⟨state, result, reserved, tally, owner, waiting, fun e => by (cases e), others⟩
  · have dropped : (v.dropRequest n .bundle).Dispensing n x { c with endCause := .cancel } { ty with remixWait := false } :=
      ⟨marked.order, marked.context, marked.tally⟩
    obtain ⟨state, result, reserved, tally, owner, waiting, path, -, others⟩ := dropped.cancelled sound late
    refine ⟨state, result.trans (by rw [← port]; rfl), fun k => (reserved k).trans (by rw [← cassettes]; rfl), tally, owner,
      waiting.trans (by rw [← lanes]; rfl), fun _ => path.trans (by rw [← transport]; rfl), fun m e => (others m e).trans (by rw [← lanes]; rfl)⟩

omit fresh

/-- Cancelled while its notes are on their way or in the drawer, the DISPENSE marks its end, and closes a drawer that is out (R101, R16). -/
theorem Wall.Dispensing.cancel_later (h : w.Dispensing n x c ty) (open_end : c.endCause = .none) (sound : ty.faulted = false)
    (phase : c.phase = .delivering ∨ c.phase = .retracting ∨ c.phase = .inDrawer) :
    ∃ t, t = w.cancelDispense n x
        ∧ t.contextOf n = some { c with endCause := .cancel } ∧ t.tallyOf n = some { ty with remixWait := false }
        ∧ t.transport = w.transport ∧ t.bins = w.bins ∧ (∀ m, m ≠ n → t.lanes.get m = w.lanes.get m)
        ∧ (c.phase ≠ .inDrawer ∨ (w.lanes.get n).drawer = .stowed ∨ (w.lanes.get n).drawer = .holding → t.lanes = w.lanes)
        ∧ (c.phase = .inDrawer → (w.lanes.get n).drawer = .offered ∨ (w.lanes.get n).drawer = .opening →
          (t.lanes.get n).drawer = .closing ∧ (t.lanes.get n).closeCause = .order ∧ (t.lanes.get n).budgetMs = 4000
          ∧ (t.lanes.get n).timerMs = 0 ∧ (t.lanes.get n).window = none ∧ (t.lanes.get n).ownerClose = some .order)
        ∧ (c.phase = .inDrawer → (w.lanes.get n).drawer = .closing →
          t.lanes.get n = { w.lanes.get n with ownerClose := some .order }) := by
  refine ⟨_, rfl, ?_⟩
  have building : c.phase ≠ .building := by rcases phase with e | e | e <;> rw [e] <;> decide
  have marked := h.cancelMarked
  have frame := Wall.markEnd_frame n .cancel (w.answerCancel (lanePage n) x)
  rw [h.cancelDispense open_end sound, (h.answered (lanePage n) x).beginEnd .cancel building]
  generalize (w.answerCancel (lanePage n) x).markEnd n .cancel = v at *
  have lanes : v.lanes = w.lanes := by rw [frame]; rfl
  have transport : v.transport = w.transport := by rw [frame]; rfl
  have bins : v.bins = w.bins := by rw [frame]; rfl
  rw [← lanes, ← transport, ← bins]
  by_cases drawer : c.phase = .inDrawer
  · have context := marked.context
    simp only [drawer, ne_eq, not_true_eq_false, false_or, true_implies] at context ⊢
    rcases Wall.closeByOwner_cases n .order v with ⟨out, closes⟩ | ⟨inward, closes⟩ | ⟨rest, closes⟩ <;> rw [closes]
    · have closed := Wall.modLane_get_same n (fun l => { l with ownerClose := some .order }) (v.startClose n .order)
      rw [Wall.startClose_lane] at closed
      refine ⟨context, marked.tally, rfl, rfl, fun m e => ?_, fun e => ?_, fun _ => ?_, fun e => ?_⟩
      · exact (Wall.modLane_get_other _ _ e).trans (Wall.modLane_get_other _ _ e)
      · rcases out with o | o <;> rw [o] at e <;> rcases e with e | e <;> cases e
      · rw [closed]
        exact ⟨rfl, rfl, rfl, rfl, rfl, rfl⟩
      · rcases out with o | o <;> rw [o] at e <;> cases e
    · refine ⟨context, marked.tally, rfl, rfl, fun m e => Wall.modLane_get_other _ _ e, fun e => ?_, fun e => ?_, fun _ => ?_⟩
      · rcases inward with o | o <;> rw [o] at e <;> rcases e with e | e <;> cases e
      · rcases inward with o | o <;> rw [o] at e <;> rcases e with e | e <;> cases e
      · exact Wall.modLane_get_same ..
    · refine ⟨context, marked.tally, rfl, rfl, fun _ _ => rfl, fun _ => rfl, fun e => ?_, fun e => ?_⟩
      · rcases rest with o | o | o <;> rw [o] at e <;> rcases e with e | e <;> cases e
      · rcases rest with o | o | o <;> rw [o] at e <;> cases e
  · have stays : (match c.phase with
        | .drawerWait => v.finishDispense n false
        | .bundleWait => (v.dropRequest n .bundle).finishDispense n false
        | .building | .delivering | .retracting => v
        | .inDrawer => v.closeByOwner n .order
        | .purging => w.refuseCancel (lanePage n) x) = v := by
      rcases phase with e | e | e
      · rw [e]
      · rw [e]
      · exact absurd e drawer
    rw [stays]
    exact ⟨marked.context, marked.tally, rfl, rfl, fun _ _ => rfl, fun _ => rfl, fun e => absurd e drawer, fun e => absurd e drawer⟩

theorem Wall.Dispensing.cancelDispense_building (h : w.Dispensing n x c ty) (open_end : c.endCause = .none) (sound : ty.faulted = false)
    (phase : c.phase = .building) :
    w.cancelDispense n x =
      (((w.answerCancel (lanePage n) x).markEnd n .cancel).modGate fun g => { g with acceptEnable := false }).checkEnding := by
  have rule := h.cancelDispense open_end sound
  simp only [phase] at rule
  exact rule.trans ((h.answered (lanePage n) x).beginEnd_building .cancel phase)

/-- While a piece is on its way or the stacker holds notes, a building tenure does not end (R94). -/
theorem Wall.checkEnding_unsettled {v : Wall} (busy : v.pathSettled = false ∨ 0 < v.transport.stackerCount) : v.checkEnding = v := by
  unfold Wall.checkEnding
  split
  · split
    · rw [if_neg]
      rintro ⟨-, -, settled, empty, -⟩
      rcases busy with b | b
      · rw [b] at settled
        cases settled
      · omega
    · rfl
  · rfl

/-- Cancelled while its bundle is being built, the DISPENSE takes no further note; it goes on until nothing is on its way and the stacker is empty (R101, R94). -/
theorem Wall.Dispensing.cancel_building (h : w.Dispensing n x c ty) (open_end : c.endCause = .none) (sound : ty.faulted = false)
    (phase : c.phase = .building) (busy : w.pathSettled = false ∨ 0 < w.transport.stackerCount) :
    ∃ t, t = w.cancelDispense n x
          ∧ t.contextOf n = some { c with endCause := .cancel } ∧ t.tallyOf n = some { ty with remixWait := false }
          ∧ t.gate = { w.gate with acceptEnable := false } ∧ t.transport = w.transport ∧ t.lanes = w.lanes := by
  refine ⟨_, rfl, ?_⟩
  have marked := h.cancelMarked
  have frame := Wall.markEnd_frame n .cancel (w.answerCancel (lanePage n) x)
  rw [h.cancelDispense_building open_end sound phase]
  generalize (w.answerCancel (lanePage n) x).markEnd n .cancel = v at *
  have gate : v.gate = w.gate := by rw [frame]; rfl
  have transport : v.transport = w.transport := by rw [frame]; rfl
  have lanes : v.lanes = w.lanes := by rw [frame]; rfl
  have waits : (v.modGate fun g => { g with acceptEnable := false }).checkEnding = v.modGate fun g => { g with acceptEnable := false } := by
    refine Wall.checkEnding_unsettled ?_
    rw [Wall.pathSettled, ← gate, ← transport] at busy
    exact busy
  rw [waits]
  exact ⟨marked.context, marked.tally, by rw [← gate]; rfl, transport, lanes⟩

/-- A building tenure whose order's end has begun ends once nothing is on its way and the stacker is empty (R94). -/
theorem Wall.Dispensing.checkEnding_ends (h : w.Dispensing n x c ty) (join : w.transport.join = .dispense n) (granted : w.transport.state = .granted)
    (phase : c.phase = .building) (settled : w.pathSettled = true) (empty : w.transport.stackerCount = 0) (begun : c.endCause ≠ .none) :
    w.checkEnding = (w.endEmpty n).transportGrant := by
  simp only [Wall.checkEnding, join, h.context]
  exact if_pos ⟨granted, phase, settled, empty, .inl begun⟩

theorem Wall.endTenure_port (w : Wall) : w.endTenure.port = w.port := by
  unfold Wall.endTenure Wall.writeBack
  cases w.engine.loaded <;> rfl

/-- The end of a tenure changes of a slot its progress area alone (R91). -/
theorem Wall.endTenure_slot (w : Wall) (p : PageId) (y : SlotId) :
    w.endTenure.slot p y = { w.slot p y with context := (w.endTenure.slot p y).context } := by
  unfold Wall.endTenure Wall.writeBack
  cases w.engine.loaded with
  | none => rfl
  | some l => exact (Wall.ContextMoves.of_modSlot l.lane l.slot (fun _ => some l.context) none w).slot p y

/-- The tenure of a lane's DISPENSE ends: its context is in its progress area (R91). -/
theorem Wall.Dispensing.endTenure (h : w.Dispensing n x c ty) {l : Loaded} (loaded : w.engine.loaded = some l) (lane : l.lane = n)
    (slot : l.slot = x) : w.endTenure.Dispensing n x c ty := by
  subst lane slot
  have context := h.context
  simp only [Wall.contextOf, loaded, if_true, Option.some.injEq] at context
  have order : w.endTenure.orderOf l.lane .dispense = some l.slot :=
    (Wall.orderOf_congr (fun y _ => by rw [Wall.endTenure_slot]) fun y => Wall.kindAt_congr (by rw [Wall.endTenure_slot])).trans h.order
  have written : w.writeBack =
      (w.modSlot (lanePage l.lane) l.slot fun y => { y with context := some l.context }).modEngine fun e => { e with loaded := none } := by
    simp only [Wall.writeBack, loaded]
  have unloaded : w.endTenure.engine.loaded = none := by rw [Wall.endTenure, written]; rfl
  refine ⟨order, ?_, ?_⟩
  · rw [Wall.contextOf_progress order (by rw [unloaded]; simp), Wall.endTenure, written]
    exact (congrArg Slot.context (Wall.modSlot_slot_same (lanePage l.lane) l.slot (fun y => { y with context := some l.context }) w)).trans
      (congrArg some context)
  · have tallies : w.endTenure.engine.tallies = w.engine.tallies := by rw [Wall.endTenure, written]; rfl
    rw [Wall.tallyOf, tallies]
    exact h.tally

/-- Cancelled while its bundle is being built, with nothing on its way and the stacker empty, the tenure ends and the DISPENSE finishes (R101, R94). -/
theorem Wall.Dispensing.cancel_building_empty (h : w.Dispensing n x c ty) (open_end : c.endCause = .none) (sound : ty.faulted = false)
    (fresh : (w.slot (lanePage n) x).tooLate = false) (phase : c.phase = .building) {l : Loaded} (loaded : w.engine.loaded = some l)
    (lane : l.lane = n) (slot : l.slot = x) (join : w.transport.join = .dispense n) (granted : w.transport.state = .granted)
    (settled : w.pathSettled = true) (empty : w.transport.stackerCount = 0) (queue : w.transport.queue = []) :
    ∃ t, t = w.cancelDispense n x ∧ (t.slot (lanePage n) x).state = .finished
          ∧ (t.slot (lanePage n) x).result.take 4 = resultWords .cancelled false w.port.seconds []
          ∧ t.transport = { w.transport with state := .idle, join := .none } ∧ t.gate.acceptEnable = false ∧ t.tallyOf n = none := by
  refine ⟨_, rfl, ?_⟩
  have marked := h.cancelMarked
  have frame := Wall.markEnd_frame n .cancel (w.answerCancel (lanePage n) x)
  have kept := Wall.markEnd_slot n .cancel (w.answerCancel (lanePage n) x) (lanePage n) x
  have engine := Wall.modContext_loaded (w := w.answerCancel (lanePage n) x) (fun c => { c with endCause := .cancel }) h.order loaded lane
  change ((w.answerCancel (lanePage n) x).markEnd n .cancel).engine.loaded = _ at engine
  rw [h.cancelDispense_building open_end sound phase]
  generalize (w.answerCancel (lanePage n) x).markEnd n .cancel = v at *
  have transport : v.transport = w.transport := by rw [frame]; rfl
  have gate : v.gate = w.gate := by rw [frame]; rfl
  have port : v.port = w.port := by rw [frame]; rfl
  have gated : (v.modGate fun g => { g with acceptEnable := false }).Dispensing n x { c with endCause := .cancel } { ty with remixWait := false } :=
    ⟨marked.order, marked.context, marked.tally⟩
  have ends : (v.modGate fun g => { g with acceptEnable := false }).checkEnding =
      ((v.modGate fun g => { g with acceptEnable := false }).endEmpty n).transportGrant := by
    refine gated.checkEnding_ends (by rw [← join, ← transport]; rfl) (by rw [← granted, ← transport]; rfl) phase ?_
      (by rw [← empty, ← transport]; rfl) fun e => by cases e
    rw [Wall.pathSettled, ← gate, ← transport] at settled
    exact settled
  obtain ⟨path, bare⟩ := Wall.endTenure_path (v.modGate fun g => { g with acceptEnable := false })
  have fresh' : ((v.modGate fun g => { g with acceptEnable := false }).endTenure.slot (lanePage n) x).tooLate = false := by
    rw [Wall.endTenure_slot, show (v.modGate fun g => { g with acceptEnable := false }).slot (lanePage n) x = v.slot (lanePage n) x from rfl, kept]
    exact fresh
  obtain ⟨state, result, -, tally, -, -, same_path, same_gate, -⟩ := (gated.endTenure engine lane slot).cancelled sound fresh'
  have path' : ((v.modGate fun g => { g with acceptEnable := false }).endEmpty n).transport = { w.transport with state := .idle, join := .none } :=
    same_path.trans (path.trans (by rw [← transport]; rfl))
  rw [ends, Wall.transportGrant_empty (by rw [path', queue])]
  refine ⟨state, result.trans ?_, path', ?_, tally⟩
  · rw [Wall.endTenure_port, ← port]
    rfl
  · exact congrArg Gate.acceptEnable (same_gate.trans bare)

end

end Sys2Proof.Machine
end

section
/-! PROOF. What follows the answer to a cancel sets no flag bit again, so that the slot's cancel bit stays clear (O17, R41). -/

namespace Sys2Proof.Machine

/-- Between two walls no flag bit has been set. -/
structure Wall.FlagsWithin (u v : Wall) : Prop where
  bits : ∀ k i, (v.flags.get k).getLsbD i = true → (u.flags.get k).getLsbD i = true

namespace Wall.FlagsWithin
variable {u v w : Wall}

theorem refl (w : Wall) : w.FlagsWithin w := ⟨fun _ _ set => set⟩

/-- A change of other blocks. -/
theorem same (h : u.FlagsWithin w) (e : v.flags = w.flags) : u.FlagsWithin v := ⟨fun k i set => h.bits k i (e ▸ set)⟩

theorem bit (h : u.FlagsWithin v) {k : Fin 16} {i : Nat} (clear : (u.flags.get k).getLsbD i = false) : (v.flags.get k).getLsbD i = false :=
  Bool.eq_false_iff.mpr fun set => absurd (clear.symm.trans (h.bits k i set)) (by decide)

theorem modGate {f : Gate → Gate} (h : u.FlagsWithin w) : u.FlagsWithin (w.modGate f) := h.same rfl
theorem modTally {n : LaneId} {f : Tally → Tally} (h : u.FlagsWithin w) : u.FlagsWithin (w.modTally n f) := h.same rfl
theorem modBundle {n : LaneId} {f : BundleRecord → BundleRecord} (h : u.FlagsWithin w) : u.FlagsWithin (w.modBundle n f) := h.same rfl
theorem dropRequest {n : LaneId} {k : RequestKind} (h : u.FlagsWithin w) : u.FlagsWithin (w.dropRequest n k) := h.same rfl
theorem leaveQueue {n : LaneId} (h : u.FlagsWithin w) : u.FlagsWithin (w.leaveQueue n) := h.same rfl
theorem pocketHeld {n : LaneId} (h : u.FlagsWithin w) : u.FlagsWithin (w.pocketHeld n) := h.same rfl

theorem answerCancel {p : PageId} {x : SlotId} (h : u.FlagsWithin w) : u.FlagsWithin (w.answerCancel p x) := by
  refine ⟨fun k i set => h.bits k i ?_⟩
  have cleared : (w.answerCancel p x).flags = tabMod w.flags (cancelPlace p x).1 fun v => v &&& ~~~(1#16 <<< (cancelPlace p x).2) := rfl
  rw [cleared, tabMod_get] at set
  split at set
  · rw [BitVec.getLsbD_and, Bool.and_eq_true] at set
    exact set.1
  · exact set

/-- The end of an order clears flag bits at most (R25, R126). -/
theorem finishAt {t : DWord} {p : PageId} {x : SlotId} {e : OrderEnd} {fields : List Word} (h : u.FlagsWithin w) :
    u.FlagsWithin (w.finishAt t p x e fields) := by
  have closed : u.FlagsWithin (w.closeSlotAt t p x .finished e fields) := by
    unfold Wall.closeSlotAt
    extract_lets w1 w2
    have kept : u.FlagsWithin w2 := h.same rfl
    split
    · exact kept.answerCancel
    · exact kept
  unfold Wall.finishAt
  extract_lets w1
  split
  · exact closed.same rfl
  · exact closed

theorem finish {p : PageId} {x : SlotId} {e : OrderEnd} {fields : List Word} (h : u.FlagsWithin w) : u.FlagsWithin (w.finish p x e fields) :=
  h.finishAt

theorem finishDispense {n : LaneId} (h : u.FlagsWithin w) : u.FlagsWithin (w.finishDispense n false) := by
  rcases Wall.finishDispenseAt_cases w.decision n false w with ⟨x, c, t, order, context, tally⟩ | unchanged
  · obtain ⟨v, moves, eq⟩ := Wall.finishDispenseAt_eq w.decision false order context tally
    have kept : u.FlagsWithin v := h.same (by rw [moves.frame]; rfl)
    rw [Wall.finishDispense, eq]
    exact kept.finishAt.same rfl
  · exact h.same (congrArg Wall.flags unchanged)

theorem tryRetracts (q : List Request) (h : u.FlagsWithin w) : u.FlagsWithin (Wall.tryRetracts q w).1 := by
  have posted : ∀ {v : Wall} {k : News} {d : Nat}, u.FlagsWithin v → u.FlagsWithin (v.post k d) := fun h => h.same (by rw [Wall.post_frame])
  induction q generalizing w with
  | nil => exact h
  | cons r rest ih =>
    unfold Wall.tryRetracts
    split
    · exact ih h
    · split
      · exact posted (h.same rfl)
      · exact h.same rfl
      · exact ih (posted h.modBundle)

theorem grantBundle {n : LaneId} (h : u.FlagsWithin w) : u.FlagsWithin (w.grantBundle n) := by
  unfold Wall.grantBundle
  extract_lets w1 w2
  have granted : u.FlagsWithin w2 := h.same rfl
  clear_value w2
  split
  · exact granted
  · split
    · exact granted
    · extract_lets c1 w3
      split
      · exact granted.same rfl
      · exact granted.same rfl

theorem transportGrant (h : u.FlagsWithin w) : u.FlagsWithin w.transportGrant := by
  have tried := h.tryRetracts w.transport.queue
  unfold Wall.transportGrant
  dsimp only
  split
  · split
    · exact tried
    · split
      · exact tried.grantBundle
      · exact tried
  · exact h

theorem endTenure (h : u.FlagsWithin w) : u.FlagsWithin w.endTenure := by
  refine h.same ?_
  unfold Wall.endTenure Wall.writeBack
  cases w.engine.loaded <;> rfl

theorem checkEnding (h : u.FlagsWithin w) : u.FlagsWithin w.checkEnding := by
  unfold Wall.checkEnding
  split
  · split
    · split
      · exact h.endTenure.finishDispense.transportGrant
      · exact h
    · exact h
  · exact h

theorem beginEnd {n : LaneId} {cause : EndCause} (h : u.FlagsWithin w) : u.FlagsWithin (w.beginEnd n cause) := by
  have marked : u.FlagsWithin (w.markEnd n cause) := h.same (by rw [Wall.markEnd_frame])
  unfold Wall.beginEnd
  extract_lets w1
  change u.FlagsWithin w1 at marked
  clear_value w1
  split
  · split
    · exact marked.modGate.checkEnding
    · exact marked
  · exact marked

theorem closeByOwner {n : LaneId} {cause : CloseCause} (h : u.FlagsWithin w) : u.FlagsWithin (w.closeByOwner n cause) := by
  rcases Wall.closeByOwner_cases n cause w with ⟨-, e⟩ | ⟨-, e⟩ | ⟨-, e⟩ <;> rw [e]
  · exact h.same rfl
  · exact h.same rfl
  · exact h

theorem dropRetract {n : LaneId} {e : OrderEnd} (h : u.FlagsWithin w) : u.FlagsWithin (w.dropRetract n e) := by
  unfold Wall.dropRetract
  extract_lets w1
  have dropped : u.FlagsWithin w1 := h.dropRequest.modBundle
  split
  · exact dropped.modTally.finishDispense
  · split
    · exact dropped.finish
    · exact dropped

end Wall.FlagsWithin

/-- Whatever a rule makes of a cancel but a close that leaves it pending, it has cleared the slot's bit (R41, R126). -/
theorem Wall.cancelOrder_within {w : Wall} {n : LaneId} {x : SlotId}
    (answered : ¬(w.kindAt (lanePage n) x = some .deposit ∧ (w.lanes.get n).owner = some x)) :
    (w.answerCancel (lanePage n) x).FlagsWithin (w.cancelOrder (lanePage n) x) := by
  have h := Wall.FlagsWithin.refl (w.answerCancel (lanePage n) x)
  have late : (w.answerCancel (lanePage n) x).FlagsWithin (w.refuseCancel (lanePage n) x) := h.same rfl
  unfold Wall.cancelOrder
  rw [laneOf_lanePage]
  dsimp only
  split
  · exact late
  split
  · unfold Wall.cancelDispense
    dsimp only
    split
    · exact h
    · split
      · exact h
      · split
        · exact late
        · split
          · exact h.beginEnd.finishDispense
          · exact h.beginEnd.dropRequest.finishDispense
          · exact h.beginEnd
          · exact h.beginEnd
          · exact h.beginEnd
          · exact h.beginEnd.closeByOwner
          · exact late
  · unfold Wall.cancelRetract
    dsimp only
    split
    · exact h.finish
    · split
      · exact h.dropRetract
      · exact late
  · next kind =>
    have other : (w.lanes.get n).owner ≠ some x := fun owner => answered ⟨kind, owner⟩
    rw [Wall.cancelDeposit, if_pos other]
    exact h.finish
  · unfold Wall.cancelCapture
    dsimp only
    split
    · exact h.leaveQueue.pocketHeld.finish
    · exact late
  · unfold Wall.cancelReturn
    dsimp only
    split
    · exact h.leaveQueue.pocketHeld.finish
    · split
      · exact h.pocketHeld.finish
      · exact late
  · exact late

/-- The cancel bit of an order in progress is clear after its cancel event, but for a DEPOSIT that owns the drawer (R41, R126). -/
theorem Wall.cancelEvent_bit {w : Wall} {n : LaneId} {x : SlotId} (running : (w.slot (lanePage n) x).state.inProgress = true)
    (answered : ¬(w.kindAt (lanePage n) x = some .deposit ∧ (w.lanes.get n).owner = some x)) :
    ((w.cancelEvent (lanePage n) x).flags.get 0).getLsbD (4 * n.val + x.val) = false := by
  have clear := w.answerCancel_bit (lanePage n) x
  rw [cancelPlace_lane] at clear
  rw [Wall.cancelEvent_inProgress running]
  exact (Wall.cancelOrder_within answered).bit clear

/-- Settles O17: the bits and the answers that need no rule, then the rule of each kind. -/
theorem cancelEvents : Obligations.CancelEvents := by
  unfold Obligations.CancelEvents
  refine ⟨cancelEvent_posted_spec, fun s p x v on => cancelWrites p x v on, fun w p x => ⟨w.refuseCancel_eq p x, Wall.cancelEvent_idle,
    fun running late => (Wall.cancelEvent_inProgress running).trans (Wall.cancelOrder_refused late)⟩, fun w n x running fresh => ?_⟩
  refine ⟨fun c ty kind order context tally => ?_, cancel_retract running fresh, cancel_deposit running fresh, cancel_capture running fresh,
    cancel_return running fresh, Wall.cancelEvent_bit running⟩
  have rule := Wall.cancelEvent_rule running fresh
  rw [kind] at rule
  change _ = w.cancelDispense n x at rule
  rw [rule]
  have h : w.Dispensing n x c ty := ⟨order, context, tally⟩
  exact ⟨h.cancelDispense_again, h.cancelDispense_late, fun open_end sound _ => h.cancel_waiting fresh open_end sound, h.cancel_later,
    fun open_end sound phase l loaded lane slot join granted => ⟨h.cancel_building open_end sound phase,
      h.cancel_building_empty open_end sound fresh phase loaded lane slot join granted⟩⟩

end Sys2Proof.Machine
end

section
/-! PROOF. The alarm watch at power-on (O3). Four 24-HOUR zones at most enter ALARM one after the other; each leaves two posts at most on a board that holds one,
and its lockdown meets no order and no open lane, so that zones, alarm status and board are all the watch changes. -/

namespace Sys2Proof.Machine

/-! ### Posts on a board with room (R164) -/

/-- No post has been lost, and the entries from `k` up are FREE. -/
structure Wall.BoardWithin (k : Nat) (w : Wall) : Prop where
  lost : w.lost = 0
  free : ∀ e : Fin 48, k ≤ e.val → (w.board.get e).state = .free

theorem Wall.BoardWithin.mono {k m : Nat} {w : Wall} (h : w.BoardWithin k) (km : k ≤ m) : w.BoardWithin m :=
  ⟨h.lost, fun e he => h.free e (km.trans he)⟩

theorem Wall.BoardWithin.congr {k : Nat} {v w : Wall} (h : w.BoardWithin k) (hb : v.board = w.board) (hl : v.lost = w.lost) : v.BoardWithin k :=
  ⟨hl.trans h.lost, fun e he => hb ▸ h.free e he⟩

theorem mem_entryIds (e : Fin 48) : e ∈ entryIds := List.mem_finRange e

/-- The entry of a key is one that is not FREE. -/
theorem Wall.entryOf_some {w : Wall} {key : Nat} {e : Fin 48} (h : w.entryOf key = some e) :
    (w.board.get e).state ≠ .free ∧ (w.board.get e).key = key := by simpa using List.find?_some h

/-- What a search of an ascending list finds is the least member that answers. -/
theorem find?_least {n : Nat} {l : List (Fin n)} (sorted : l.Pairwise (· < ·)) {f : Fin n → Bool} {e : Fin n} (h : l.find? f = some e) :
    f e = true ∧ ∀ a ∈ l, a < e → f a = false := by
  obtain ⟨hit, front, back, rfl, before⟩ := List.find?_eq_some_iff_append.mp h
  refine ⟨hit, fun a member lower => ?_⟩
  rcases List.mem_append.mp member with inFront | after
  · simpa using before a inFront
  · rcases List.mem_cons.mp after with rfl | behind
    · exact absurd lower (lt_irrefl _)
    · exact absurd lower (lt_asymm (List.rel_of_pairwise_cons (List.pairwise_append.mp sorted).2.1 behind))

/-- The entry a post fills is the lowest FREE one. -/
theorem Wall.freeEntry_some {w : Wall} {e : Fin 48} (h : w.freeEntry = some e) :
    (w.board.get e).state = .free ∧ ∀ a < e, (w.board.get a).state ≠ .free := by
  obtain ⟨free, lower⟩ := find?_least (List.pairwise_lt_finRange 48) h
  exact ⟨by simpa using free, fun a ha => by simpa using lower a (mem_entryIds a) ha⟩

theorem Wall.BoardWithin.post {k : Nat} {w : Wall} (h : w.BoardWithin k) (room : k < 48) (news : News) (d : Nat) :
    (w.post news d).BoardWithin (k + 1) := by
  rcases Wall.post_cases news d w with ⟨e, he, eq⟩ | ⟨e, -, he, eq⟩ | ⟨-, full, -⟩
  · have low : e.val < k := Nat.lt_of_not_le fun hk => (Wall.entryOf_some he).1 (h.free e hk)
    rw [eq]
    refine ⟨h.lost, fun a ha => ?_⟩
    rw [tabMod_get_other _ _ (by omega)]
    exact h.free a (by omega)
  · have low : e.val ≤ k := Nat.le_of_not_lt fun hk => (Wall.freeEntry_some he).2 ⟨k, room⟩ hk (h.free _ le_rfl)
    rw [eq]
    refine ⟨h.lost, fun a ha => ?_⟩
    rw [tabSet_get_other _ _ (by omega)]
    exact h.free a (by omega)
  · have none_free := List.find?_eq_none.mp full ⟨k, room⟩ (mem_entryIds _)
    exact absurd (h.free ⟨k, room⟩ le_rfl) (by simpa using none_free)

/-- A post under another key leaves an entry that is not FREE as it is. -/
theorem Wall.post_entry_kept {w : Wall} {e : Fin 48} {news : News} (d : Nat) (held : (w.board.get e).state ≠ .free)
    (other : (w.board.get e).key ≠ news.key) : (w.post news d).board.get e = w.board.get e := by
  rcases Wall.post_cases news d w with ⟨a, ha, eq⟩ | ⟨a, -, ha, eq⟩ | ⟨-, -, eq⟩ <;> rw [eq]
  · exact tabMod_get_other _ _ fun same => other (same ▸ (Wall.entryOf_some ha).2)
  · exact tabSet_get_other _ _ fun same => held (same ▸ (Wall.freeEntry_some ha).1)

theorem Wall.post_zones (k : News) (d : Nat) (w : Wall) : (w.post k d).zones = w.zones := by rw [Wall.post_frame]
theorem Wall.post_alarm (k : News) (d : Nat) (w : Wall) : (w.post k d).alarm = w.alarm := by rw [Wall.post_frame]

/-! ### Lockdown that meets no order (R154) -/

/-- The wall as the sensors and the reset leave it for the Alarm Unit: no order, no tenure, and no lane or drawer that lockdown closes (R21, R44). -/
structure Wall.Restarted (w : Wall) : Prop where
  pages : w.pages = Wall.reset.pages
  engine : w.engine = Engine.reset
  port : w.port = Port.reset
  lanes : ∀ n, (w.lanes.get n).state ≠ .opened ∧ (w.lanes.get n).owner = none ∧ (w.lanes.get n).drawer ≠ .opening

/-- The watch of the zones changes their records, the alarm status and the board alone. -/
def Wall.AlarmOnly (u w : Wall) : Prop := w = { u with zones := w.zones, alarm := w.alarm, board := w.board, lost := w.lost }

theorem Wall.AlarmOnly.refl (w : Wall) : w.AlarmOnly w := rfl

theorem Wall.AlarmOnly.trans {u v w : Wall} (h : u.AlarmOnly v) (g : v.AlarmOnly w) : u.AlarmOnly w := by
  unfold Wall.AlarmOnly at *
  rw [g, h]

theorem Wall.AlarmOnly.post {u w : Wall} (h : u.AlarmOnly w) (news : News) (d : Nat) : u.AlarmOnly (w.post news d) :=
  h.trans (by
    unfold Wall.AlarmOnly
    rw [Wall.post_frame])

theorem Wall.AlarmOnly.modZone {u w : Wall} (h : u.AlarmOnly w) (z : ZoneId) (f : Zone → Zone) : u.AlarmOnly (w.modZone z f) := h.trans rfl

theorem Wall.AlarmOnly.modAlarm {u w : Wall} (h : u.AlarmOnly w) (f : AlarmStatus → AlarmStatus) : u.AlarmOnly (w.modAlarm f) := h.trans rfl

theorem Wall.AlarmOnly.restarted {u w : Wall} (h : u.AlarmOnly w) (r : u.Restarted) : w.Restarted := by
  rw [h]
  exact ⟨r.pages, r.engine, r.port, r.lanes⟩

theorem Wall.Restarted.orderOf {w : Wall} (h : w.Restarted) (n : LaneId) (k : Kind) : w.orderOf n k = none := by
  rw [← reset_orderOf n k]
  simp only [Wall.orderOf, Wall.kindAt, Wall.slot, h.pages, State.reset]

theorem Wall.Restarted.contextOf {w : Wall} (h : w.Restarted) (n : LaneId) : w.contextOf n = none := by
  simp [Wall.contextOf, h.engine, Engine.reset, h.orderOf]

theorem Wall.Restarted.closeByLockdown {w : Wall} (h : w.Restarted) (n : LaneId) : w.closeByLockdown n = w := by
  obtain ⟨-, unowned, drawer⟩ := h.lanes n
  simp [Wall.closeByLockdown, Wall.ownerLocks, unowned, drawer]

theorem Wall.Restarted.lockdownLane {w : Wall} (h : w.Restarted) (n : LaneId) : w.lockdownLane n = w := by
  have state_kept : w.modLane n (fun l => { l with state := if l.state = .opened then .closing else l.state }) = w := by
    unfold Wall.modLane
    rw [tabMod_same]
    simp [(h.lanes n).1]
  rw [Wall.lockdownLane, state_kept]
  simp [Wall.lockdownDispense, Wall.lockdownDeposit, h.contextOf, h.orderOf, h.closeByLockdown]

theorem Wall.Restarted.eachLockdown {w : Wall} (h : w.Restarted) : w.eachLane Wall.lockdownLane = w := by
  simp [Wall.eachLane, laneIds, h.lockdownLane]

/-- The entry of lockdown before it reaches the lanes: the alarm status and the post (R154), at wall second 0. -/
def Wall.lockdownCall (z : ZoneId) (w : Wall) : Wall :=
  (w.modAlarm fun a => { a with lockdown := true, lockdownZone := some z, lockdownStart := 0#32 }).post .lockdownOn z.val

theorem Wall.lockdownCall_only (z : ZoneId) (w : Wall) : w.AlarmOnly (w.lockdownCall z) :=
  ((Wall.AlarmOnly.refl w).modAlarm _).post _ _

theorem Wall.lockdownCall_zones (z : ZoneId) (w : Wall) : (w.lockdownCall z).zones = w.zones := Wall.post_zones _ _ _

theorem Wall.lockdownCall_alarm (z : ZoneId) (w : Wall) :
    (w.lockdownCall z).alarm = { w.alarm with lockdown := true, lockdownZone := some z, lockdownStart := 0#32 } := Wall.post_alarm _ _ _

theorem Wall.BoardWithin.lockdownCall {k : Nat} {w : Wall} (h : w.BoardWithin k) (room : k < 48) (z : ZoneId) :
    (w.lockdownCall z).BoardWithin (k + 1) :=
  have same : (w.modAlarm fun a => { a with lockdown := true, lockdownZone := some z, lockdownStart := 0#32 }).BoardWithin k := h.congr rfl rfl
  same.post room .lockdownOn z.val

/-- PROFILE DEFAULTED stands through the entry of lockdown. -/
theorem Wall.lockdownCall_entry_kept {w : Wall} {e : Fin 48} (z : ZoneId) (held : (w.board.get e).state ≠ .free)
    (key : (w.board.get e).key = News.profileDefaulted.key) : (w.lockdownCall z).board.get e = w.board.get e :=
  Wall.post_entry_kept (w := w.modAlarm fun a => { a with lockdown := true, lockdownZone := some z, lockdownStart := 0#32 }) z.val held
    (key ▸ by decide)

theorem Wall.Restarted.enterLockdown {w : Wall} (h : w.Restarted) (z : ZoneId) (free : w.lockdown = false) :
    w.enterLockdown z = w.lockdownCall z := by
  have seconds : w.port.seconds = 0#32 := by rw [h.port, Port.reset]
  have call : w.enterLockdown z = (w.lockdownCall z).eachLane Wall.lockdownLane := by
    rw [Wall.enterLockdown_eq z free, seconds, Wall.lockdownCall]
  rw [call, ((w.lockdownCall_only z).restarted h).eachLockdown]

end Sys2Proof.Machine
end

section
/-! PROOF. The watch of the zones at power-on (O3), zone by zone. -/

namespace Sys2Proof.Machine

/-- The record of a zone that enters ALARM (R149). -/
def Zone.raised (p : PointId) (x : Zone) : Zone :=
  { x with state := .alarm, trigger := some p, alarms := satAdd 255 x.alarms 1, entryMs := 0,
           sirenMs := if x.siren = true ∧ 0 < x.sirenTime then some (x.sirenTime * 1000) else none }

/-- The member point that puts a zone into ALARM as its watch starts, if one does (R148). -/
def Wall.watchTrigger (w : Wall) (z : ZoneId) : Option PointId :=
  if (w.zones.get z).mode = .always ∧ (w.zones.get z).state = .armed then w.activeMember z else none

/-- The record a zone has once its watch has started (R148). -/
def Wall.watched (w : Wall) (z : ZoneId) : Zone :=
  match w.watchTrigger z with
  | some p => (w.zones.get z).raised p
  | none => w.zones.get z

theorem Wall.startWatch_eq (z : ZoneId) (w : Wall) :
    w.startWatch z = match w.watchTrigger z with
      | some p => w.zoneAlarm z p
      | none => w := by
  unfold Wall.startWatch Wall.watchTrigger
  dsimp only
  split <;> rfl

/-- A zone's entry of ALARM up to the lockdown it may bring: the record, the post, the outputs (R149, R150). -/
def Wall.alarmCall (z : ZoneId) (p : PointId) (w : Wall) : Wall :=
  ((w.modZone z (Zone.raised p)).post (.zoneAlarm z) p.val).refreshOutputs

theorem Wall.alarmCall_only (z : ZoneId) (p : PointId) (w : Wall) : w.AlarmOnly (w.alarmCall z p) :=
  (((Wall.AlarmOnly.refl w).modZone z _).post _ _).trans rfl

theorem Wall.alarmCall_zones (z : ZoneId) (p : PointId) (w : Wall) : (w.alarmCall z p).zones = tabMod w.zones z (Zone.raised p) :=
  Wall.post_zones _ _ _

/-- The call of an ALARM sets the outputs and leaves lockdown as it is. -/
theorem Wall.alarmCall_alarm (z : ZoneId) (p : PointId) (w : Wall) :
    (w.alarmCall z p).alarm.lockdown = w.alarm.lockdown ∧ (w.alarmCall z p).alarm.lockdownZone = w.alarm.lockdownZone
      ∧ (w.alarmCall z p).alarm.lockdownStart = w.alarm.lockdownStart := by
  simp [Wall.alarmCall, Wall.refreshOutputs, Wall.modAlarm, Wall.post_alarm, Wall.modZone]

/-- The call of an ALARM takes one more entry of the board at most. -/
theorem Wall.BoardWithin.alarmCall {k : Nat} {w : Wall} (h : w.BoardWithin k) (room : k < 48) (z : ZoneId) (p : PointId) :
    (w.alarmCall z p).BoardWithin (k + 1) :=
  have raised : (w.modZone z (Zone.raised p)).BoardWithin k := h.congr rfl rfl
  (raised.post room (.zoneAlarm z) p.val).congr rfl rfl

theorem News.zoneAlarm_key_ne (z : ZoneId) : News.profileDefaulted.key ≠ (News.zoneAlarm z).key := by
  simp only [News.key]
  omega

/-- PROFILE DEFAULTED stands through the call of an ALARM. -/
theorem Wall.alarmCall_entry_kept {w : Wall} {e : Fin 48} (z : ZoneId) (p : PointId) (held : (w.board.get e).state ≠ .free)
    (key : (w.board.get e).key = News.profileDefaulted.key) : (w.alarmCall z p).board.get e = w.board.get e :=
  Wall.post_entry_kept (w := w.modZone z (Zone.raised p)) p.val held (key ▸ News.zoneAlarm_key_ne z)

/-- A zone that enters ALARM while no order stands: lockdown is entered where its flag counts and none is in force (R149, R154). -/
theorem Wall.Restarted.zoneAlarm {w : Wall} (h : w.Restarted) (z : ZoneId) (p : PointId) :
    w.zoneAlarm z p =
      if ((w.zones.get z).raised p).lockdownAlarm = true ∧ w.alarm.lockdown = false then
        (w.alarmCall z p).lockdownCall z
      else w.alarmCall z p := by
  have unfolded : w.zoneAlarm z p =
      if ((w.alarmCall z p).zones.get z).lockdownAlarm then (w.alarmCall z p).enterLockdown z else w.alarmCall z p := rfl
  have in_force : (w.alarmCall z p).lockdown = w.alarm.lockdown := (Wall.alarmCall_alarm z p w).1
  rw [unfolded, Wall.alarmCall_zones, tabMod_get_same]
  by_cases flagged : ((w.zones.get z).raised p).lockdownAlarm = true
  · cases lock : w.alarm.lockdown with
    | true => simp [Wall.enterLockdown_inForce z (in_force.trans lock)]
    | false => simp [flagged, ((Wall.alarmCall_only z p w).restarted h).enterLockdown z (in_force.trans lock)]
  · simp [flagged]

/-! ### What the watch of the zones `zs` has made of the wall `u` -/

/-- The watch of the zones `zs` has started: their records, the lockdown that the first of them with the flag entered, the posts (R148, R149, R154). -/
structure Wall.Watches (u : Wall) (zs : List ZoneId) (w : Wall) : Prop where
  only : u.AlarmOnly w
  zones : ∀ z, w.zones.get z = if z ∈ zs then u.watched z else u.zones.get z
  lockdown : w.alarm.lockdown = zs.any fun z => (u.watched z).lockdownAlarm
  lockdownZone : w.alarm.lockdownZone = zs.find? fun z => (u.watched z).lockdownAlarm
  lockdownStart : w.alarm.lockdownStart = 0#32
  room : w.BoardWithin (1 + 2 * zs.length)
  kept : ∀ e, (u.board.get e).state ≠ .free → (u.board.get e).key = News.profileDefaulted.key → w.board.get e = u.board.get e
  calm : (∀ z ∈ zs, (u.watched z).state ≠ .alarm) → w.board = u.board

/-- The wall before the watch starts: no zone in ALARM, no lockdown, and one entry of the board filled at most. -/
structure Wall.BeforeWatch (u : Wall) : Prop extends u.Restarted where
  calm : ∀ z, (u.zones.get z).state ≠ .alarm
  alarm : u.alarm = Wall.reset.alarm
  room : u.BoardWithin 1

theorem Wall.BeforeWatch.start {u : Wall} (h : u.BeforeWatch) : u.Watches [] u where
  only := rfl
  zones _ := by simp
  lockdown := by rw [h.alarm]; rfl
  lockdownZone := by rw [h.alarm]; rfl
  lockdownStart := by rw [h.alarm]; rfl
  room := h.room
  kept _ _ _ := rfl
  calm _ := rfl

theorem Wall.watchTrigger_congr {u w : Wall} {z : ZoneId} (hz : w.zones.get z = u.zones.get z) (hp : w.points = u.points) :
    w.watchTrigger z = u.watchTrigger z := by
  simp only [Wall.watchTrigger, Wall.activeMember, Wall.members, hz, hp]

theorem Wall.watched_calm {u : Wall} {z : ZoneId} (h : u.watchTrigger z = none) : u.watched z = u.zones.get z := by
  simp [Wall.watched, h]

theorem Wall.watched_raised {u : Wall} {z : ZoneId} {p : PointId} (h : u.watchTrigger z = some p) :
    u.watched z = (u.zones.get z).raised p := by
  simp [Wall.watched, h]

/-- A zone without an ACTIVE member joins the watch: nothing changes. -/
theorem Wall.Watches.calmStep {u w : Wall} {zs : List ZoneId} {z : ZoneId} (h : u.Watches zs w) (before : u.BeforeWatch)
    (quiet : u.watchTrigger z = none) : u.Watches (zs ++ [z]) w := by
  have same : u.watched z = u.zones.get z := Wall.watched_calm quiet
  have no_flag : (u.watched z).lockdownAlarm = false := by
    rw [same, Bool.eq_false_iff, Ne, Zone.lockdownAlarm_iff]
    exact fun alarmed => before.calm z alarmed.1
  exact {
    only := h.only
    zones := fun a => by
      rw [h.zones]
      by_cases ha : a = z
      · subst ha
        simp [same]
      · simp [ha]
    lockdown := by simp [h.lockdown, no_flag]
    lockdownZone := by simp [h.lockdownZone, List.find?_append, no_flag]
    lockdownStart := h.lockdownStart
    room := h.room.mono (by simp)
    kept := h.kept
    calm := fun none_alarms => h.calm fun a ha => none_alarms a (List.mem_append_left _ ha) }

/-- A zone with an ACTIVE member joins the watch: it enters ALARM, and lockdown where its flag is the first (log 71). -/
theorem Wall.Watches.alarmStep {u w : Wall} {zs : List ZoneId} {z : ZoneId} {p : PointId} (h : u.Watches zs w) (before : u.BeforeWatch)
    (fresh : z ∉ zs) (small : zs.length < 4) (trigger : u.watchTrigger z = some p) : u.Watches (zs ++ [z]) (w.zoneAlarm z p) := by
  have raised : u.watched z = (w.zones.get z).raised p := by rw [Wall.watched_raised trigger, h.zones, if_neg fresh]
  have only : u.AlarmOnly (w.alarmCall z p) := h.only.trans (Wall.alarmCall_only z p w)
  have zones : ∀ a, (w.alarmCall z p).zones.get a = if a ∈ zs ++ [z] then u.watched a else u.zones.get a := by
    intro a
    rw [Wall.alarmCall_zones, tabMod_get]
    by_cases ha : a = z
    · subst ha
      simp [raised]
    · simp [ha, h.zones]
  have room : (w.alarmCall z p).BoardWithin (2 + 2 * zs.length) := (h.room.alarmCall (by omega) z p).mono (by omega)
  have kept : ∀ e, (u.board.get e).state ≠ .free → (u.board.get e).key = News.profileDefaulted.key →
      (w.alarmCall z p).board.get e = u.board.get e := by
    intro e held key
    have same := h.kept e held key
    rw [← same] at held key ⊢
    exact Wall.alarmCall_entry_kept z p held key
  have alarms : ¬ ∀ a ∈ zs ++ [z], (u.watched a).state ≠ .alarm := fun none_alarms =>
    none_alarms z (List.mem_append_right _ (List.mem_singleton_self z)) (by rw [raised]; rfl)
  obtain ⟨lock_kept, zone_kept, start_kept⟩ := Wall.alarmCall_alarm z p w
  rw [(h.only.restarted before.toRestarted).zoneAlarm z p, ← raised]
  split
  · next enters =>
    obtain ⟨flag, unlocked⟩ := enters
    have earlier : ∀ a ∈ zs, (u.watched a).lockdownAlarm = false := by simpa [h.lockdown] using unlocked
    exact {
      only := only.trans (Wall.lockdownCall_only z _)
      zones := fun a => by rw [Wall.lockdownCall_zones, zones]
      lockdown := by simp [Wall.lockdownCall_alarm, flag]
      lockdownZone := by
        have none_earlier : zs.find? (fun a => (u.watched a).lockdownAlarm) = none := by simpa using earlier
        simp [Wall.lockdownCall_alarm, List.find?_append, none_earlier, flag]
      lockdownStart := by rw [Wall.lockdownCall_alarm]
      room := (room.lockdownCall (by omega) z).mono (by simp; omega)
      kept := fun e held key => by
        have same := kept e held key
        rw [← same] at held key ⊢
        exact Wall.lockdownCall_entry_kept z held key
      calm := fun none_alarms => absurd none_alarms alarms }
  · next stays =>
    have covered : (u.watched z).lockdownAlarm = true → (zs.any fun a => (u.watched a).lockdownAlarm) = true := fun flag => by
      simpa [flag, h.lockdown] using stays
    exact {
      only := only
      zones := zones
      lockdown := by
        rw [lock_kept, h.lockdown, List.any_append]
        cases flag : (u.watched z).lockdownAlarm with
        | true => simp [covered flag]
        | false => simp [flag]
      lockdownZone := by
        rw [zone_kept, h.lockdownZone, List.find?_append]
        cases flag : (u.watched z).lockdownAlarm with
        | true =>
          have found := List.find?_isSome.mpr (List.any_eq_true.mp (covered flag))
          exact (Option.or_of_isSome found).symm
        | false => simp [flag]
      lockdownStart := start_kept.trans h.lockdownStart
      room := room.mono (by simp; omega)
      kept := kept
      calm := fun none_alarms => absurd none_alarms alarms }

/-- One zone more joins the watch (R148). -/
theorem Wall.Watches.startWatch {u w : Wall} {zs : List ZoneId} {z : ZoneId} (h : u.Watches zs w) (before : u.BeforeWatch) (fresh : z ∉ zs)
    (small : zs.length < 4) : u.Watches (zs ++ [z]) (w.startWatch z) := by
  have points : w.points = u.points := by rw [h.only]
  have record : w.zones.get z = u.zones.get z := by rw [h.zones, if_neg fresh]
  rw [Wall.startWatch_eq, Wall.watchTrigger_congr record points]
  split
  · next p trigger => exact h.alarmStep before fresh small trigger
  · next quiet => exact h.calmStep before quiet

/-- The zones join the watch one after the other. -/
theorem Wall.Watches.foldl {u : Wall} (before : u.BeforeWatch) (rest : List ZoneId) :
    ∀ {zs : List ZoneId} {w : Wall}, u.Watches zs w → (zs ++ rest).Nodup → (zs ++ rest).length ≤ 4 →
      u.Watches (zs ++ rest) (rest.foldl (fun w z => w.startWatch z) w) := by
  induction rest with
  | nil =>
    intro zs w h _ _
    rwa [List.append_nil]
  | cons z rest ih =>
    intro zs w h distinct few
    have fresh : z ∉ zs := fun hz => (List.nodup_append.mp distinct).2.2 z hz z (List.mem_cons_self ..) rfl
    rw [List.append_cons] at distinct few ⊢
    exact ih (h.startWatch before fresh (by simp at few; omega)) distinct few

/-- The watch of the four zones, from zone 0 up (log 71). -/
theorem Wall.BeforeWatch.watches {u : Wall} (h : u.BeforeWatch) : u.Watches zoneIds (zoneIds.foldl (fun w z => w.startWatch z) u) :=
  h.start.foldl h zoneIds (by decide) (by decide)

end Sys2Proof.Machine
end

section
/-! PROOF. The wall at power-on (O3), field by field: the load, the records from the sensors, and the watch of the zones. -/

namespace Sys2Proof.Machine

theorem ofFn_get {α : Type} {n : Nat} (f : Fin n → α) (i : Fin n) : (Vector.ofFn f).get i = f i := by
  show (Vector.ofFn f)[i.val] = f i
  simp

/-! ### The load at power-on (R172) -/

/-- The wall at power-on before its profile is loaded. -/
def blankWall (stored : Vector Word 64) (cutShort : Nat) : Wall :=
  { Wall.reset with
      board := Vector.replicate 48 Entry.blank,
      profile := { stored := stored, active := defaultProfile, image := stored, programming := none, cutShort := cutShort } }

/-- The wall at power-on once its profile is loaded. -/
def loadedWall (stored : Vector Word 64) (cutShort : Nat) : Wall := (blankWall stored cutShort).load 1

/-- The profile store after the load. -/
def loadedProfile (stored : Vector Word 64) (cutShort : Nat) : ProfileStore :=
  { stored := stored, active := if passesCheck stored then stored else defaultProfile, image := stored, programming := none,
    cutShort := cutShort }

theorem blankWall_board (stored : Vector Word 64) (cutShort : Nat) (e : Fin 48) : (blankWall stored cutShort).board.get e = Entry.blank :=
  replicate_get _ e

theorem blankWall_room (stored : Vector Word 64) (cutShort : Nat) : (blankWall stored cutShort).BoardWithin 0 :=
  ⟨rfl, fun e _ => by rw [blankWall_board]; rfl⟩

theorem loadedWall_passes {stored : Vector Word 64} (cutShort : Nat) (h : passesCheck stored = true) :
    loadedWall stored cutShort = { blankWall stored cutShort with profile := loadedProfile stored cutShort } := by
  rw [loadedProfile, if_pos h]
  exact if_pos h

theorem loadedWall_defaulted {stored : Vector Word 64} (cutShort : Nat) (h : passesCheck stored = false) :
    loadedWall stored cutShort = (blankWall stored cutShort).post .profileDefaulted 1 := by
  exact if_neg (Bool.eq_false_iff.mp h)

/-- The wall as the load leaves it: the given profile store, and the reset value of each record that neither sensors nor profile set. -/
structure Wall.Blank (profile : ProfileStore) (w : Wall) : Prop where
  profile : w.profile = profile
  pages : w.pages = Wall.reset.pages
  flags : w.flags = Wall.reset.flags
  gate : w.gate = Gate.reset
  transport : w.transport = Transport.reset
  engine : w.engine = Engine.reset
  conveyor : w.conveyor = Conveyor.reset
  depositTotal : w.depositTotal = 0#32
  port : w.port = Port.reset

theorem loadedWall_blank (stored : Vector Word 64) (cutShort : Nat) :
    (loadedWall stored cutShort).Blank (loadedProfile stored cutShort) ∧ (loadedWall stored cutShort).alarm = Wall.reset.alarm := by
  cases h : passesCheck stored with
  | true =>
    rw [loadedWall_passes cutShort h]
    exact ⟨⟨rfl, rfl, rfl, rfl, rfl, rfl, rfl, rfl, rfl⟩, rfl⟩
  | false =>
    have profile : (blankWall stored cutShort).profile = loadedProfile stored cutShort := by simp [loadedProfile, h, blankWall]
    rw [loadedWall_defaulted cutShort h, Wall.post_frame]
    exact ⟨⟨profile, rfl, rfl, rfl, rfl, rfl, rfl, rfl, rfl⟩, rfl⟩

theorem loadedWall_room (stored : Vector Word 64) (cutShort : Nat) : (loadedWall stored cutShort).BoardWithin 1 := by
  cases h : passesCheck stored with
  | true =>
    rw [loadedWall_passes cutShort h]
    exact ((blankWall_room stored cutShort).mono (Nat.zero_le 1)).congr rfl rfl
  | false =>
    rw [loadedWall_defaulted cutShort h]
    exact (blankWall_room stored cutShort).post (by decide) _ _

/-- PROFILE DEFAULTED fills entry 0 of the blank board. -/
theorem loadedWall_defaulted_entry {stored : Vector Word 64} (cutShort : Nat) (h : passesCheck stored = false) :
    (loadedWall stored cutShort).board.get 0 = { state := .new, key := 58, count := 1, first := 0#16, last := 0#16, detail := 1#16 } := by
  have free : ∀ e, ((blankWall stored cutShort).board.get e).state = .free := fun e => (blankWall_room stored cutShort).free e (Nat.zero_le _)
  rw [loadedWall_defaulted cutShort h]
  rcases Wall.post_cases .profileDefaulted 1 (blankWall stored cutShort) with ⟨e, he, -⟩ | ⟨e, -, he, eq⟩ | ⟨-, full, -⟩
  · exact absurd (free e) (Wall.entryOf_some he).1
  · have lowest : e = 0 := by
      by_contra above
      exact (Wall.freeEntry_some he).2 0 (Fin.pos_iff_ne_zero.mpr above) (free 0)
    rw [eq, lowest]
    exact tabSet_get_same _ _ _
  · exact absurd (free 0) (by simpa using List.find?_eq_none.mp full 0 (mem_entryIds 0))

/-! ### The records from the sensors -/

/-- A lane meets the lockout mask (R4). -/
def Lane.lockout (locked : Bool) (l : Lane) : Lane :=
  { l with state :=
      if locked then
        match l.state with
        | .closed => .lockedOut
        | .opened => .closing
        | st => st
      else if l.state = .lockedOut then .closed else l.state }

theorem Wall.eachLockout (w : Wall) :
    w.eachLane Wall.applyLockout = { w with lanes := tabMap w.lanes fun n l => l.lockout (w.lockedOut n) } := by
  have lanes : tabMod (tabMod (tabMod (tabMod w.lanes 0 (Lane.lockout (w.lockedOut 0))) 1 (Lane.lockout (w.lockedOut 1))) 2
      (Lane.lockout (w.lockedOut 2))) 3 (Lane.lockout (w.lockedOut 3)) = tabMap w.lanes fun n l => l.lockout (w.lockedOut n) := by
    apply tab_ext
    intro n
    match n with
    | 0 | 1 | 2 | 3 => simp [tabMod_get]
  rw [← lanes]
  rfl

/-- A lane at power-on is closed or locked out, without an owner, and its drawer not on its way out (R21). -/
theorem powerOnLane_shut (i : WallInputs) (limit : Nat) (n : LaneId) (locked : Bool) :
    ((powerOnLane i limit n).lockout locked).state ≠ .opened ∧ ((powerOnLane i limit n).lockout locked).owner = none
      ∧ ((powerOnLane i limit n).lockout locked).drawer ≠ .opening := by
  refine ⟨?_, rfl, ?_⟩
  · cases locked <;> exact fun h => nomatch h
  · show (if i.stowed.get n then (if i.item.get n then DrawerState.holding else .stowed) else .closing) ≠ .opening
    split <;> [split; skip] <;> exact fun h => nomatch h

/-- The wall at power-on before the watch of its zones starts: the records take what the sensors and the profile say (R21, R65, R121, R138, R158). -/
def startedWall (i : WallInputs) (stored : Vector Word 64) (cutShort : Nat) : Wall :=
  let w := loadedWall stored cutShort
  let points : Vector Point 16 := Vector.ofFn fun p => w.powerOnPoint i p
  { w with
      lanes := tabMap (Vector.ofFn fun n => powerOnLane i w.holdLimitMs n) fun n l => l.lockout (w.lockedOut n),
      cassettes := Vector.ofFn fun c => w.powerOnCassette i c, points := points, zones := Vector.ofFn fun z => w.powerOnZone z,
      bins := Vector.ofFn fun k =>
        { Bin.reset (w.binCapacity k) with margin := w.binMargin k, door := (points.get (if k = depositBin then 2 else 0)).live } }

theorem powerOnWall_eq (i : WallInputs) (stored : Vector Word 64) (cutShort : Nat) :
    powerOnWall i stored cutShort = (zoneIds.foldl (fun w z => w.startWatch z) (startedWall i stored cutShort)).refreshOutputs := by
  unfold powerOnWall
  dsimp only
  rw [Wall.eachLockout]
  rfl

section Started

variable (i : WallInputs) (stored : Vector Word 64) (cutShort : Nat)

/-- A lane at power-on, the lockout mask applied (R4, R21). -/
theorem startedWall_lane (n : LaneId) :
    (startedWall i stored cutShort).lanes.get n =
      (powerOnLane i (loadedWall stored cutShort).holdLimitMs n).lockout ((loadedWall stored cutShort).lockedOut n) := by
  simp only [startedWall, tabMap_get, ofFn_get]

theorem startedWall_point (q : PointId) : (startedWall i stored cutShort).points.get q = (loadedWall stored cutShort).powerOnPoint i q :=
  ofFn_get _ q

theorem startedWall_zone (z : ZoneId) : (startedWall i stored cutShort).zones.get z = (loadedWall stored cutShort).powerOnZone z :=
  ofFn_get _ z

theorem startedWall_blank : (startedWall i stored cutShort).Blank (loadedProfile stored cutShort) :=
  have ⟨h, _⟩ := loadedWall_blank stored cutShort
  ⟨h.profile, h.pages, h.flags, h.gate, h.transport, h.engine, h.conveyor, h.depositTotal, h.port⟩

theorem ZoneMode.start_ne_alarm (m : ZoneMode) : m.start ≠ .alarm := by cases m <;> decide

theorem startedWall_before : (startedWall i stored cutShort).BeforeWatch where
  pages := (startedWall_blank i stored cutShort).pages
  engine := (startedWall_blank i stored cutShort).engine
  port := (startedWall_blank i stored cutShort).port
  lanes n := by
    rw [startedWall_lane]
    exact powerOnLane_shut _ _ _ _
  calm z := by
    rw [startedWall_zone]
    exact ZoneMode.start_ne_alarm _
  alarm := (loadedWall_blank stored cutShort).2
  room := (loadedWall_room stored cutShort).congr rfl rfl

end Started

end Sys2Proof.Machine
end

section
/-! PROOF. Power-on (O3), assembled. -/

namespace Sys2Proof.Machine

/-! ### What a search of the member points finds -/

/-- The lowest ACTIVE member of a zone is the one that the watch finds (R148). -/
theorem Wall.activeMember_lowest {w : Wall} {z : ZoneId} {q : PointId} (member : (w.points.get q).zone = z) (live : (w.points.get q).live = true)
    (lowest : ∀ p, p < q → (w.points.get p).zone = z → (w.points.get p).live = false) : w.activeMember z = some q := by
  obtain ⟨p, found⟩ := Option.isSome_iff_exists.mp ((w.activeMember_isSome z).mpr ⟨q, member, live⟩)
  have ascending : (w.members z).Pairwise (· < ·) := List.Pairwise.filter _ (by decide)
  obtain ⟨p_live, p_least⟩ := find?_least ascending found
  have p_member : (w.points.get p).zone = z := by
    simpa [Wall.members, mem_pointIds] using List.mem_of_find?_eq_some found
  have q_member : q ∈ w.members z := by simp [Wall.members, mem_pointIds, member]
  rcases lt_trichotomy p q with below | same | above
  · simp [lowest p below p_member] at p_live
  · rw [found, same]
  · simp [p_least q q_member above] at live

theorem Wall.activeMember_none {w : Wall} {z : ZoneId} (h : ∀ q, (w.points.get q).zone = z → (w.points.get q).live = false) :
    w.activeMember z = none := by
  rw [← Option.not_isSome_iff_eq_none, Wall.activeMember_isSome]
  rintro ⟨q, member, live⟩
  simp [h q member] at live

/-- The watch of a zone leaves its settings. -/
theorem Wall.watched_settings (u : Wall) (z : ZoneId) :
    (u.watched z).mode = (u.zones.get z).mode ∧ (u.watched z).siren = (u.zones.get z).siren
      ∧ (u.watched z).sirenTime = (u.zones.get z).sirenTime := by
  cases trigger : u.watchTrigger z with
  | none => simp [Wall.watched_calm trigger]
  | some p =>
    rw [Wall.watched_raised trigger]
    exact ⟨rfl, rfl, rfl⟩

/-! ### A point's first sample (R158) -/

theorem powerOnPoint_raw (w : Wall) (i : WallInputs) (q : PointId) : (w.powerOnPoint i q).raw = rawInput i q := rfl

theorem powerOnPoint_fresh (w : Wall) (i : WallInputs) (q : PointId) :
    (w.powerOnPoint i q).known = (w.powerOnPoint i q).live ∧ (w.powerOnPoint i q).alert = false ∧ (w.powerOnPoint i q).restored = false
      ∧ (w.powerOnPoint i q).changes = 0 ∧ (w.powerOnPoint i q).stableMs = 0 := by
  unfold Wall.powerOnPoint Wall.pointSettings
  dsimp only
  split <;> exact ⟨rfl, rfl, rfl, rfl, rfl⟩

/-- An internal point has no input and starts at 0. -/
theorem powerOnPoint_internal (w : Wall) (i : WallInputs) {q : PointId} (h : 12 ≤ q.val) : (w.powerOnPoint i q).live = false := by
  simp [Wall.powerOnPoint, Wall.pointSettings, rawInput, Nat.not_lt.mpr h, Point.candidate, Point.reset]

/-! ### The wall that power-on leaves -/

/-- The outputs are the alarm status's last three fields (R150). -/
theorem Wall.refreshOutputs_only (w : Wall) : w.AlarmOnly w.refreshOutputs := rfl
theorem Wall.refreshOutputs_zones (w : Wall) : w.refreshOutputs.zones = w.zones := rfl
theorem Wall.refreshOutputs_board (w : Wall) : w.refreshOutputs.board = w.board := rfl
theorem Wall.refreshOutputs_lost (w : Wall) : w.refreshOutputs.lost = w.lost := rfl
theorem Wall.refreshOutputs_alarm (w : Wall) :
    w.refreshOutputs.alarm =
      { lockdown := w.alarm.lockdown, lockdownZone := w.alarm.lockdownZone, lockdownStart := w.alarm.lockdownStart,
        siren := w.refreshOutputs.sirenCalled, strobe := w.refreshOutputs.strobeCalled, silent := w.refreshOutputs.silentCalled } := rfl

theorem Wall.AlarmOnly.points {u w : Wall} (h : u.AlarmOnly w) : w.points = u.points := by rw [h]
theorem Wall.AlarmOnly.lanes {u w : Wall} (h : u.AlarmOnly w) : w.lanes = u.lanes := by rw [h]
theorem Wall.AlarmOnly.cassettes {u w : Wall} (h : u.AlarmOnly w) : w.cassettes = u.cassettes := by rw [h]
theorem Wall.AlarmOnly.bins {u w : Wall} (h : u.AlarmOnly w) : w.bins = u.bins := by rw [h]

theorem Wall.AlarmOnly.blank {profile : ProfileStore} {u w : Wall} (only : u.AlarmOnly w) (h : u.Blank profile) : w.Blank profile := by
  rw [only]
  exact ⟨h.profile, h.pages, h.flags, h.gate, h.transport, h.engine, h.conveyor, h.depositTotal, h.port⟩

section PoweredOn

variable (i : WallInputs) (stored : Vector Word 64) (cutShort : Nat)

/-- Power-on is the watch of the zones, then the outputs (R158, R150). -/
theorem powerOnWall_watches :
    ∃ v, (startedWall i stored cutShort).Watches zoneIds v ∧ powerOnWall i stored cutShort = v.refreshOutputs :=
  ⟨_, (startedWall_before i stored cutShort).watches, powerOnWall_eq i stored cutShort⟩

theorem powerOnWall_only : (startedWall i stored cutShort).AlarmOnly (powerOnWall i stored cutShort) := by
  obtain ⟨v, h, eq⟩ := powerOnWall_watches i stored cutShort
  rw [eq]
  exact h.only.trans v.refreshOutputs_only

theorem powerOnWall_blank : (powerOnWall i stored cutShort).Blank (loadedProfile stored cutShort) :=
  (powerOnWall_only i stored cutShort).blank (startedWall_blank i stored cutShort)

theorem powerOnWall_zone (z : ZoneId) : (powerOnWall i stored cutShort).zones.get z = (startedWall i stored cutShort).watched z := by
  obtain ⟨v, h, eq⟩ := powerOnWall_watches i stored cutShort
  rw [eq, v.refreshOutputs_zones, h.zones, if_pos (mem_zoneIds z)]

theorem powerOnWall_point (q : PointId) : (powerOnWall i stored cutShort).points.get q = (loadedWall stored cutShort).powerOnPoint i q := by
  rw [(powerOnWall_only i stored cutShort).points, startedWall_point]

/-- The settings are those of the load. -/
theorem powerOnWall_setting : (powerOnWall i stored cutShort).setting = (loadedWall stored cutShort).setting := by
  have profile : (powerOnWall i stored cutShort).profile = (loadedWall stored cutShort).profile :=
    (powerOnWall_blank i stored cutShort).profile.trans (loadedWall_blank stored cutShort).1.profile.symm
  funext k
  simp only [Wall.setting, profile]

theorem powerOnWall_alarm :
    (powerOnWall i stored cutShort).alarm =
      { lockdown := zoneIds.any fun z => ((powerOnWall i stored cutShort).zones.get z).lockdownAlarm,
        lockdownZone := zoneIds.find? fun z => ((powerOnWall i stored cutShort).zones.get z).lockdownAlarm, lockdownStart := 0#32,
        siren := (powerOnWall i stored cutShort).sirenCalled, strobe := (powerOnWall i stored cutShort).strobeCalled,
        silent := (powerOnWall i stored cutShort).silentCalled } := by
  simp only [powerOnWall_zone]
  obtain ⟨v, h, eq⟩ := powerOnWall_watches i stored cutShort
  rw [← h.lockdown, ← h.lockdownZone, ← h.lockdownStart, eq]
  exact v.refreshOutputs_alarm

theorem powerOnWall_lost : (powerOnWall i stored cutShort).lost = 0 := by
  obtain ⟨v, h, eq⟩ := powerOnWall_watches i stored cutShort
  rw [eq, v.refreshOutputs_lost, h.room.lost]

/-- PROFILE DEFAULTED stands in entry 0 where the stored profile fails its check (R172). -/
theorem powerOnWall_defaulted (fails : passesCheck stored = false) :
    (powerOnWall i stored cutShort).board.get 0 =
      { state := .new, key := 58, count := 1, first := 0#16, last := 0#16, detail := 1#16 } := by
  have posted : (startedWall i stored cutShort).board.get 0 = _ := loadedWall_defaulted_entry cutShort fails
  obtain ⟨v, h, eq⟩ := powerOnWall_watches i stored cutShort
  rw [eq, v.refreshOutputs_board, h.kept 0 (by rw [posted]; decide) (by rw [posted]; rfl), posted]

/-- The board is blank where the stored profile passes its check and no zone is in ALARM. -/
theorem powerOnWall_board_blank (passes : passesCheck stored = true) (calm : ∀ z, ((powerOnWall i stored cutShort).zones.get z).state ≠ .alarm)
    (e : Fin 48) : (powerOnWall i stored cutShort).board.get e = Entry.blank := by
  have board : (powerOnWall i stored cutShort).board = (startedWall i stored cutShort).board := by
    simp only [powerOnWall_zone] at calm
    obtain ⟨v, h, eq⟩ := powerOnWall_watches i stored cutShort
    rw [eq, v.refreshOutputs_board, h.calm fun z _ => calm z]
  have started : (startedWall i stored cutShort).board = (loadedWall stored cutShort).board := rfl
  rw [board, started, loadedWall_passes cutShort passes]
  exact blankWall_board stored cutShort e

/-! ### The records -/

theorem powerOnWall_lane (n : LaneId) :
    (powerOnWall i stored cutShort).lanes.get n =
      (powerOnLane i (powerOnWall i stored cutShort).holdLimitMs n).lockout ((powerOnWall i stored cutShort).lockedOut n) := by
  have limit : (powerOnWall i stored cutShort).holdLimitMs = (loadedWall stored cutShort).holdLimitMs := by
    simp only [Wall.holdLimitMs, powerOnWall_setting]
  have locked : (powerOnWall i stored cutShort).lockedOut n = (loadedWall stored cutShort).lockedOut n := by
    simp only [Wall.lockedOut, powerOnWall_setting]
  rw [(powerOnWall_only i stored cutShort).lanes, startedWall_lane, limit, locked]

theorem powerOnWall_cassette (c : CassId) :
    (powerOnWall i stored cutShort).cassettes.get c = (powerOnWall i stored cutShort).powerOnCassette i c := by
  have started : (startedWall i stored cutShort).cassettes.get c = (loadedWall stored cutShort).powerOnCassette i c := ofFn_get _ c
  rw [(powerOnWall_only i stored cutShort).cassettes, started]
  simp only [Wall.powerOnCassette, Wall.noteThickness, powerOnWall_setting]

theorem powerOnWall_bin (k : BinId) :
    (powerOnWall i stored cutShort).bins.get k =
      { capacity := (powerOnWall i stored cutShort).binCapacity k, margin := (powerOnWall i stored cutShort).binMargin k, count := 0,
        nearFull := false, full := false,
        door := ((powerOnWall i stored cutShort).points.get (if k = depositBin then 2 else 0)).live, restarted := true } := by
  have started : (startedWall i stored cutShort).bins.get k = _ := ofFn_get _ k
  have only := powerOnWall_only i stored cutShort
  rw [only.bins, started, only.points]
  simp only [Bin.reset, Wall.binCapacity, Wall.binMargin, powerOnWall_setting, startedWall]

/-- A zone's record at power-on, before its watch starts. -/
theorem powerOnWall_zone_start (z : ZoneId) :
    (startedWall i stored cutShort).zones.get z = (powerOnWall i stored cutShort).powerOnZone z := by
  rw [startedWall_zone]
  simp only [Wall.powerOnZone, Wall.zoneSettings, Wall.settingMode, Wall.zoneWord, powerOnWall_setting]

theorem powerOnWall_slot (p : PageId) (x : SlotId) : (powerOnWall i stored cutShort).slot p x = Slot.reset := by
  rw [← reset_slot p x, Wall.slot, (powerOnWall_blank i stored cutShort).pages]
  rfl

end PoweredOn

/-- Every word of an EMPTY slot is 0 (R44). -/
theorem Slot.reset_word (k : Nat) : Slot.reset.word k = 0#16 := by
  unfold Slot.word
  split
  · rfl
  · split
    · exact List.getElem?_getD_replicate_default_eq (0#16) 14 (k - 1)
    · simp [Slot.reset]

/-- What the sensors and the lockout mask make of a lane, field by field (R4, R21, R138). -/
theorem powerOnLane_eq (i : WallInputs) (limit : Nat) (n : LaneId) (locked : Bool) :
    (powerOnLane i limit n).lockout locked =
      { state := if locked then .lockedOut else .closed,
        drawer := if i.stowed.get n then (if i.item.get n then .holding else .stowed) else .closing,
        owner := none, waiting := [], bounce := 0, timerMs := 0, duress := false, cycle := .none,
        travel := if i.stowed.get n then .none else .inward, budgetMs := if i.stowed.get n then 0 else 4000,
        window := none, late := false, closeCause := .customer, result := .none, forced := false, shortTimer := false,
        ownerClose := none, obstructed := false, leaving := false, stowedSensor := i.stowed.get n, extendedSensor := false,
        itemSensor := i.item.get n, obstructionSensor := false, envelopeSensor := i.envelope.get n,
        pocket :=
          { state := if i.envelope.get n then .held else .empty, owner := none, holdMs := if i.envelope.get n then limit else 0,
            timerRunning := false, unknownOrigin := i.envelope.get n, unattended := false, abandoned := false, stranded := false,
            lost := false },
        bundle := BundleRecord.reset } := by
  have pocket : Pocket.restart (i.envelope.get n) true limit =
      { state := if i.envelope.get n then .held else .empty, owner := none, holdMs := if i.envelope.get n then limit else 0,
        timerRunning := false, unknownOrigin := i.envelope.get n, unattended := false, abandoned := false, stranded := false,
        lost := false } := by
    cases i.envelope.get n <;> rfl
  rw [← pocket]
  rfl

section Zones

variable (i : WallInputs) (stored : Vector Word 64) (cutShort : Nat) (z : ZoneId)

/-- A zone's mode at power-on is the one that the profile gives it. -/
theorem powerOnWall_zone_mode : ((powerOnWall i stored cutShort).zones.get z).mode = (powerOnWall i stored cutShort).settingMode z := by
  rw [powerOnWall_zone, (Wall.watched_settings _ z).1, powerOnWall_zone_start]
  rfl

theorem powerOnWall_zone_entryMs : ((powerOnWall i stored cutShort).zones.get z).entryMs = 0 := by
  rw [powerOnWall_zone]
  cases trigger : (startedWall i stored cutShort).watchTrigger z with
  | none =>
    rw [Wall.watched_calm trigger, startedWall_zone]
    rfl
  | some p =>
    rw [Wall.watched_raised trigger]
    rfl

/-- A zone that no ACTIVE member wakes starts by its mode (R158). -/
theorem powerOnWall_zone_calm
    (calm : ((powerOnWall i stored cutShort).zones.get z).mode ≠ .always
      ∨ ∀ q, ((powerOnWall i stored cutShort).points.get q).zone = z → ((powerOnWall i stored cutShort).points.get q).live = false) :
    (powerOnWall i stored cutShort).zones.get z = (powerOnWall i stored cutShort).powerOnZone z := by
  have quiet : (startedWall i stored cutShort).watchTrigger z = none := by
    rw [(powerOnWall_only i stored cutShort).points, powerOnWall_zone, (Wall.watched_settings _ z).1] at calm
    rcases calm with other_mode | none_active
    · exact if_neg fun watched => other_mode watched.1
    · rw [Wall.watchTrigger, Wall.activeMember_none none_active, ite_self]
  rw [powerOnWall_zone, Wall.watched_calm quiet, powerOnWall_zone_start]

/-- A 24-HOUR zone with an ACTIVE member enters ALARM through the lowest of them (R148, R158). -/
theorem powerOnWall_zone_woken {q : PointId} (always : ((powerOnWall i stored cutShort).zones.get z).mode = .always)
    (member : ((powerOnWall i stored cutShort).points.get q).zone = z) (live : ((powerOnWall i stored cutShort).points.get q).live = true)
    (lowest : ∀ p, p < q → ((powerOnWall i stored cutShort).points.get p).zone = z →
      ((powerOnWall i stored cutShort).points.get p).live = false) :
    (powerOnWall i stored cutShort).zones.get z = ((powerOnWall i stored cutShort).powerOnZone z).raised q := by
  have trigger : (startedWall i stored cutShort).watchTrigger z = some q := by
    rw [(powerOnWall_only i stored cutShort).points] at member live lowest
    rw [powerOnWall_zone, (Wall.watched_settings _ z).1] at always
    have armed : ((startedWall i stored cutShort).zones.get z).state = .armed := by
      rw [startedWall_zone] at always ⊢
      exact congrArg ZoneMode.start always
    exact (if_pos ⟨always, armed⟩).trans (Wall.activeMember_lowest member live lowest)
  rw [powerOnWall_zone, Wall.watched_raised trigger, powerOnWall_zone_start]

end Zones

/-- A zone's record at power-on, before its watch starts (R158). -/
theorem Wall.powerOnZone_fields (w : Wall) (z : ZoneId) :
    (w.powerOnZone z).state = (w.powerOnZone z).mode.start ∧ (w.powerOnZone z).trigger = none ∧ (w.powerOnZone z).alarms = 0
      ∧ (w.powerOnZone z).entryMs = 0 ∧ (w.powerOnZone z).sirenMs = none := ⟨rfl, rfl, rfl, rfl, rfl⟩

/-- The record of a zone that enters its first ALARM (R149). -/
theorem Zone.raised_fields (q : PointId) {x : Zone} (first : x.alarms = 0) :
    (x.raised q).state = .alarm ∧ (x.raised q).trigger = some q ∧ (x.raised q).alarms = 1
      ∧ (x.raised q).sirenMs =
        if (x.raised q).siren = true ∧ 0 < (x.raised q).sirenTime then some ((x.raised q).sirenTime * 1000) else none := by
  refine ⟨rfl, rfl, ?_, rfl⟩
  rw [Zone.raised, first]
  rfl

theorem ZoneMode.start_eq (m : ZoneMode) : m.start = if m = .always then .armed else .disarmed := by cases m <;> rfl

theorem Wall.pageBit_reset {w : Wall} (h : ∀ p x, w.slot p x = Slot.reset) (p : PageId) : w.pageBit p = false := by
  rw [Wall.pageBit, (findSlot_eq_none _).mpr fun x => by rw [h]; rfl]
  rfl

theorem Wall.occupant_reset {w : Wall} (h : ∀ p x, w.slot p x = Slot.reset) (p : PageId) (k : Track) : w.occupant p k = none := by
  refine (findSlot_eq_none _).mpr fun x => ?_
  rw [h]
  rfl

/-- Settles O3: the state after power-on, record by record. -/
theorem powerOnEmptiesTheSlots : Obligations.PowerOnEmptiesTheSlots := by
  unfold Obligations.PowerOnEmptiesTheSlots
  intro i s
  refine ⟨s.powerUp i, rfl, rfl, rfl, rfl, rfl, ?_⟩
  have wall : (s.powerUp i).wall = powerOnWall i s.wall.profile.cut.stored s.wall.profile.cut.cutShort := rfl
  rw [wall]
  generalize hstored : s.wall.profile.cut.stored = stored
  generalize s.wall.profile.cut.cutShort = cutShort
  have blank := powerOnWall_blank i stored cutShort
  have slots := powerOnWall_slot i stored cutShort
  have profile := blank.profile
  refine ⟨fun p x k => by rw [slots, Slot.reset_word], fun p x => by rw [slots]; rfl, fun p => ?_, Wall.occupant_reset slots, fun k => ?_,
    Wall.pageBit_reset slots, fun _ => rfl, blank.port, by rw [profile]; rfl, by rw [profile]; rfl, by rw [profile]; rfl, fun idle => ?_,
    fun n => (powerOnWall_lane i stored cutShort n).trans (powerOnLane_eq _ _ _ _), powerOnWall_cassette i stored cutShort, blank.gate,
    blank.transport, blank.engine, blank.conveyor, powerOnWall_bin i stored cutShort, blank.depositTotal, fun p q hq => ?_, fun q hq => ?_,
    fun q => ?_, fun z => ⟨?_, ?_, fun calm => ?_, fun q always member live lowest => ?_⟩, powerOnWall_alarm i stored cutShort,
    powerOnWall_lost i stored cutShort, fun fails => ?_, fun passes => ?_⟩
  · rw [blank.pages]
    exact congrArg Page.posting (reset_page p)
  · rw [blank.flags]
    exact replicate_get _ k
  · rw [profile, ← hstored, ProfileStore.cut, idle]
    rfl
  · rw [powerOnWall_point, hq]
    refine ⟨?_, rfl⟩
    rw [powerOnPoint_raw]
    exact dif_pos p.isLt
  · rw [powerOnWall_point]
    exact powerOnPoint_internal _ i hq
  · rw [powerOnWall_point]
    exact powerOnPoint_fresh _ i q
  · exact powerOnWall_zone_mode i stored cutShort z
  · exact powerOnWall_zone_entryMs i stored cutShort z
  · rw [powerOnWall_zone_calm i stored cutShort z calm]
    obtain ⟨state, trigger, alarms, -, siren⟩ := Wall.powerOnZone_fields (powerOnWall i stored cutShort) z
    exact ⟨state.trans (ZoneMode.start_eq _), trigger, alarms, siren⟩
  · rw [powerOnWall_zone_woken i stored cutShort z always member live lowest]
    obtain ⟨-, -, no_alarms, -, -⟩ := Wall.powerOnZone_fields (powerOnWall i stored cutShort) z
    exact Zone.raised_fields q no_alarms
  · rw [profile] at fails
    exact powerOnWall_defaulted i stored cutShort fails
  · rw [profile] at passes
    exact fun calm e => powerOnWall_board_blank i stored cutShort passes calm e

end Sys2Proof.Machine
end
section
/-! SUPPORT. The reservations of R55, slot by slot: what a slot's order claims, the law of R55 in terms of the claims, and the shared operations that move them.
-/

namespace Sys2Proof.Machine

/-! ### Claims -/

/-- An order in progress has not left its page's posting list (R26). -/
theorem SlotState.listed_of_inProgress {a : SlotState} (h : a.inProgress = true) : a.listed = true := by
  cases a with
  | empty | posted | finished | refused => exact absurd h (by decide)
  | accepted | running | held => rfl

/-- An order that has ended is not in progress. -/
theorem SlotState.not_inProgress_of_ended {a : SlotState} (h : a.ended = true) : a.inProgress = false := by
  rcases (SlotState.ended_iff a).mp h with rfl | rfl <;> rfl

/-- What a slot of the lane's page claims of the cassettes: nothing unless its order is a DISPENSE in progress, whose claim is the outstanding counts of its progress
area, where it has one (R55, R91). -/
def Slot.claim (n : LaneId) (y : Slot) : Option (Option Counts) :=
  if y.state.inProgress = true ∧ kindOn (lanePage n) (y.body.get 0) = some .dispense then some (y.context.map DispenseContext.outstanding) else none

/-- What the order in a lane's slot claims. -/
def Wall.claim (w : Wall) (n : LaneId) (x : SlotId) : Option (Option Counts) := (w.slot (lanePage n) x).claim n

theorem lanePage_injective : Function.Injective lanePage := Fin.castSucc_injective 4

theorem Wall.claim_ne_none {w : Wall} {n : LaneId} {x : SlotId} :
    w.claim n x ≠ none ↔ (w.slot (lanePage n) x).state.inProgress = true ∧ w.kindAt (lanePage n) x = some .dispense := by
  simp only [Wall.claim, Slot.claim, ne_eq, ite_eq_right_iff, reduceCtorEq, imp_false, not_not]
  exact Iff.rfl

/-- An order of another kind claims nothing. -/
theorem Wall.claim_of_kind {w : Wall} {n : LaneId} {x : SlotId} (h : w.kindAt (lanePage n) x ≠ some .dispense) : w.claim n x = none := by
  by_contra claims
  exact h (Wall.claim_ne_none.mp claims).2

/-- A slot whose order is not in progress claims nothing. -/
theorem Slot.claim_of_state {n : LaneId} {y : Slot} (h : y.state.inProgress = false) : y.claim n = none := by
  simp [Slot.claim, h]

theorem Wall.claim_of_state {w : Wall} {n : LaneId} {x : SlotId} (h : (w.slot (lanePage n) x).state.inProgress = false) : w.claim n x = none :=
  Slot.claim_of_state h

/-- The lane's DISPENSE is an order that claims. -/
theorem Wall.claim_of_order {w : Wall} {n : LaneId} {x : SlotId} (h : w.orderOf n .dispense = some x) :
    w.claim n x = some ((w.slot (lanePage n) x).context.map DispenseContext.outstanding) := by
  obtain ⟨running, kind⟩ := Wall.orderOf_some h
  exact if_pos ⟨running, kind⟩

/-- The first slot of a page's four that an equivalent test finds. -/
theorem findSlot_congr {f g : SlotId → Bool} (h : ∀ x, f x = g x) : findSlot f = findSlot g := congrArg findSlot (funext h)

/-- The lane's DISPENSE is the first slot that claims. -/
theorem Wall.orderOf_eq_claim (w : Wall) (n : LaneId) : w.orderOf n .dispense = findSlot fun x => (w.claim n x).isSome := by
  refine findSlot_congr fun x => Bool.eq_iff_iff.mpr ?_
  rw [Option.isSome_iff_ne_none, Wall.claim_ne_none]
  simp

theorem Wall.orderOf_of_claims {v w : Wall} {n : LaneId} (h : ∀ x, v.claim n x = w.claim n x) : v.orderOf n .dispense = w.orderOf n .dispense := by
  rw [Wall.orderOf_eq_claim, Wall.orderOf_eq_claim]
  exact findSlot_congr fun x => by rw [h]

theorem Wall.owed_of_order {w : Wall} {n : LaneId} {x : SlotId} (h : w.orderOf n .dispense = some x) :
    w.owed n = ((w.slot (lanePage n) x).context.map DispenseContext.outstanding).getD Counts.zero := by
  rw [Wall.owed, h]
  rfl

theorem Wall.owed_of_none {w : Wall} {n : LaneId} (h : w.orderOf n .dispense = none) : w.owed n = Counts.zero := by
  rw [Wall.owed, h]
  rfl

theorem Wall.owed_of_claims {v w : Wall} {n : LaneId} (h : ∀ x, v.claim n x = w.claim n x) : v.owed n = w.owed n := by
  have order := Wall.orderOf_of_claims h
  cases found : w.orderOf n .dispense with
  | none => rw [Wall.owed_of_none found, Wall.owed_of_none (order.trans found)]
  | some x =>
    have same := h x
    rw [Wall.claim_of_order found, Wall.claim_of_order (order.trans found)] at same
    rw [Wall.owed_of_order found, Wall.owed_of_order (order.trans found), Option.some.inj same]

/-! ### The law -/

/-- The first two parts of the law: one DISPENSE a lane (R27), and a loaded context that agrees with its progress area (R91). -/
structure Wall.ClaimsAgree (w : Wall) : Prop where
  one : ∀ n x y, w.claim n x ≠ none → w.claim n y ≠ none → x = y
  loaded : ∀ l, w.engine.loaded = some l → w.claim l.lane l.slot = some (some l.context.outstanding)

theorem Wall.ClaimsAgree.orderOf {w : Wall} (h : w.ClaimsAgree) {n : LaneId} {x : SlotId} (claims : w.claim n x ≠ none) :
    w.orderOf n .dispense = some x := by
  cases found : w.orderOf n .dispense with
  | none =>
    rw [Wall.orderOf_eq_claim] at found
    have := List.find?_eq_none.mp found x (mem_laneIds x)
    exact absurd (Option.isSome_iff_ne_none.mpr claims) this
  | some y => rw [h.one n y x (by rw [Wall.claim_of_order found]; simp) claims]

theorem Wall.ClaimsAgree.of_claims {v w : Wall} (h : w.ClaimsAgree) (claims : ∀ n x, v.claim n x = w.claim n x)
    (loaded : v.engine.loaded = w.engine.loaded) : v.ClaimsAgree where
  one n x y := by rw [claims, claims]; exact h.one n x y
  loaded l hl := by rw [claims]; exact h.loaded l (loaded ▸ hl)

/-- The law of R55 is that the claims agree and the reserved counts are their sum. -/
theorem Wall.reservationLaw_iff {w : Wall} :
    w.reservationLaw ↔ w.ClaimsAgree
      ∧ ∀ c : CassId, (w.cassettes.get c).reserved = (w.owed 0).get c + (w.owed 1).get c + (w.owed 2).get c + (w.owed 3).get c := by
  constructor
  · rintro ⟨one, loaded, reserved⟩
    refine ⟨⟨fun n x y hx hy => ?_, fun l hl => ?_⟩, reserved⟩
    · obtain ⟨running, kind⟩ := Wall.claim_ne_none.mp hx
      obtain ⟨running', kind'⟩ := Wall.claim_ne_none.mp hy
      exact one n x y running kind running' kind'
    · obtain ⟨order, outstanding⟩ := loaded l hl
      rw [Wall.claim_of_order order, outstanding]
  · rintro ⟨agree, reserved⟩
    refine ⟨fun n x y running kind running' kind' => ?_, fun l hl => ?_, reserved⟩
    · exact agree.one n x y (Wall.claim_ne_none.mpr ⟨running, kind⟩) (Wall.claim_ne_none.mpr ⟨running', kind'⟩)
    · have claim := agree.loaded l hl
      have order := agree.orderOf (by rw [claim]; simp)
      rw [Wall.claim_of_order order] at claim
      exact ⟨order, Option.some.inj claim⟩

theorem Wall.reservationLaw.agree {w : Wall} (h : w.reservationLaw) : w.ClaimsAgree := (Wall.reservationLaw_iff.mp h).1

/-- The one thing that can happen to the reservations: the claims of one lane change, and the reserved counts by as much. -/
theorem Wall.reservationLaw.move {v w : Wall} (h : w.reservationLaw) (n : LaneId) (other : ∀ m, m ≠ n → ∀ x, v.claim m x = w.claim m x)
    (agree : v.ClaimsAgree)
    (moved : ∀ c, (v.cassettes.get c).reserved + (w.owed n).get c = (w.cassettes.get c).reserved + (v.owed n).get c) : v.reservationLaw := by
  refine Wall.reservationLaw_iff.mpr ⟨agree, fun c => ?_⟩
  obtain ⟨-, sum⟩ := Wall.reservationLaw_iff.mp h
  have kept : ∀ m, m ≠ n → (v.owed m).get c = (w.owed m).get c := fun m hm => by rw [Wall.owed_of_claims (other m hm)]
  have total := sum c
  have change := moved c
  have lanes : n = 0 ∨ n = 1 ∨ n = 2 ∨ n = 3 := by simpa [laneIds] using mem_laneIds n
  rcases lanes with rfl | rfl | rfl | rfl
  · have := kept 1 (by decide); have := kept 2 (by decide); have := kept 3 (by decide)
    omega
  · have := kept 0 (by decide); have := kept 2 (by decide); have := kept 3 (by decide)
    omega
  · have := kept 0 (by decide); have := kept 1 (by decide); have := kept 3 (by decide)
    omega
  · have := kept 0 (by decide); have := kept 1 (by decide); have := kept 2 (by decide)
    omega

/-- What leaves the claims, the loaded context and the reserved counts as they were keeps the law. -/
theorem Wall.reservationLaw.of_claims {v w : Wall} (h : w.reservationLaw) (claims : ∀ n x, v.claim n x = w.claim n x)
    (loaded : v.engine.loaded = w.engine.loaded) (reserved : ∀ c, (v.cassettes.get c).reserved = (w.cassettes.get c).reserved) :
    v.reservationLaw :=
  h.move 0 (fun m _ => claims m) (h.agree.of_claims claims loaded) fun c => by rw [reserved, Wall.owed_of_claims (claims 0)]

/-- The law depends on the pages, the loaded context and the cassettes alone. -/
theorem Wall.reservationLaw.of_eq {v w : Wall} (h : w.reservationLaw) (pages : v.pages = w.pages) (loaded : v.engine.loaded = w.engine.loaded)
    (cassettes : v.cassettes = w.cassettes) : v.reservationLaw :=
  h.of_claims (fun n x => by rw [Wall.claim, Wall.claim, Wall.slot_congr pages]) loaded fun c => by rw [cassettes]

/-! ### A slot that changes -/

theorem Wall.modSlot_claim_same (n : LaneId) (x : SlotId) (f : Slot → Slot) (w : Wall) :
    (w.modSlot (lanePage n) x f).claim n x = (f (w.slot (lanePage n) x)).claim n := by
  rw [Wall.claim, Wall.modSlot_slot_same]

theorem Wall.modSlot_claim_other {p : PageId} {m : LaneId} {x y : SlotId} (f : Slot → Slot) (w : Wall) (h : (lanePage m, y) ≠ (p, x)) :
    (w.modSlot p x f).claim m y = w.claim m y := by
  rw [Wall.claim, Wall.modSlot_slot_other f w h, Wall.claim]

theorem lanePage_pair_ne {m n : LaneId} {x y : SlotId} (h : ¬ (m = n ∧ y = x)) : (lanePage m, y) ≠ (lanePage n, x) := fun e =>
  h ⟨lanePage_injective (Prod.mk.inj e).1, (Prod.mk.inj e).2⟩

/-- With another progress area the same order claims another count. -/
theorem Slot.claim_context (n : LaneId) (k : Option DispenseContext) (y : Slot) :
    ({ y with context := k } : Slot).claim n = (y.claim n).map fun _ => k.map DispenseContext.outstanding := by
  unfold Slot.claim
  dsimp only
  split <;> rfl

namespace Wall.reservationLaw
variable {v w : Wall}

/-- A slot may change in what it does not claim by. -/
theorem modSlot {p : PageId} {x : SlotId} {f : Slot → Slot} (h : w.reservationLaw)
    (hf : ∀ n, p = lanePage n → (f (w.slot p x)).claim n = (w.slot p x).claim n) : (w.modSlot p x f).reservationLaw := by
  refine h.of_claims (fun n y => ?_) rfl fun _ => rfl
  by_cases e : (lanePage n, y) = (p, x)
  · obtain ⟨rfl, rfl⟩ := Prod.mk.inj e
    rw [Wall.modSlot_claim_same, hf n rfl, Wall.claim]
  · exact Wall.modSlot_claim_other f w e

/-- An order that claims nothing is closed (R25). -/
theorem closeSlotAt {t : DWord} {p : PageId} {x : SlotId} {st : SlotState} {e : OrderEnd} {fields : List Word} (h : w.reservationLaw)
    (ended : st.inProgress = false) (free : ∀ n, p = lanePage n → w.claim n x = none) : (w.closeSlotAt t p x st e fields).reservationLaw := by
  refine h.of_claims (fun n y => ?_) (by rw [Wall.closeSlotAt_frame]) fun c => by rw [Wall.closeSlotAt_frame]
  by_cases same : (lanePage n, y) = (p, x)
  · obtain ⟨rfl, rfl⟩ := Prod.mk.inj same
    rw [free n rfl]
    exact Wall.claim_of_state (by rw [Wall.closeSlotAt_slot]; exact ended)
  · rw [Wall.claim, Wall.closeSlotAt_other t st e fields w same, Wall.claim]

theorem finishAt_free {t : DWord} {p : PageId} {x : SlotId} {e : OrderEnd} {fields : List Word} (h : w.reservationLaw)
    (free : ∀ n, p = lanePage n → w.claim n x = none) : (w.finishAt t p x e fields).reservationLaw := by
  unfold Wall.finishAt
  split
  · exact (h.closeSlotAt rfl free).of_eq rfl rfl rfl
  · exact h.closeSlotAt rfl free

/-- An order of another kind than DISPENSE ends. -/
theorem finishAt {t : DWord} {n : LaneId} {x : SlotId} {e : OrderEnd} {fields : List Word} (h : w.reservationLaw)
    (kind : w.kindAt (lanePage n) x ≠ some .dispense) : (w.finishAt t (lanePage n) x e fields).reservationLaw :=
  h.finishAt_free fun m page => by
    obtain rfl := lanePage_injective page
    exact Wall.claim_of_kind kind

theorem finish {n : LaneId} {x : SlotId} {e : OrderEnd} {fields : List Word} (h : w.reservationLaw)
    (kind : w.kindAt (lanePage n) x ≠ some .dispense) : (w.finish (lanePage n) x e fields).reservationLaw := h.finishAt kind

/-- A service order ends. -/
theorem finishService {x : SlotId} {e : OrderEnd} {fields : List Word} (h : w.reservationLaw) : (w.finish servicePage x e fields).reservationLaw :=
  h.finishAt_free fun n page => absurd page (servicePage_ne_lanePage n)

/-- The work of an order starts that is in progress already, or is no DISPENSE (R31). -/
theorem startWork {p : PageId} {x : SlotId} (h : w.reservationLaw)
    (kept : ∀ n, p = lanePage n → (w.slot p x).state.inProgress = true ∨ w.kindAt p x ≠ some .dispense) : (w.startWork p x).reservationLaw := by
  refine h.modSlot fun n page => ?_
  subst page
  rcases kept n rfl with running | kind
  · have listed : (w.slot (lanePage n) x).state.listed = true := SlotState.listed_of_inProgress running
    have works : w.workState.inProgress = true := w.workState_inProgress
    simp only [Slot.claim, listed, if_true, works, running]
  · have other : ¬ kindOn (lanePage n) ((w.slot (lanePage n) x).body.get 0) = some .dispense := kind
    simp only [Slot.claim, other, and_false, if_false]

theorem startService {x : SlotId} (h : w.reservationLaw) : (w.startWork servicePage x).reservationLaw :=
  h.startWork fun n page => absurd page (servicePage_ne_lanePage n)

theorem refuseCancel {p : PageId} {x : SlotId} (h : w.reservationLaw) : (w.refuseCancel p x).reservationLaw :=
  (h.modSlot (f := fun y => { y with tooLate := true }) fun _ _ => rfl).of_eq rfl rfl rfl

theorem post {k : News} {d : Nat} (h : w.reservationLaw) : (w.post k d).reservationLaw := by
  rw [Wall.post_frame]
  exact h

end Wall.reservationLaw

/-! ### The context of a lane's DISPENSE (R91) -/

/-- The context of a lane's DISPENSE is its claim, loaded or not. -/
theorem Wall.ClaimsAgree.claim_of_context {w : Wall} (h : w.ClaimsAgree) {n : LaneId} {c : DispenseContext} (context : w.contextOf n = some c) :
    ∃ x, w.orderOf n .dispense = some x ∧ w.claim n x = some (some c.outstanding) := by
  have progress : ((w.orderOf n .dispense).bind fun x => (w.slot (lanePage n) x).context) = some c →
      ∃ x, w.orderOf n .dispense = some x ∧ w.claim n x = some (some c.outstanding) := fun found => by
    obtain ⟨x, order, area⟩ := Option.bind_eq_some_iff.mp found
    exact ⟨x, order, by rw [Wall.claim_of_order order, area]; rfl⟩
  unfold Wall.contextOf at context
  split at context
  · next l loaded =>
    split at context
    · next lane =>
      subst lane
      obtain rfl := Option.some.inj context
      have claim := h.loaded l loaded
      exact ⟨l.slot, h.orderOf (by rw [claim]; simp), claim⟩
    · exact progress context
  · exact progress context

theorem Wall.owed_of_claim {w : Wall} (h : w.ClaimsAgree) {n : LaneId} {x : SlotId} {o : Option Counts} (claim : w.claim n x = some o) :
    w.owed n = o.getD Counts.zero := by
  have order := h.orderOf (by rw [claim]; simp)
  rw [Wall.claim_of_order order] at claim
  rw [Wall.owed_of_order order, Option.some.inj claim]

/-- A change of the context of a DISPENSE in tenure: the loaded copy changes, and the progress area follows it in the outstanding counts (R91). -/
theorem Wall.modContext_tenure {w : Wall} {x : SlotId} {l : Loaded} (f : DispenseContext → DispenseContext)
    (order : w.orderOf l.lane .dispense = some x) (loaded : w.engine.loaded = some l) :
    w.modContext l.lane f = (w.modEngine fun e => { e with loaded := some { l with context := f l.context } }).modSlot (lanePage l.lane) x fun y =>
      { y with context := y.context.map fun c => { c with outstanding := (f l.context).outstanding } } := by
  simp only [Wall.modContext, order, loaded, if_true]

/-- Where each slot claims that claimed, a lane has one DISPENSE still. -/
theorem Wall.ClaimsAgree.one_of_moved {v w : Wall} (h : w.ClaimsAgree) {n : LaneId} {x : SlotId} (claims : w.claim n x ≠ none)
    (other : ∀ m y, ¬ (m = n ∧ y = x) → v.claim m y = w.claim m y) (m : LaneId) (y z : SlotId) (hy : v.claim m y ≠ none) (hz : v.claim m z ≠ none) :
    y = z := by
  have claimed : ∀ y, v.claim m y ≠ none → w.claim m y ≠ none := fun y hy => by
    by_cases same : m = n ∧ y = x
    · rw [same.1, same.2]
      exact claims
    · rwa [← other m y same]
  exact h.one m y z (claimed y hy) (claimed z hz)

/-- A change of the context of a lane's DISPENSE changes its claim, in the progress area and in the loaded copy alike, and no other. -/
theorem Wall.ClaimsAgree.modContext {w : Wall} (h : w.ClaimsAgree) {n : LaneId} {x : SlotId} {c : DispenseContext} (f : DispenseContext → DispenseContext)
    (order : w.orderOf n .dispense = some x) (context : w.contextOf n = some c) :
    (w.modContext n f).ClaimsAgree ∧ (w.modContext n f).claim n x = some (some (f c).outstanding)
      ∧ ∀ m y, ¬ (m = n ∧ y = x) → (w.modContext n f).claim m y = w.claim m y := by
  have claim : w.claim n x = some (some c.outstanding) := by
    obtain ⟨y, found, claim⟩ := h.claim_of_context context
    obtain rfl := Option.some.inj (order.symm.trans found)
    exact claim
  have claims : w.claim n x ≠ none := by rw [claim]; simp
  by_cases tenure : w.engine.loaded.map Loaded.lane = some n
  · obtain ⟨l, loaded, rfl⟩ := Option.map_eq_some_iff.mp tenure
    obtain rfl : l.context = c := by simpa [Wall.contextOf, loaded] using context
    rw [Wall.modContext_tenure f order loaded]
    set v : Wall := w.modEngine fun e => { e with loaded := some { l with context := f l.context } }
    set area : Slot → Slot := fun y => { y with context := y.context.map fun c => { c with outstanding := (f l.context).outstanding } }
    have moved : (v.modSlot (lanePage l.lane) x area).claim l.lane x = some (some (f l.context).outstanding) := by
      rw [Wall.claim_of_order order] at claim
      obtain ⟨d, area_eq, -⟩ := Option.map_eq_some_iff.mp (Option.some.inj claim)
      have slot : ((v.slot (lanePage l.lane) x).context) = some d := area_eq
      rw [Wall.modSlot_claim_same, Slot.claim_context, slot]
      exact congrArg (Option.map _) ((Wall.claim_of_order order).trans claim)
    have other : ∀ m y, ¬ (m = l.lane ∧ y = x) → (v.modSlot (lanePage l.lane) x area).claim m y = w.claim m y := fun m y ne =>
      Wall.modSlot_claim_other (w := v) area (lanePage_pair_ne ne)
    refine ⟨⟨h.one_of_moved claims other, fun k hk => ?_⟩, moved, other⟩
    obtain rfl : { l with context := f l.context } = k := Option.some.inj hk
    have slot : l.slot = x := h.one l.lane l.slot x (by rw [h.loaded l loaded]; simp) claims
    rw [← slot] at moved ⊢
    exact moved
  · rw [Wall.modContext_progress f order tenure]
    have area := (Wall.contextOf_progress order tenure).symm.trans context
    have moved : (w.modSlot (lanePage n) x fun y => { y with context := y.context.map f }).claim n x = some (some (f c).outstanding) := by
      rw [Wall.modSlot_claim_same, Slot.claim_context, area]
      exact congrArg (Option.map _) claim
    have other : ∀ m y, ¬ (m = n ∧ y = x) → (w.modSlot (lanePage n) x fun y => { y with context := y.context.map f }).claim m y = w.claim m y :=
      fun m y ne => Wall.modSlot_claim_other _ w (lanePage_pair_ne ne)
    refine ⟨⟨h.one_of_moved claims other, fun k hk => ?_⟩, moved, other⟩
    have loaded : w.engine.loaded = some k := hk
    have apart : k.lane ≠ n := fun e => tenure (by rw [loaded, Option.map_some, e])
    rw [other k.lane k.slot fun e => apart e.1]
    exact h.loaded k loaded

/-! ### Records that no reservation depends on -/

namespace Wall.reservationLaw
variable {v w : Wall}

theorem ite {c : Prop} [Decidable c] (hv : v.reservationLaw) (hw : w.reservationLaw) : (if c then v else w).reservationLaw := by
  split
  · exact hv
  · exact hw

theorem foldl {α : Type} {f : Wall → α → Wall} (h : w.reservationLaw) (hf : ∀ {w : Wall} (a : α), w.reservationLaw → (f w a).reservationLaw)
    (l : List α) : (l.foldl f w).reservationLaw := List.foldlRecOn l f h fun _ h a _ => hf a h

theorem eachLane {f : LaneId → Wall → Wall} (h : w.reservationLaw) (hf : ∀ {w : Wall} (n : LaneId), w.reservationLaw → (f n w).reservationLaw) :
    (w.eachLane f).reservationLaw := h.foldl hf laneIds

theorem modLane {n : LaneId} {f : Lane → Lane} (h : w.reservationLaw) : (w.modLane n f).reservationLaw := h
theorem modPocket {n : LaneId} {f : Pocket → Pocket} (h : w.reservationLaw) : (w.modPocket n f).reservationLaw := h
theorem modBundle {n : LaneId} {f : BundleRecord → BundleRecord} (h : w.reservationLaw) : (w.modBundle n f).reservationLaw := h
theorem modGate {f : Gate → Gate} (h : w.reservationLaw) : (w.modGate f).reservationLaw := h
theorem modTransport {f : Transport → Transport} (h : w.reservationLaw) : (w.modTransport f).reservationLaw := h
theorem modConveyor {f : Conveyor → Conveyor} (h : w.reservationLaw) : (w.modConveyor f).reservationLaw := h
theorem modBin {k : BinId} {f : Bin → Bin} (h : w.reservationLaw) : (w.modBin k f).reservationLaw := h
theorem modPoint {p : PointId} {f : Point → Point} (h : w.reservationLaw) : (w.modPoint p f).reservationLaw := h
theorem modZone {z : ZoneId} {f : Zone → Zone} (h : w.reservationLaw) : (w.modZone z f).reservationLaw := h
theorem modAlarm {f : AlarmStatus → AlarmStatus} (h : w.reservationLaw) : (w.modAlarm f).reservationLaw := h
theorem modPort {f : Port → Port} (h : w.reservationLaw) : (w.modPort f).reservationLaw := h
theorem modProfile {f : ProfileStore → ProfileStore} (h : w.reservationLaw) : (w.modProfile f).reservationLaw := h
theorem modTally {n : LaneId} {f : Tally → Tally} (h : w.reservationLaw) : (w.modTally n f).reservationLaw := h
theorem modFlag {k : Fin 16} {f : Word → Word} (h : w.reservationLaw) : (w.modFlag k f).reservationLaw := h
theorem answerCancel {p : PageId} {x : SlotId} (h : w.reservationLaw) : (w.answerCancel p x).reservationLaw := h

/-- A change of the engine that keeps the loaded context. -/
theorem modEngine {f : Engine → Engine} (h : w.reservationLaw) (kept : (f w.engine).loaded = w.engine.loaded) : (w.modEngine f).reservationLaw :=
  h.of_eq rfl kept rfl

theorem modCassette {c : CassId} {f : Cassette → Cassette} (h : w.reservationLaw) (kept : ∀ y, (f y).reserved = y.reserved) :
    (w.modCassette c f).reservationLaw := by
  refine h.of_claims (fun _ _ => rfl) rfl fun k => ?_
  simp only [Wall.modCassette_cassettes, tabMod_get]
  split
  · exact kept _
  · rfl

end Wall.reservationLaw

/-! ### The operations that move a reservation (R55) -/

theorem Counts.zero_get (c : CassId) : Counts.zero.get c = 0 := replicate_get 0 c

namespace Wall.reservationLaw
variable {v w : Wall}

theorem owed_le (h : w.reservationLaw) (n : LaneId) (c : CassId) : (w.owed n).get c ≤ (w.cassettes.get c).reserved := by
  have sum := (Wall.reservationLaw_iff.mp h).2 c
  have lanes : n = 0 ∨ n = 1 ∨ n = 2 ∨ n = 3 := by simpa [laneIds] using mem_laneIds n
  rcases lanes with rfl | rfl | rfl | rfl <;> omega

/-- A context changes and the reserved counts follow: the one step by which the engine moves a reservation. -/
theorem moveContext {u : Wall} {n : LaneId} {c : DispenseContext} {f : DispenseContext → DispenseContext} (h : w.reservationLaw)
    (pages : u.pages = w.pages) (engine : u.engine = w.engine) (context : w.contextOf n = some c)
    (moved : ∀ k, (u.cassettes.get k).reserved + c.outstanding.get k = (w.cassettes.get k).reserved + (f c).outstanding.get k) :
    (u.modContext n f).reservationLaw ∧ (u.modContext n f).owed n = (f c).outstanding := by
  have slots : ∀ x, u.slot (lanePage n) x = w.slot (lanePage n) x := fun x => Wall.slot_congr pages _ x
  have claims : ∀ m y, u.claim m y = w.claim m y := fun m y => by rw [Wall.claim, Wall.claim, Wall.slot_congr pages]
  have agree : u.ClaimsAgree := h.agree.of_claims claims (by rw [engine])
  obtain ⟨same_order, same_context, -⟩ := Wall.contextOf_congr engine slots
  obtain ⟨x, order, claim⟩ := h.agree.claim_of_context context
  obtain ⟨agree', claim', other⟩ := agree.modContext f (same_order.trans order) (same_context.trans context)
  have owes := Wall.owed_of_claim agree' claim'
  refine ⟨h.move n (fun m hm y => ?_) agree' fun k => ?_, owes⟩
  · rw [other m y fun e => hm e.1, claims]
  · have cassettes : (u.modContext n f).cassettes = u.cassettes := by rw [(Wall.modContext_moves n f u).frame]
    rw [owes, Wall.owed_of_claim h.agree claim, cassettes]
    exact moved k

/-- A change of a context that keeps its outstanding counts. -/
theorem modContext {n : LaneId} {f : DispenseContext → DispenseContext} (h : w.reservationLaw) (kept : ∀ c, (f c).outstanding = c.outstanding) :
    (w.modContext n f).reservationLaw := by
  cases context : w.contextOf n with
  | some c => exact (h.moveContext rfl rfl context fun k => by rw [kept]).1
  | none =>
    cases order : w.orderOf n .dispense with
    | none =>
      unfold Wall.modContext
      simp only [order]
      exact h
    | some x =>
      have apart : w.engine.loaded.map Loaded.lane ≠ some n := fun tenure => by
        obtain ⟨l, loaded, lane⟩ := Option.map_eq_some_iff.mp tenure
        simp [Wall.contextOf, loaded, lane] at context
      rw [Wall.modContext_progress f order apart]
      refine h.modSlot fun m _ => ?_
      rw [← Wall.contextOf_progress order apart, context, Option.map_none, Slot.claim_context]
      unfold Slot.claim
      split
      · rw [← Wall.contextOf_progress order apart, context]; rfl
      · rfl

/-- The outstanding counts are released (R55): the lane owes nothing. -/
theorem releaseOutstanding {n : LaneId} (h : w.reservationLaw) : (w.releaseOutstanding n).reservationLaw := by
  unfold Wall.releaseOutstanding
  split
  · next c context =>
    refine (h.moveContext (u := w.unreserve c.outstanding) rfl rfl context fun k => ?_).1
    obtain ⟨x, -, claim⟩ := h.agree.claim_of_context context
    have le := h.owed_le n k
    rw [Wall.owed_of_claim h.agree claim, Option.getD_some] at le
    simp only [Wall.unreserve, tabMap_get, Counts.zero_get]
    omega
  · exact h

/-- What a release leaves: the context, with no count outstanding. -/
theorem releaseOutstanding_owed {n : LaneId} {c : DispenseContext} (h : w.reservationLaw) (context : w.contextOf n = some c) :
    (w.releaseOutstanding n).owed n = Counts.zero
      ∧ (w.releaseOutstanding n).contextOf n = some { c with outstanding := Counts.zero }
      ∧ (w.releaseOutstanding n).orderOf n .dispense = w.orderOf n .dispense := by
  obtain ⟨x, order, claim⟩ := h.agree.claim_of_context context
  have released := Wall.modContext_contextOf (w := w.unreserve c.outstanding) (fun c => { c with outstanding := Counts.zero }) order
  have same : (w.unreserve c.outstanding).contextOf n = w.contextOf n := (Wall.contextOf_congr rfl fun _ => rfl).2.1
  have eq : w.releaseOutstanding n = (w.unreserve c.outstanding).modContext n fun c => { c with outstanding := Counts.zero } := by
    simp only [Wall.releaseOutstanding, context]
  obtain ⟨order', context'⟩ := released
  rw [same, context, Option.map_some] at context'
  refine ⟨?_, by rw [eq]; exact context', by rw [eq, order', order]⟩
  obtain ⟨y, -, claim'⟩ := (h.releaseOutstanding (n := n)).agree.claim_of_context (by rw [eq]; exact context')
  rw [Wall.owed_of_claim (h.releaseOutstanding (n := n)).agree claim']
  rfl

/-- The write-back of the loaded context leaves every claim (R91). -/
theorem writeBack_claim (h : w.reservationLaw) (m : LaneId) (y : SlotId) : w.writeBack.claim m y = w.claim m y := by
  unfold Wall.writeBack
  split
  · next l loaded =>
    by_cases same : m = l.lane ∧ y = l.slot
    · obtain ⟨rfl, rfl⟩ := same
      have claim := h.agree.loaded l loaded
      refine (Wall.modSlot_claim_same l.lane l.slot (fun y => { y with context := some l.context }) w).trans ?_
      rw [Slot.claim_context]
      change (w.claim l.lane l.slot).map _ = w.claim l.lane l.slot
      rw [claim]
      rfl
    · exact Wall.modSlot_claim_other _ w (lanePage_pair_ne same)
  · rfl

theorem writeBack_loaded (w : Wall) : w.writeBack.engine.loaded = none := by
  unfold Wall.writeBack
  split
  · rfl
  · next loaded => exact loaded

theorem writeBack (h : w.reservationLaw) : w.writeBack.reservationLaw := by
  have claims := h.writeBack_claim
  have cassettes : w.writeBack.cassettes = w.cassettes := by
    unfold Wall.writeBack
    split <;> rfl
  refine h.move 0 (fun m _ => claims m) ⟨fun n x y => ?_, fun l hl => ?_⟩ fun c => ?_
  · rw [claims, claims]
    exact h.agree.one n x y
  · rw [writeBack_loaded] at hl
    cases hl
  · rw [cassettes, Wall.owed_of_claims (claims 0)]

/-- A DISPENSE that owes nothing ends, out of tenure. -/
theorem finishAt_released {t : DWord} {n : LaneId} {x : SlotId} {e : OrderEnd} {fields : List Word} (h : w.reservationLaw)
    (order : w.orderOf n .dispense = some x) (owes : w.owed n = Counts.zero) (apart : w.engine.loaded.map Loaded.lane ≠ some n) :
    (w.finishAt t (lanePage n) x e fields).reservationLaw := by
  have other : ∀ m y, ¬ (m = n ∧ y = x) → (w.finishAt t (lanePage n) x e fields).claim m y = w.claim m y := fun m y ne => by
    rw [Wall.claim, Wall.finishAt_other t e fields w (lanePage_pair_ne ne), Wall.claim]
  have ended : (w.finishAt t (lanePage n) x e fields).claim n x = none := Wall.claim_of_state (by rw [Wall.finishAt_slot]; rfl)
  have claims : w.claim n x ≠ none := by rw [Wall.claim_of_order order]; simp
  have loaded : (w.finishAt t (lanePage n) x e fields).engine.loaded = w.engine.loaded := by rw [Wall.finishAt_frame]
  have none_left : (w.finishAt t (lanePage n) x e fields).owed n = Counts.zero := by
    refine Wall.owed_of_none ?_
    rw [Wall.orderOf_eq_claim]
    refine List.find?_eq_none.mpr fun y _ => ?_
    by_cases same : y = x
    · simp [same, ended]
    · rw [other n y fun e => same e.2]
      intro claimed
      exact same (h.agree.one n y x (Option.isSome_iff_ne_none.mp claimed) claims)
  refine h.move n (fun m hm y => other m y fun e => hm e.1) ⟨h.agree.one_of_moved claims other, fun l hl => ?_⟩ fun c => ?_
  · have held : w.engine.loaded = some l := loaded.symm.trans hl
    rw [other l.lane l.slot fun e => apart (by rw [held, Option.map_some, e.1])]
    exact h.agree.loaded l held
  · rw [none_left, owes, Wall.finishAt_frame]

/-- A DISPENSE finishes (R105): its outstanding counts are released first. -/
theorem finishDispenseAt {d : Decision} {n : LaneId} {jammed : Bool} (h : w.reservationLaw) : (w.finishDispenseAt d n jammed).reservationLaw := by
  unfold Wall.finishDispenseAt
  split
  · next x c t order context tally =>
    obtain ⟨owes, -, order'⟩ := h.releaseOutstanding_owed context
    have released := h.releaseOutstanding (n := n)
    dsimp only
    split
    · next tenure =>
      have claims := released.writeBack_claim
      refine (released.writeBack.finishAt_released (n := n) (x := x) ?_ ?_ ?_).of_eq rfl rfl rfl
      · exact (Wall.orderOf_of_claims (claims n)).trans (order'.trans order)
      · rw [Wall.owed_of_claims (claims n), owes]
      · rw [writeBack_loaded]; simp
    · next apart => exact (released.finishAt_released (order'.trans order) owes apart).of_eq rfl rfl rfl
  · exact h

/-- The contexts that the engine holds agree with the progress areas after a load too (R91). -/
theorem load {n : LaneId} {x : SlotId} {c : DispenseContext} {g : Engine → Engine} (h : w.reservationLaw) (order : w.orderOf n .dispense = some x)
    (area : (w.slot (lanePage n) x).context.map DispenseContext.outstanding = some c.outstanding)
    (loaded : (g w.engine).loaded = some { lane := n, slot := x, context := c }) : (w.modEngine g).reservationLaw := by
  refine h.move 0 (fun _ _ _ => rfl) ⟨h.agree.one, fun l hl => ?_⟩ fun _ => rfl
  obtain rfl : { lane := n, slot := x, context := c } = l := Option.some.inj (loaded.symm.trans hl)
  exact (Wall.claim_of_order order).trans (congrArg some area)

/-- A DISPENSE is accepted on a lane that has none, and claims what is reserved for it (R55, R27). -/
theorem acceptDispense {n : LaneId} {x : SlotId} (h : w.reservationLaw) (kind : w.kindAt (lanePage n) x = some .dispense)
    (free : ∀ y, w.claim n y = none) : (w.acceptDispense n x).reservationLaw := by
  set mix := (w.orderMix (w.slot (lanePage n) x)).getD Counts.zero with hmix
  have claimed : (w.acceptDispense n x).claim n x = some (some mix) := by
    refine (Wall.modSlot_claim_same n x (fun y => { y with state := .accepted, context := some (.begun (w.engine.acceptances + 1) mix) }) _).trans ?_
    exact if_pos ⟨rfl, kind⟩
  have other : ∀ m y, ¬ (m = n ∧ y = x) → (w.acceptDispense n x).claim m y = w.claim m y := fun m y ne =>
    congrArg (Slot.claim m) (Wall.acceptDispense_other (lanePage_pair_ne ne))
  have one : ∀ y, (w.acceptDispense n x).claim n y ≠ none → y = x := fun y claims => by
    by_contra ne
    rw [other n y fun e => ne e.2, free] at claims
    exact claims rfl
  have agree : (w.acceptDispense n x).ClaimsAgree := by
    refine ⟨fun m y z hy hz => ?_, fun l hl => ?_⟩
    · by_cases lane : m = n
      · subst lane
        rw [one y hy, one z hz]
      · rw [other m y fun e => lane e.1] at hy
        rw [other m z fun e => lane e.1] at hz
        exact h.agree.one m y z hy hz
    · have claim := h.agree.loaded l hl
      have lane : l.lane ≠ n := fun e => by rw [e, free] at claim; cases claim
      rw [other l.lane l.slot fun e => lane e.1, claim]
  have owed_none : w.owed n = Counts.zero := by
    refine Wall.owed_of_none ?_
    rw [Wall.orderOf_eq_claim]
    exact List.find?_eq_none.mpr fun y _ => by simp [free]
  refine h.move n (fun m hm y => other m y fun e => hm e.1) agree fun c => ?_
  have cassettes : ((w.acceptDispense n x).cassettes.get c).reserved = (w.cassettes.get c).reserved + mix.get c := by
    simp only [Wall.acceptDispense, ← hmix]
    exact congrArg Cassette.reserved (tabMap_get w.cassettes (fun c (y : Cassette) => { y with reserved := y.reserved + mix.get c }) c)
  rw [Wall.owed_of_claim agree claimed, Option.getD_some, owed_none, Counts.zero_get, cassettes]
  omega

/-- The engine counts an accepted single (R92): the order owes a note less, and a note less is reserved. -/
theorem acceptSingle {c : CassId} (h : w.reservationLaw) : (w.acceptSingle c).reservationLaw := by
  unfold Wall.acceptSingle
  split
  · next n join =>
    split
    · exact h
    · next k context =>
      have counted : ∀ one, one ≤ k.outstanding.get c → ((w.modCassette c fun y => { y with reserved := y.reserved - one }).modContext n fun x =>
          { x with outstanding := tabMod x.outstanding c (· - one), routed := tabMod x.routed c (· + 1) }).reservationLaw := fun one le => by
        refine (h.moveContext (u := w.modCassette c fun y => { y with reserved := y.reserved - one })
          (f := fun x => { x with outstanding := tabMod x.outstanding c (· - one), routed := tabMod x.routed c (· + 1) }) rfl rfl context fun i => ?_).1
        obtain ⟨x, -, claim⟩ := h.agree.claim_of_context context
        have reserved := h.owed_le n i
        rw [Wall.owed_of_claim h.agree claim, Option.getD_some] at reserved
        simp only [Wall.modCassette_cassettes, tabMod_get]
        split
        · next same =>
          subst same
          dsimp only
          omega
        · rfl
      have single := counted (if 0 < k.outstanding.get c then 1 else 0) (by split <;> omega)
      exact ite (modGate (single.modEngine rfl)) (single.modEngine rfl)
  · exact h

/-- A re-mix that finds a mix reserves it for an order that owes nothing (R59). -/
theorem takeMix {n : LaneId} {v : Counts} (h : w.reservationLaw) {c : DispenseContext} (context : w.contextOf n = some c)
    (owes : c.outstanding = Counts.zero) : (w.takeMix n v).reservationLaw := by
  have taken : ((w.restartSilence.reserve v).modContext n fun c => { c with outstanding := v, remixes := c.remixes + 1 }).reservationLaw := by
    refine (h.moveContext (u := w.restartSilence.reserve v) ?_ ?_ context fun k => ?_).1
    · rw [Wall.restartSilence_eq]; rfl
    · rw [Wall.restartSilence_eq]; rfl
    · rw [Wall.restartSilence_eq, owes, Counts.zero_get]
      simp [Wall.reserve]
  unfold Wall.takeMix
  dsimp only
  split
  · exact taken
  · exact ite (modGate (modContext (modTally taken) fun _ => rfl)) (modTally taken)

end Wall.reservationLaw
end Sys2Proof.Machine
end

section
/-! SUPPORT. The law of R55 through every operation of the model, in the order of the model's files. -/

namespace Sys2Proof.Machine

theorem Wall.kindAt_of_pages {v w : Wall} (h : v.pages = w.pages) (p : PageId) (x : SlotId) : v.kindAt p x = w.kindAt p x :=
  Wall.kindAt_congr (by rw [Wall.slot_congr h])

/-- The order of another kind that a lane has in progress is no DISPENSE. -/
theorem Wall.orderOf_kind {w : Wall} {n : LaneId} {k : Kind} {x : SlotId} (h : w.orderOf n k = some x) (other : k ≠ .dispense) :
    w.kindAt (lanePage n) x ≠ some .dispense := by
  rw [(Wall.orderOf_some h).2]
  exact fun e => other (Option.some.inj e)

/-- A kind that was found is the kind. -/
theorem kind_ne_dispense {o : Option Kind} {k : Kind} (h : o = some k) (other : k ≠ .dispense) : o ≠ some .dispense := by
  rw [h]
  exact fun e => other (Option.some.inj e)

namespace Wall.reservationLaw
variable {v w : Wall}

/-! ### The board, the bins and the cassettes (Ops, Cassettes) -/

theorem slip {a : Nat} (h : w.reservationLaw) : (w.slip a).reservationLaw := by
  unfold Wall.slip
  split
  · exact ite h.modPort.post.modPort h.modPort.post
  · exact h.modPort

theorem refreshBin {k : BinId} (h : w.reservationLaw) : (w.refreshBin k).reservationLaw := by
  rw [Wall.refreshBin_frame]
  exact h

theorem creditBin {k : BinId} {n : Nat} (h : w.reservationLaw) : (w.creditBin k n).reservationLaw := h.modBin.refreshBin

theorem creditEnvelope (h : w.reservationLaw) : w.creditEnvelope.reservationLaw := creditBin (w := { w with depositTotal := _ }) h

theorem triggerRemix {c : CassId} (h : w.reservationLaw) : (w.triggerRemix c).reservationLaw := by
  refine h.eachLane fun {w} n h => ?_
  split
  · exact ite h.modTally h
  · exact h

theorem enterCassetteState {c : CassId} {new : CassetteState} {how : Nat} (h : w.reservationLaw) :
    (w.enterCassetteState c new how).reservationLaw := by
  have moved : (w.modCassette c fun x => { x with state := new }).reservationLaw := h.modCassette fun _ => rfl
  unfold Wall.enterCassetteState
  refine ite h ?_
  cases new
  case low => exact moved.post
  case empty => exact moved.post.triggerRemix
  case suspect => exact moved.post.triggerRemix
  case absent => exact moved.post.triggerRemix
  case uncounted => exact moved
  case inService => exact moved

theorem remainingTest {c : CassId} (h : w.reservationLaw) : (w.remainingTest c).reservationLaw := ite h.enterCassetteState h

theorem recordPassage {c : CassId} {cls : PieceClass} {estimate : Nat} (h : w.reservationLaw) : (w.recordPassage c cls estimate).reservationLaw := by
  have counted := (h.modCassette (c := c) (f := fun x => Cassette.doubtTest { x with drawn := satAdd 65535 x.drawn estimate })
    fun _ => rfl).remainingTest (c := c)
  have recorded := counted.modCassette (c := c)
    (f := fun x => { x with passages := satAdd 65535 x.passages 1, misses := 0, rejects := if cls = .single then 0 else satAdd 255 x.rejects 1 })
    fun _ => rfl
  exact ite recorded.enterCassetteState recorded

theorem recordMiss {c : CassId} (h : w.reservationLaw) : (w.recordMiss c).reservationLaw := by
  have counted := h.modCassette (c := c) (f := fun x => { x with misses := satAdd 3 x.misses 1 }) fun _ => rfl
  exact ite (enterCassetteState (counted.modCassette fun _ => rfl)) counted

theorem learn {c : CassId} {t : Nat} (h : w.reservationLaw) : (w.learn c t).reservationLaw := h.modCassette fun _ => rfl

/-! ### The engine and the transport (Transport) -/

theorem finishDispense {n : LaneId} {jammed : Bool} (h : w.reservationLaw) : (w.finishDispense n jammed).reservationLaw := h.finishDispenseAt

theorem dropRequest {n : LaneId} {k : RequestKind} (h : w.reservationLaw) : (w.dropRequest n k).reservationLaw := h

theorem grantRetract {n : LaneId} {d : Destination} (h : w.reservationLaw) : (w.grantRetract n d).reservationLaw := h

theorem grantBundle {n : LaneId} (h : w.reservationLaw) : (w.grantBundle n).reservationLaw := by
  have granted := fun f g => modGate (f := g) (modGate (f := fun x => { x with gapCounter := none, openPicks := [], lastPick := none })
    (modTransport (f := f) (h.dropRequest (n := n) (k := .bundle))))
  unfold Wall.grantBundle
  dsimp only
  split
  · exact granted _ _
  · next x order =>
    split
    · exact granted _ _
    · next c area =>
      refine ite (startWork ?loaded fun m page => ?_) ?loaded
      case loaded => exact (granted _ _).load (c := w.loadedContext c) order (congrArg (Option.map DispenseContext.outstanding) area) rfl
      obtain rfl := lanePage_injective page
      exact .inl (Wall.orderOf_some order).1

theorem tryRetracts (q : List Request) (h : w.reservationLaw) : (Wall.tryRetracts q w).1.reservationLaw := by
  induction q generalizing w with
  | nil => exact h
  | cons r rest ih =>
    unfold Wall.tryRetracts
    split
    · exact ih h
    · split
      · exact h.grantRetract.post
      · exact h.grantRetract
      · exact ih h.modBundle.post

theorem transportGrant (h : w.reservationLaw) : w.transportGrant.reservationLaw := by
  have tried := h.tryRetracts w.transport.queue
  unfold Wall.transportGrant
  refine ite ?_ h
  dsimp only
  refine ite tried ?_
  split
  · exact tried.grantBundle
  · exact tried

theorem endTenure (h : w.reservationLaw) : w.endTenure.reservationLaw := h.writeBack.modTransport.modGate

theorem queueBundle {n : LaneId} (h : w.reservationLaw) : (w.queueBundle n).reservationLaw := modTransport (h.modContext fun _ => rfl)

theorem requestBundle {n : LaneId} (h : w.reservationLaw) : (w.requestBundle n).reservationLaw :=
  ite h.modTally.finishDispense h.queueBundle.transportGrant

theorem postForeign {n : LaneId} {k : Nat} (h : w.reservationLaw) : (w.postForeign n k).reservationLaw := ite h.post h

theorem postForeign_pages (n : LaneId) (k : Nat) (w : Wall) : (w.postForeign n k).pages = w.pages := by
  unfold Wall.postForeign
  split
  · rw [Wall.post_frame]
  · rfl

theorem reportRetract {n : LaneId} {fault : Bool} (h : w.reservationLaw) : (w.reportRetract n fault).reservationLaw := by
  unfold Wall.reportRetract
  dsimp only
  split
  · exact h.modTally.modBundle.postForeign.finishDispenseAt
  · split
    · next x order =>
      refine h.modBundle.postForeign.finishAt ?_
      rw [Wall.kindAt_of_pages (postForeign_pages n _ _)]
      exact Wall.orderOf_kind order (by decide)
    · exact h

theorem dropRetract {n : LaneId} {e : OrderEnd} (h : w.reservationLaw) : (w.dropRetract n e).reservationLaw := by
  have dropped := (h.dropRequest (n := n) (k := .retract)).modBundle (n := n) (f := fun b => { b with phase := .none })
  unfold Wall.dropRetract
  dsimp only
  split
  · exact dropped.modTally.finishDispense
  · split
    · next x order => exact dropped.finish (Wall.orderOf_kind order (by decide))
    · exact dropped

theorem queueRetract {n : LaneId} (h : w.reservationLaw) : (w.queueRetract n).reservationLaw := h

theorem requestRetract {n : LaneId} (h : w.reservationLaw) : (w.requestRetract n).reservationLaw := ite h.dropRetract h.queueRetract.transportGrant

theorem endEmpty {n : LaneId} (h : w.reservationLaw) : (w.endEmpty n).reservationLaw := h.endTenure.finishDispense

theorem checkEnding (h : w.reservationLaw) : w.checkEnding.reservationLaw := by
  unfold Wall.checkEnding
  split
  · split
    · exact ite h.endEmpty.transportGrant h
    · exact h
  · exact h

theorem beginEnd {n : LaneId} {cause : EndCause} (h : w.reservationLaw) : (w.beginEnd n cause).reservationLaw := by
  have marked := (h.modContext (n := n) (f := fun c => { c with endCause := cause }) fun _ => rfl).modTally (n := n)
    (f := fun t => { t with remixWait := false })
  unfold Wall.beginEnd
  dsimp only
  split
  · exact ite marked.modGate.checkEnding marked
  · exact marked

theorem creditExit {src : Source} {estimate : Nat} {r : Route} (h : w.reservationLaw) : (w.creditExit src estimate r).reservationLaw := by
  have binned : (w.creditBin (if r = .retractBin then retractBin else rejectBin) estimate).reservationLaw := h.creditBin
  unfold Wall.creditExit
  cases r with
  | stacker =>
    cases src with
    | cassette c =>
      dsimp only
      split
      · exact h.modTransport.modTally
      · exact h.modTransport
    | retract n => exact h
    | clearance => exact h
  | reject =>
    cases src with
    | cassette c => exact binned
    | retract n => exact ite binned.modBundle binned
    | clearance => exact binned
  | retractBin =>
    cases src with
    | cassette c => exact binned
    | retract n => exact ite binned.modBundle binned
    | clearance => exact binned

theorem dumpStacker (h : w.reservationLaw) : w.dumpStacker.reservationLaw := h.creditBin.modTransport

theorem startClearance (h : w.reservationLaw) : w.startClearance.reservationLaw := h

/-! ### The note gate (Gate) -/

theorem countReject {m : Measure} (h : w.reservationLaw) : (w.countReject m).reservationLaw := by
  unfold Wall.countReject
  split
  · next n _ =>
    have counted : (if m.route = .reject then w.modTally n fun t => { t with rejected := t.rejected + m.estimate } else w).reservationLaw :=
      ite h.modTally h
    have rejected := counted.modContext (n := n) (f := fun x => { x with rejects := satAdd 255 x.rejects 1 }) fun _ => rfl
    refine ite counted ?_
    dsimp only
    split
    · exact ite rejected.beginEnd rejected
    · exact rejected
  · exact h

theorem reportSettled {x : Passage} {m : Measure} (h : w.reservationLaw) : (w.reportSettled x m).reservationLaw :=
  ite h.modTransport.creditExit h.modTransport

theorem settle {x : Passage} {m : Measure} {cut : Bool} (h : w.reservationLaw) : (w.settle x m cut).reservationLaw := by
  have reported : ((w.modGate (Gate.trace1 x m cut)).reportSettled x m).reservationLaw := h.modGate.reportSettled
  unfold Wall.settle
  dsimp only
  split
  · next c _ =>
    have recorded := (ite (c := m.route = .stacker) (reported.acceptSingle (c := c)) reported).recordPassage (c := c) (cls := m.cls) (estimate := m.estimate)
    exact (ite recorded.learn recorded).countReject
  · exact reported

theorem restartSilence (h : w.reservationLaw) : w.restartSilence.reservationLaw := ite h h.modTransport

theorem gateLeading (h : w.reservationLaw) : w.gateLeading.reservationLaw := ite h h.restartSilence.modGate.modTransport

theorem closePassage {unmeasured latch : Bool} (h : w.reservationLaw) : (w.closePassage unmeasured latch).reservationLaw := by
  unfold Wall.closePassage
  split
  · exact h
  · exact ite h.modGate.modGate.settle h.modGate.modGate

theorem diverterLeading (h : w.reservationLaw) : w.diverterLeading.reservationLaw := by
  unfold Wall.diverterLeading
  split
  · exact h
  · dsimp only
    split
    · exact h.modGate.modGate
    · exact h.modGate.modGate.settle

theorem declareMiss (h : w.reservationLaw) : w.declareMiss.reservationLaw := by
  unfold Wall.declareMiss
  split
  · exact h
  · exact h.modGate.recordMiss

theorem settleCut (l : List Passage) (h : w.reservationLaw) : (Machine.settleCut l w).reservationLaw := by
  induction l generalizing w with
  | nil => exact h
  | cons x rest ih => exact ih h.settle

theorem closeGate (h : w.reservationLaw) : w.closeGate.reservationLaw := by
  unfold Wall.closeGate
  exact (settleCut _ h.closePassage.modGate).modGate

/-! ### The lanes and the pockets (Drawers) -/

theorem startOpen {n : LaneId} (h : w.reservationLaw) : (w.startOpen n).reservationLaw := h
theorem startClose {n : LaneId} {cause : CloseCause} (h : w.reservationLaw) : (w.startClose n cause).reservationLaw := h
theorem startLift {n : LaneId} {t : Travel} (h : w.reservationLaw) : (w.startLift n t).reservationLaw := h
theorem pocketHeld {n : LaneId} (h : w.reservationLaw) : (w.pocketHeld n).reservationLaw := h
theorem pocketEmpty {n : LaneId} (h : w.reservationLaw) : (w.pocketEmpty n).reservationLaw := h
theorem pocketMove {n : LaneId} {st : PocketState} {owner : Option SlotId} (h : w.reservationLaw) : (w.pocketMove n st owner).reservationLaw := h
theorem joinQueue {n : LaneId} (h : w.reservationLaw) : (w.joinQueue n).reservationLaw := h
theorem leaveQueue {n : LaneId} (h : w.reservationLaw) : (w.leaveQueue n).reservationLaw := h
theorem leaveDrawer {n : LaneId} {x : SlotId} (h : w.reservationLaw) : (w.leaveDrawer n x).reservationLaw := h
theorem requestDrawer {n : LaneId} {x : SlotId} (h : w.reservationLaw) : (w.requestDrawer n x).reservationLaw := h

theorem closeByOwner {n : LaneId} {cause : CloseCause} (h : w.reservationLaw) : (w.closeByOwner n cause).reservationLaw := by
  unfold Wall.closeByOwner
  split
  · exact h.startClose.modLane
  · exact h.startClose.modLane
  · exact h.modLane
  · exact h.modLane
  · exact h

theorem closeByLockdown {n : LaneId} (h : w.reservationLaw) : (w.closeByLockdown n).reservationLaw := ite h.closeByOwner (ite h.startClose h)

theorem strandPocket {n : LaneId} {d : Nat} (h : w.reservationLaw) : (w.strandPocket n d).reservationLaw := h.modPocket.post

theorem reloadStranded (h : w.reservationLaw) : w.reloadStranded.reservationLaw := h.eachLane fun _ h => ite h.modPocket h

theorem dispenseCycleEnd {n : LaneId} {r : CycleResult} (h : w.reservationLaw) : (w.dispenseCycleEnd n r).reservationLaw := by
  unfold Wall.dispenseCycleEnd
  split
  · exact h
  · next c _ =>
    have left := (h.releaseOutstanding (n := n)).modTally (n := n) (f := fun t => { t with bundleLeft := true, remixWait := false })
    have taken := (h.modTally (n := n) (f := fun t => { t with taken := t.taken + c.inDrawer })).modContext (n := n)
      (f := fun c => { c with takenLate := c.takenLate || r == .takenLate }) fun _ => rfl
    exact ite (requestRetract (left.modContext fun _ => rfl)) (ite taken.finishDispense (ite taken.beginEnd.finishDispense taken.requestBundle))

theorem returnCycleEnd {n : LaneId} {x : SlotId} {r : CycleResult} (h : w.reservationLaw) (kind : w.kindAt (lanePage n) x ≠ some .dispense) :
    (w.returnCycleEnd n x r).reservationLaw := ite h.startLift (h.pocketEmpty.finish kind)

theorem depositCycleEnd {n : LaneId} {x : SlotId} {r : CycleResult} (h : w.reservationLaw) (kind : w.kindAt (lanePage n) x ≠ some .dispense) :
    (w.depositCycleEnd n x r).reservationLaw :=
  ite (startLift (ite (h.refuseCancel.modSlot fun _ _ => rfl) h)) (h.finish kind)

theorem cycleEnd {n : LaneId} {r : CycleResult} (h : w.reservationLaw) : (w.cycleEnd n r).reservationLaw := by
  unfold Wall.cycleEnd
  dsimp only
  split
  · exact h.modLane
  · split
    · exact h.modLane.dispenseCycleEnd
    · next kind => exact h.modLane.returnCycleEnd (kind_ne_dispense kind (by decide))
    · next kind => exact h.modLane.depositCycleEnd (kind_ne_dispense kind (by decide))
    · exact h.modLane

theorem startTake {n : LaneId} (h : w.reservationLaw) : (w.startTake n).reservationLaw := ite h.modLane.modLane.cycleEnd h.modLane.startOpen

theorem startDeposit {n : LaneId} (h : w.reservationLaw) : (w.startDeposit n).reservationLaw := h

theorem pocketFromSensor {n : LaneId} (h : w.reservationLaw) : (w.pocketFromSensor n).reservationLaw := ite h.pocketHeld h.pocketEmpty

theorem pocketFromSensor_pages (n : LaneId) (w : Wall) : (w.pocketFromSensor n).pages = w.pages := by
  rw [Wall.pocketFromSensor_eq]
  rfl

theorem jamOwner {n : LaneId} {x : SlotId} {old : Lane} (h : w.reservationLaw) : (w.jamOwner n x old).reservationLaw := by
  unfold Wall.jamOwner
  dsimp only
  split
  · exact h.dropRequest.modTally.finishDispense
  · next kind =>
    split
    · exact h.pocketFromSensor.finish (by rw [Wall.kindAt_of_pages (pocketFromSensor_pages n w)]; exact kind_ne_dispense kind (by decide))
    · exact h.finish (kind_ne_dispense kind (by decide))
  · next kind =>
    split
    · exact h.pocketFromSensor.finish (by rw [Wall.kindAt_of_pages (pocketFromSensor_pages n w)]; exact kind_ne_dispense kind (by decide))
    · exact h.pocketEmpty.finish (kind_ne_dispense kind (by decide))
  · next kind => exact h.finish (kind_ne_dispense kind (by decide))
  · exact h

theorem jamWaiter {n : LaneId} {x : SlotId} (h : w.reservationLaw) : (w.jamWaiter n x).reservationLaw := by
  unfold Wall.jamWaiter
  split
  · exact h.finishDispense
  · next kind => exact h.finish (kind_ne_dispense kind (by decide))
  · next kind => exact h.pocketHeld.finish (kind_ne_dispense kind (by decide))
  · next kind => exact h.finish (kind_ne_dispense kind (by decide))
  · exact h

theorem enterJam {n : LaneId} {detail : Nat} (h : w.reservationLaw) : (w.enterJam n detail).reservationLaw := by
  have started : (w.jamStart n detail).reservationLaw := h.modLane.post
  have waiters : ((w.jamStart n detail).jamWaiters n (w.lanes.get n).waiting).reservationLaw := started.foldl (fun _ h => h.jamWaiter) _
  rw [Wall.enterJam_eq]
  unfold Wall.jamReset
  split
  · exact waiters.finishService
  · exact waiters

theorem jamDrawer {n : LaneId} (h : w.reservationLaw) : (w.jamDrawer n).reservationLaw := by
  unfold Wall.jamDrawer
  refine modLane ?_
  split
  · exact h.enterJam.jamOwner
  · exact h.enterJam

theorem obstruct {n : LaneId} (h : w.reservationLaw) : (w.obstruct n).reservationLaw :=
  ite h.modLane.jamDrawer (ite h.modLane.modLane.startOpen h.modLane.modLane)

theorem arriveExtended {n : LaneId} (h : w.reservationLaw) : (w.arriveExtended n).reservationLaw := by
  unfold Wall.arriveExtended
  dsimp only
  split
  · exact h.modLane.startClose
  · exact h.modLane.modLane

theorem arriveStowed {n : LaneId} (h : w.reservationLaw) : (w.arriveStowed n).reservationLaw := by
  unfold Wall.arriveStowed
  dsimp only
  refine ite h.modLane.cycleEnd ?_
  split
  · exact h.modLane.finishService
  · exact h.modLane

theorem grantDrawer {n : LaneId} {x : SlotId} (h : w.reservationLaw) : (w.grantDrawer n x).reservationLaw := by
  have started : ∀ {u : Wall} {k : Kind}, u.reservationLaw → u.kindAt (lanePage n) x = some k → k ≠ .dispense →
      (u.startWork (lanePage n) x).reservationLaw := fun hu kind other => hu.startWork fun _ _ => .inr (kind_ne_dispense kind other)
  unfold Wall.grantDrawer
  dsimp only
  split
  · exact ite h.modLane.beginEnd.finishDispense h.modLane.requestBundle
  · next kind => exact (started h.modLane kind (by decide)).requestRetract
  · next kind => exact (started h.modLane kind (by decide)).startDeposit
  · next kind => exact (started h.modLane kind (by decide)).startLift
  · exact h.modLane

theorem settleLane {n : LaneId} (h : w.reservationLaw) : (w.settleLane n).reservationLaw := by
  unfold Wall.settleLane
  dsimp only
  split
  · next order => exact h.modLane.finish (Wall.orderOf_kind order (by decide))
  · exact h.modLane

/-! ### The alarm (Alarm) -/

theorem refreshOutputs (h : w.reservationLaw) : w.refreshOutputs.reservationLaw := h

theorem lockdownDispense {n : LaneId} (h : w.reservationLaw) : (w.lockdownDispense n).reservationLaw := by
  unfold Wall.lockdownDispense
  split
  · exact h
  · refine ite h ?_
    split
    · exact h.beginEnd.finishDispense
    · exact h.beginEnd.dropRequest.finishDispense
    · exact h.beginEnd
    · exact h.beginEnd
    · exact h.beginEnd
    · exact h.beginEnd
    · exact h

theorem lockdownDeposit {n : LaneId} (h : w.reservationLaw) : (w.lockdownDeposit n).reservationLaw := by
  unfold Wall.lockdownDeposit
  split
  · exact h
  · next order => exact ite (h.modSlot fun _ _ => rfl) (h.finish (Wall.orderOf_kind order (by decide)))

theorem lockdownLane {n : LaneId} (h : w.reservationLaw) : (w.lockdownLane n).reservationLaw :=
  h.modLane.lockdownDispense.lockdownDeposit.closeByLockdown

theorem enterLockdown {z : ZoneId} (h : w.reservationLaw) : (w.enterLockdown z).reservationLaw :=
  ite h (h.modAlarm.post.eachLane fun _ h => h.lockdownLane)

theorem zoneAlarm {z : ZoneId} {p : PointId} (h : w.reservationLaw) : (w.zoneAlarm z p).reservationLaw :=
  ite h.modZone.post.refreshOutputs.enterLockdown h.modZone.post.refreshOutputs

theorem zoneExit {z : ZoneId} {st : ZoneState} {d : Nat} (h : w.reservationLaw) : (w.zoneExit z st d).reservationLaw := h.modZone.refreshOutputs.post

theorem zoneReact {z : ZoneId} {p : PointId} (h : w.reservationLaw) : (w.zoneReact z p).reservationLaw := by
  rw [Wall.zoneReact_eq]
  exact ite h.zoneAlarm (ite h.modZone h)

theorem markDoors {p : PointId} (h : w.reservationLaw) : (w.markDoors p).reservationLaw := ite h.modBin.modBin (ite h.modBin h)

theorem changeLive {p : PointId} {b : Bool} (h : w.reservationLaw) : (w.changeLive p b).reservationLaw :=
  ite h.modPoint.markDoors.zoneReact h.modPoint

theorem setInternal {p : PointId} {b : Bool} (h : w.reservationLaw) : (w.setInternal p b).reservationLaw := ite h h.changeLive

theorem refreshForced (h : w.reservationLaw) : w.refreshForced.reservationLaw := h.setInternal

theorem acknowledge {p : PointId} (h : w.reservationLaw) : (w.acknowledge p).reservationLaw := h

end Wall.reservationLaw
end Sys2Proof.Machine
end

section
/-! SUPPORT. The law of R55 through the note path, the conveyor, the profile, hold, the taking of orders and the cancels. -/

namespace Sys2Proof.Machine
namespace Wall.reservationLaw
variable {v w : Wall}

/-! ### The note path at its events (Path) -/

theorem faultDelivery {n : LaneId} (h : w.reservationLaw) : (w.faultDelivery n).reservationLaw := by
  unfold Wall.faultDelivery
  split
  · exact h
  · exact ite (modLane (modEngine h.modTally.modTransport rfl)) h

theorem faultHolder {j : Join} (h : w.reservationLaw) : (w.faultHolder j).reservationLaw := by
  cases j with
  | none => exact h
  | dispense n => exact ite h.writeBack.modGate h.writeBack.modGate.finishDispense
  | retract n => exact h.modLane.reportRetract
  | clearance =>
    unfold Wall.faultHolder
    dsimp only
    split
    · exact h.modPort.finishService
    · exact h.modPort

theorem faultRequest {r : Request} (h : w.reservationLaw) : (w.faultRequest r).reservationLaw := by
  unfold Wall.faultRequest
  split
  · exact h.dropRequest.modTally.finishDispense
  · exact h.dropRetract

theorem transportFault {jam : Bool} (h : w.reservationLaw) : (w.transportFault jam).reservationLaw := by
  unfold Wall.transportFault
  extract_lets j w1 w2 w3 picks w4 w5 w6 w7 w8 w9
  clear_value j
  have told : w2.reservationLaw := by
    unfold w2
    split
    · exact h.modTransport.modTally
    · exact h.modTransport
  have closed : w4.reservationLaw := closeGate (ite told told.modGate.setInternal)
  have posted : w6.reservationLaw := ite closed.modTransport.setInternal.post closed.modTransport.post
  have delivered : w7.reservationLaw := by
    unfold w7
    split
    · exact posted.faultDelivery
    · exact posted
  exact delivered.modTransport.faultHolder.foldl (fun _ h => h.faultRequest) _

theorem exitEdge (h : w.reservationLaw) : w.exitEdge.reservationLaw := by
  unfold Wall.exitEdge
  split
  · refine checkEnding ?_
    split
    · exact h.modTransport.creditExit
    · exact h.modTransport.modTransport
  · exact ite h.modTransport.creditBin (ite h h.transportFault)

theorem releasePick {c : CassId} (h : w.reservationLaw) : (w.releasePick c).reservationLaw := by
  unfold Wall.releasePick
  exact modEngine (modGate (ite h.declareMiss h)) rfl

theorem markFinal {n : LaneId} (h : w.reservationLaw) : (w.markFinal n).reservationLaw := by
  have marked := h.modContext (n := n) (f := fun c => { c with final := true }) fun _ => rfl
  unfold Wall.markFinal
  dsimp only
  split
  · exact marked
  · split
    · exact marked.modTally.modGate.checkEnding
    · exact marked.modTally.dropRequest.finishDispense
    · exact marked.modTally.finishDispense
    · exact marked.modTally

theorem remixLane {n : LaneId} (h : w.reservationLaw) : (w.remixLane n).reservationLaw := by
  unfold Wall.remixLane
  split
  · next x c order context =>
    dsimp only
    split
    · exact h.releaseOutstanding.takeMix (h.releaseOutstanding_owed context).2.1 rfl
    · exact h.releaseOutstanding.markFinal
  · exact h

theorem startDelivery {n : LaneId} (h : w.reservationLaw) : (w.startDelivery n).reservationLaw := modEngine (h.modContext fun _ => rfl) rfl

theorem takeHeld {n : LaneId} (h : w.reservationLaw) : (w.takeHeld n).reservationLaw := h.modLane.cycleEnd

theorem deliver {n : LaneId} (h : w.reservationLaw) : (w.deliver n).reservationLaw := by
  unfold Wall.deliver
  exact endTenure (modLane (modEngine (h.modTally.modTransport.modContext fun _ => rfl) rfl))

theorem endDelivery {n : LaneId} (h : w.reservationLaw) : (w.endDelivery n).reservationLaw :=
  ite h.deliver.transportGrant.startTake h.deliver.transportGrant.takeHeld

theorem startPurge {n : LaneId} (h : w.reservationLaw) : (w.startPurge n).reservationLaw := modTransport (h.modContext fun _ => rfl)

theorem endClearance {d : Nat} (h : w.reservationLaw) : (w.endClearance d).reservationLaw := by
  have told : (if 0 < w.transport.seen ∨ 0 < w.transport.unaccounted then
      w.post (.clearancePieces rejectBin) (min 255 w.transport.seen * 256 + min 255 w.transport.unaccounted)
    else w).reservationLaw := ite h.post h
  unfold Wall.endClearance
  dsimp only
  split
  · exact told.modTransport.setInternal.modTransport.modPort.finishService
  · exact told.modTransport.setInternal.modTransport.modPort

theorem purgeNotes {n : LaneId} (h : w.reservationLaw) : (w.purgeNotes n).reservationLaw := h.dumpStacker.modTally

theorem endDump {d : Dump} (h : w.reservationLaw) : (w.endDump d).reservationLaw := by
  unfold Wall.endDump
  split
  · split
    · exact h.purgeNotes.endEmpty.transportGrant
    · exact h.dumpStacker
  · exact h.purgeNotes.finishDispense
  · exact h.dumpStacker
  · exact h.dumpStacker.endClearance.transportGrant

theorem testSweep (h : w.reservationLaw) : w.testSweep.reservationLaw := by
  unfold Wall.testSweep
  split
  · exact ite h.modTransport h
  · exact h

theorem endSweep {n : LaneId} (h : w.reservationLaw) : (w.endSweep n).reservationLaw := h

theorem stallSweep {n : LaneId} (h : w.reservationLaw) : (w.stallSweep n).reservationLaw := h.enterJam.modLane.modBundle

theorem endRetract {n : LaneId} (h : w.reservationLaw) : (w.endRetract n).reservationLaw := h.endTenure.reportRetract.transportGrant

theorem endLoss (h : w.reservationLaw) : w.endLoss.reservationLaw := ite h.modGate.modTransport.setInternal h

theorem pulse {k : Nat} (h : w.reservationLaw) : (w.pulse k).reservationLaw :=
  ite h.endLoss (modEngine h.endLoss.modGate.modTransport.testSweep rfl)

/-! ### The conveyor (Conveyor) -/

theorem serve {n : LaneId} (h : w.reservationLaw) : (w.serve n).reservationLaw := by
  have served := fun f g => ((h.leaveQueue (n := n)).modConveyor (f := f)).modLane (n := n) (f := g)
  unfold Wall.serve
  dsimp only
  split
  · split
    · next accepted => exact startWork (served _ _) fun _ _ => .inl (by rw [accepted]; rfl)
    · exact served _ _
  · exact served _ _

theorem finishCarried {n : LaneId} {x : SlotId} {capture back : OrderEnd} {unknown : Bool} (h : w.reservationLaw) :
    (w.finishCarried n x capture back unknown).reservationLaw := by
  unfold Wall.finishCarried
  split
  · next kind => exact h.finish (kind_ne_dispense kind (by decide))
  · next kind => exact h.finish (kind_ne_dispense kind (by decide))
  · exact h

theorem deliverEnvelope {n : LaneId} (h : w.reservationLaw) : (w.deliverEnvelope n).reservationLaw := by
  unfold Wall.deliverEnvelope
  refine modConveyor ?_
  split
  · exact h.creditEnvelope.pocketEmpty.finishCarried
  · exact h.creditEnvelope.pocketEmpty.post

theorem withdraw {n : LaneId} (h : w.reservationLaw) : (w.withdraw n).reservationLaw := ite h.leaveQueue.strandPocket h

theorem conveyorFault {d : Nat} (h : w.reservationLaw) : (w.conveyorFault d).reservationLaw :=
  h.modConveyor.setInternal.post.foldl (fun _ h => h.withdraw) _

theorem overrunCarry {n : LaneId} (h : w.reservationLaw) : (w.overrunCarry n).reservationLaw := by
  unfold Wall.overrunCarry
  refine modConveyor ?_
  split
  · exact h.conveyorFault.pocketEmpty.modPocket.finishCarried
  · exact h.conveyorFault.pocketEmpty.modPocket

theorem conveyorExit (h : w.reservationLaw) : w.conveyorExit.reservationLaw := by
  unfold Wall.conveyorExit
  split
  · split
    · exact h.deliverEnvelope
    · exact h
  · exact h.creditEnvelope.modConveyor
  · exact h.conveyorFault
  · exact h
  · exact h

theorem startConveyorClearance (h : w.reservationLaw) : w.startConveyorClearance.reservationLaw := h

theorem endConveyorClearance (h : w.reservationLaw) : w.endConveyorClearance.reservationLaw := by
  unfold Wall.endConveyorClearance
  extract_lets w1 w2 w3 w4 w5
  have told : w2.reservationLaw := ite h.setInternal.post h.setInternal
  have ready : w4.reservationLaw := told.modConveyor.modPort
  have ended : w5.reservationLaw := by
    unfold w5
    split
    · exact ready.finishService
    · exact ready
  exact ite ended.reloadStranded ended

theorem expireHoldLimit {n : LaneId} (h : w.reservationLaw) : (w.expireHoldLimit n).reservationLaw :=
  ite h.strandPocket (ite h.strandPocket h.pocketMove.modPocket.joinQueue)

/-! ### The profile (Profile) -/

theorem applyLockout {n : LaneId} (h : w.reservationLaw) : (w.applyLockout n).reservationLaw := h

theorem applyCassette {c : CassId} (h : w.reservationLaw) : (w.applyCassette c).reservationLaw := h.remainingTest.modCassette fun _ => rfl

theorem applyBin {k : BinId} (h : w.reservationLaw) : (w.applyBin k).reservationLaw := ite h.modBin.refreshBin.reloadStranded h.modBin.refreshBin

theorem restartZone {z : ZoneId} (h : w.reservationLaw) : (w.restartZone z).reservationLaw := ite h.zoneExit h.modZone

theorem startWatch {z : ZoneId} (h : w.reservationLaw) : (w.startWatch z).reservationLaw := by
  unfold Wall.startWatch
  refine ite ?_ h
  split
  · exact h.zoneAlarm
  · exact h

theorem applyAlarm (h : w.reservationLaw) : w.applyAlarm.reservationLaw := by
  unfold Wall.applyAlarm
  extract_lets w1 changed w2 w3
  have set : w1.reservationLaw := h.of_eq rfl rfl rfl
  have restarted : w3.reservationLaw := (set.foldl (fun _ h => h.restartZone.startWatch) changed).refreshOutputs
  split
  · exact restarted.enterLockdown
  · exact restarted

theorem loadProfile {cause : Nat} (h : w.reservationLaw) : (w.load cause).reservationLaw := ite h.modProfile h.modProfile.post

theorem applyProfile (h : w.reservationLaw) : w.applyProfile.reservationLaw := by
  unfold Wall.applyProfile
  extract_lets w1 w2 w3
  have lanes : w1.reservationLaw := h.eachLane fun _ h => h.applyLockout
  have cassettes : w2.reservationLaw := lanes.foldl (fun _ h => h.applyCassette) cassIds
  have bins : w3.reservationLaw := cassettes.foldl (fun _ h => h.applyBin) binIds
  exact bins.applyAlarm

theorem endProgramming {g : Programming} (h : w.reservationLaw) : (w.endProgramming g).reservationLaw := by
  unfold Wall.endProgramming
  extract_lets w1 w2 w3
  have stored : w1.reservationLaw := h.modProfile
  have loaded : w3.reservationLaw := applyProfile (loadProfile (ite stored.post stored))
  split
  · exact loaded.finishService
  · exact loaded

/-! ### Hold (Hold) -/

/-- Every slot of every page is changed, and each claims what it claimed. -/
theorem eachSlot {f : Slot → Slot} (h : w.reservationLaw) (kept : ∀ n y, (f y).claim n = y.claim n) : (w.eachSlot f).reservationLaw := by
  refine h.of_claims (fun n x => ?_) rfl fun _ => rfl
  have slot : (w.eachSlot f).slot (lanePage n) x = f (w.slot (lanePage n) x) := by simp [Wall.eachSlot, Wall.slot]
  rw [Wall.claim, slot, kept, Wall.claim]

/-- A RUNNING order that is held, and a HELD one that runs again, is in progress before and after. -/
theorem suspend (h : w.reservationLaw) : (w.eachSlot Slot.suspend).reservationLaw := by
  refine h.eachSlot fun n y => ?_
  have same : y.suspend.state.inProgress = y.state.inProgress := by
    unfold Slot.suspend
    cases st : y.state <;> simp [SlotState.inProgress]
  simp only [Slot.claim, same]
  rfl

theorem resume (h : w.reservationLaw) : (w.eachSlot Slot.resume).reservationLaw := by
  refine h.eachSlot fun n y => ?_
  have same : y.resume.state.inProgress = y.state.inProgress := by
    unfold Slot.resume
    cases st : y.state <;> simp [SlotState.inProgress]
  simp only [Slot.claim, same]
  rfl

theorem resumeDrawer {n : LaneId} (h : w.reservationLaw) : (w.resumeDrawer n).reservationLaw := by
  unfold Wall.resumeDrawer
  refine ite ?_ h
  split
  · exact h.modLane
  · exact ite h.modLane.obstruct h.modLane
  · exact h

theorem holdBegins {cause : Nat} (h : w.reservationLaw) : (w.holdBegins cause).reservationLaw := by
  unfold Wall.holdBegins
  exact h.modPort.post.suspend.modGate.modTransport

theorem holdEnds (h : w.reservationLaw) : w.holdEnds.reservationLaw := (h.post.resume.eachLane fun _ h => h.resumeDrawer).transportGrant

theorem setHold {line order : Bool} (h : w.reservationLaw) : (w.setHold line order).reservationLaw :=
  ite h.modPort.holdBegins (ite h.modPort.holdEnds h.modPort)

/-! ### Taking and the evaluations (Orders) -/

/-- An order of another kind is accepted, and claims nothing. -/
theorem acceptSlot {n : LaneId} {x : SlotId} (h : w.reservationLaw) (kind : w.kindAt (lanePage n) x ≠ some .dispense) :
    (w.acceptSlot (lanePage n) x).reservationLaw := by
  refine h.modSlot fun m page => ?_
  obtain rfl := lanePage_injective page
  have other : ¬ kindOn (lanePage n) ((w.slot (lanePage n) x).body.get 0) = some .dispense := kind
  simp only [Slot.claim, other, and_false, if_false]

/-- An order of a lane is accepted; a DISPENSE where the lane has none. -/
theorem acceptLane {n : LaneId} {x : SlotId} {k : Kind} (h : w.reservationLaw) (kind : w.kindAt (lanePage n) x = some k)
    (free : k = .dispense → ∀ y, w.claim n y = none) : (w.acceptLane n x k).reservationLaw := by
  have other : k ≠ .dispense → w.kindAt (lanePage n) x ≠ some .dispense := kind_ne_dispense kind
  have started : ∀ {u : Wall}, u.reservationLaw → u.kindAt (lanePage n) x ≠ some .dispense → (u.startWork (lanePage n) x).reservationLaw :=
    fun hu kind => hu.startWork fun _ _ => .inr kind
  unfold Wall.acceptLane
  split
  · exact h.acceptDispense kind (free rfl)
  · exact (h.acceptSlot (other (by decide))).requestDrawer
  · exact (h.acceptSlot (other (by decide))).requestDrawer
  · exact (h.acceptSlot (other (by decide))).pocketMove.joinQueue
  · exact (h.acceptSlot (other (by decide))).pocketMove.requestDrawer
  · exact h.modLane.finish (other (by decide))
  · unfold Wall.acceptLaneClose
    split
    · exact started h.modLane (other (by decide))
    · exact started h (other (by decide))
    · exact h.finish (other (by decide))
    · exact h.finish (other (by decide))
  · exact h

theorem emptyBin {x : SlotId} {k : BinId} (h : w.reservationLaw) : (w.emptyBin x k).reservationLaw := h.modBin.finishService

theorem resetDrawer {x : SlotId} {n : LaneId} (h : w.reservationLaw) : (w.resetDrawer x n).reservationLaw := ite h.modLane.finishService h.startClose

theorem acceptCassetteClear {x : SlotId} {c : CassId} (h : w.reservationLaw) : (w.acceptCassetteClear x c).reservationLaw :=
  have counted := h.modCassette (c := c) (f := fun x => { x with rejects := 0 }) fun _ => rfl
  finishService (ite counted.enterCassetteState h)

theorem acceptZoneDisarm {x : SlotId} {z : ZoneId} (h : w.reservationLaw) : (w.acceptZoneDisarm x z).reservationLaw := by
  unfold Wall.acceptZoneDisarm
  refine finishService ?_
  split
  · exact h.zoneExit
  · exact h.modZone.refreshOutputs
  · exact h.modZone.refreshOutputs
  · exact h

theorem acceptService {x : SlotId} {k : Kind} {y : Slot} (h : w.reservationLaw) : (w.acceptService x k y).reservationLaw := by
  unfold Wall.acceptService
  split
  · exact finishService (enterCassetteState (h.modCassette fun _ => rfl))
  · exact h.acceptCassetteClear
  · exact ite (ite h.emptyBin.reloadStranded h.emptyBin) h.emptyBin.transportGrant
  · exact ite h.startService.startClearance (ite h.startService.startConveyorClearance h.startService.resetDrawer)
  · exact (ite h.modZone.refreshOutputs h).finishService
  · exact h.acceptZoneDisarm
  · exact (ite h.zoneExit h).finishService
  · exact (ite h.modAlarm.post h).finishService
  · exact h.setHold.finishService
  · exact h.setHold.finishService
  · exact h.startService.modProfile
  · exact h.loadProfile.applyProfile.finishService
  · exact h.modPort.finishService
  · exact h

/-- A slot is taken that a taking evaluation may take: its track is free, so that a DISPENSE finds its lane without another (R27, R28). -/
theorem take {p : PageId} {x : SlotId} (h : w.reservationLaw) (taken : w.takeable p x = true) : (w.take p x).reservationLaw := by
  simp only [Wall.takeable, Bool.and_eq_true, beq_iff_eq] at taken
  obtain ⟨⟨⟨posted, -⟩, -⟩, track⟩ := taken
  unfold Wall.take
  split
  · refine h.closeSlotAt rfl fun n page => ?_
    subst page
    exact Wall.claim_of_state (by rw [posted]; rfl)
  · split
    · exact h
    · next k kind =>
      split
      · next n page =>
        obtain rfl : p = lanePage n := laneOf_eq_some.mp page
        refine h.acceptLane kind fun dispense y => ?_
        subst dispense
        rw [kind] at track
        simp only [Bool.and_eq_true] at track
        have unoccupied : w.occupant (lanePage n) .note = none := by
          have opened := track.2
          unfold Wall.trackOpen at opened
          cases e : w.occupant (lanePage n) .note with
          | none => rfl
          | some o => rw [show Kind.dispense.track = .note from rfl, e] at opened; cases opened
        by_contra claims
        obtain ⟨running, dispense⟩ := Wall.claim_ne_none.mp claims
        have := List.find?_eq_none.mp unoccupied y (mem_laneIds y)
        exact this (by rw [running, Wall.onTrack, dispense]; rfl)
      · exact h.acceptService

theorem evaluateOnce (h : w.reservationLaw) (e : w.evaluateOnce = some v) : v.reservationLaw := by
  rcases Wall.evaluateOnce_cases e with ⟨n, -, rfl⟩ | ⟨-, ⟨n, x, -, rfl⟩ | ⟨-, p, x, next, rfl⟩⟩
  · exact h.settleLane
  · exact h.grantDrawer
  · obtain ⟨q, -, here⟩ := List.exists_of_findSome?_eq_some next
    obtain ⟨y, found, same⟩ := Option.map_eq_some_iff.mp here
    obtain ⟨rfl, rfl⟩ := Prod.mk.inj same
    exact h.take (List.find?_some found)

theorem evaluate (h : w.reservationLaw) : w.evaluate.reservationLaw := Wall.evaluate_keeps (P := Wall.reservationLaw) (fun _ _ h e => h.evaluateOnce e) h

/-! ### Cancels (Cancel) -/

theorem cancelDispense {n : LaneId} {x : SlotId} (h : w.reservationLaw) : (w.cancelDispense n x).reservationLaw := by
  unfold Wall.cancelDispense
  dsimp only
  split
  · exact h.answerCancel
  · refine ite h.answerCancel (ite h.refuseCancel ?_)
    split
    · exact h.answerCancel.beginEnd.finishDispense
    · exact h.answerCancel.beginEnd.dropRequest.finishDispense
    · exact h.answerCancel.beginEnd
    · exact h.answerCancel.beginEnd
    · exact h.answerCancel.beginEnd
    · exact h.answerCancel.beginEnd.closeByOwner
    · exact h.refuseCancel

theorem cancelRetract {n : LaneId} {x : SlotId} (h : w.reservationLaw) (kind : w.kindAt (lanePage n) x ≠ some .dispense) :
    (w.cancelRetract n x).reservationLaw := ite (h.answerCancel.finish kind) (ite h.answerCancel.dropRetract h.refuseCancel)

theorem cancelDeposit {n : LaneId} {x : SlotId} (h : w.reservationLaw) (kind : w.kindAt (lanePage n) x ≠ some .dispense) :
    (w.cancelDeposit n x).reservationLaw := by
  have pending : (w.modSlot (lanePage n) x fun y => { y with cancelPending := true }).reservationLaw := h.modSlot fun _ _ => rfl
  unfold Wall.cancelDeposit
  refine ite (h.answerCancel.finish kind) (ite h ?_)
  split
  · exact pending.closeByOwner
  · exact pending.closeByOwner
  · exact pending.closeByOwner
  · exact h.refuseCancel

theorem cancelCapture {n : LaneId} {x : SlotId} (h : w.reservationLaw) (kind : w.kindAt (lanePage n) x ≠ some .dispense) :
    (w.cancelCapture n x).reservationLaw := ite (h.answerCancel.leaveQueue.pocketHeld.finish kind) h.refuseCancel

theorem cancelReturn {n : LaneId} {x : SlotId} (h : w.reservationLaw) (kind : w.kindAt (lanePage n) x ≠ some .dispense) :
    (w.cancelReturn n x).reservationLaw :=
  ite (h.answerCancel.leaveQueue.pocketHeld.finish kind) (ite (h.answerCancel.pocketHeld.finish kind) h.refuseCancel)

theorem cancelOrder {p : PageId} {x : SlotId} (h : w.reservationLaw) : (w.cancelOrder p x).reservationLaw := by
  unfold Wall.cancelOrder
  split
  · exact h.refuseCancel
  · next n page =>
    obtain rfl : p = lanePage n := laneOf_eq_some.mp page
    refine ite h.refuseCancel ?_
    split
    · exact h.cancelDispense
    · next kind => exact h.cancelRetract (kind_ne_dispense kind (by decide))
    · next kind => exact h.cancelDeposit (kind_ne_dispense kind (by decide))
    · next kind => exact h.cancelCapture (kind_ne_dispense kind (by decide))
    · next kind => exact h.cancelReturn (kind_ne_dispense kind (by decide))
    · exact h.refuseCancel

theorem cancelEvent {p : PageId} {x : SlotId} (h : w.reservationLaw) : (w.cancelEvent p x).reservationLaw := by
  unfold Wall.cancelEvent
  cases st : (w.slot p x).state with
  | posted =>
    refine answerCancel (h.closeSlotAt rfl fun n page => ?_)
    subst page
    exact Wall.claim_of_state (by rw [st]; rfl)
  | accepted => exact h.cancelOrder
  | running => exact h.cancelOrder
  | held => exact h.cancelOrder
  | empty => exact h.answerCancel
  | finished => exact h.answerCancel
  | refused => exact h.answerCancel

theorem flagEvent {k : Fin 16} {i : Nat} (h : w.reservationLaw) : (w.flagEvent k i).reservationLaw := ite h.cancelEvent (ite h.acknowledge h)

theorem setFlags {k : Fin 16} {mask : Word} (h : w.reservationLaw) : (w.setFlags k mask).reservationLaw := by
  unfold Wall.setFlags
  extract_lets old new done
  have acted : done.reservationLaw := h.modFlag.foldl (fun _ h => h.flagEvent) _
  exact ite acted.evaluate acted

end Wall.reservationLaw
end Sys2Proof.Machine
end

section
/-! PROOF. The reservations stay exact (O11): power-on, the wall reset, the posting of an order, and every command. -/

namespace Sys2Proof.Machine
namespace Wall.reservationLaw
variable {v w : Wall}

/-! ### RUN, the wall reset and power-on (StartUp) -/

theorem run (h : w.reservationLaw) : w.run.reservationLaw :=
  ite h (evaluate (ite (h.modPort.modPort.startClearance.startConveyorClearance.eachLane fun _ h => h.modPocket) h.modPort))

/-- Where no order is in progress, no context loaded and no note reserved the law of R55 holds. -/
theorem of_empty (slots : ∀ p x, (w.slot p x).state.inProgress = false) (loaded : w.engine.loaded = none)
    (reserved : ∀ c, (w.cassettes.get c).reserved = 0) : w.reservationLaw := by
  have claims : ∀ n x, w.claim n x = none := fun n x => Wall.claim_of_state (slots _ x)
  have owes : ∀ n c, (w.owed n).get c = 0 := fun n c => by
    rw [Wall.owed_of_none, Counts.zero_get]
    rw [Wall.orderOf_eq_claim]
    exact List.find?_eq_none.mpr fun x _ => by simp [claims]
  refine Wall.reservationLaw_iff.mpr ⟨⟨fun n x _ hx => absurd (claims n x) hx, fun l hl => ?_⟩, fun c => by simp only [owes, reserved]⟩
  rw [loaded] at hl
  cases hl

theorem clearBoard {k : Nat} (h : w.reservationLaw) : (w.clearBoard k).reservationLaw := by
  unfold Wall.clearBoard
  extract_lets w1 w2
  have cleared : w1.reservationLaw := h.of_eq rfl rfl rfl
  have told : w2.reservationLaw := ite cleared.post cleared
  exact ite told.modPort.post told

/-- A wall reset discards every order, context and reservation (R45, R106, R65). -/
theorem discarded (w : Wall) : w.abandon.discard.reservationLaw := by
  refine of_empty (fun p x => ?_) rfl fun c => ?_
  · simp only [Wall.discard, Wall.discardSlots, Wall.slot, Wall.modPort_pages, tabMap_get]
    split
    · next empty => rw [empty]; rfl
    · rfl
  · exact congrArg Cassette.reserved (tabMap_get w.cassettes (fun _ (c : Cassette) => { c with reserved := 0 }) c)

theorem wallReset (w : Wall) : w.wallReset.reservationLaw := by
  unfold Wall.wallReset
  exact (discarded w).clearBoard.refreshForced.modPort.loadProfile.applyProfile

/-- Power-on empties every slot and reserves nothing, from whatever the wall was (R44, R65). -/
theorem powerOnWall (i : WallInputs) (stored : Vector Word 64) (cutShort : Nat) : (Machine.powerOnWall i stored cutShort).reservationLaw := by
  unfold Machine.powerOnWall
  extract_lets base blank w points w1 w2
  have loaded : w.reservationLaw := loadProfile (w := blank) (reset_reservationLaw.of_eq rfl rfl rfl)
  have pages : w.pages = Wall.reset.pages ∧ w.engine = Wall.reset.engine := by
    simp only [w, Wall.load]
    split
    · exact ⟨rfl, rfl⟩
    · rw [Wall.post_frame]; exact ⟨rfl, rfl⟩
  have set : w1.reservationLaw := by
    refine of_empty (fun p x => ?_) ?_ fun c => ?_
    · rw [show w1.slot p x = State.reset.wall.slot p x from Wall.slot_congr pages.1 p x, reset_slot]
      rfl
    · exact congrArg Engine.loaded pages.2
    · exact congrArg Cassette.reserved (ofFn_get _ c)
  have lanes : w2.reservationLaw := set.eachLane fun _ h => h.applyLockout
  exact refreshOutputs (lanes.foldl (fun _ h => h.startWatch) zoneIds)

/-! ### The posting of an order and the give-back (R23, R24) -/

/-- A slot with no order in progress claims nothing before and after a change that starts none. -/
theorem modIdle {p : PageId} {x : SlotId} {f : Slot → Slot} (h : w.reservationLaw) (before : (w.slot p x).state.inProgress = false)
    (after : (f (w.slot p x)).state.inProgress = false) : (w.modSlot p x f).reservationLaw :=
  h.modSlot fun n _ => by rw [Slot.claim_of_state before, Slot.claim_of_state after]

theorem postSlot {p : PageId} {x : SlotId} (h : w.reservationLaw) (empty : (w.slot p x).state = .empty) : (w.postSlot p x).reservationLaw := by
  have posted := h.modIdle (p := p) (x := x) (f := fun y => { y with state := .posted }) (by rw [empty]; rfl) rfl
  refine posted.of_claims (fun n y => ?_) rfl fun _ => rfl
  exact congrArg (Slot.claim n) (Wall.modPage_posting_slot p _ y (fun g => g.posting ++ [x]) _)

theorem place {p : PageId} {x : SlotId} {k : Kind} {tag : Word} {params : List Word} (h : w.reservationLaw) :
    (w.place p x k tag params).reservationLaw := by
  unfold Wall.place
  split
  · next empty =>
    have idle : (w.slot p x).state.inProgress = false := by rw [empty]; rfl
    exact (postSlot (h.modIdle idle idle) (by rw [Wall.modSlot_slot_same]; exact empty)).evaluate
  · exact (h.foldl (fun _ h => h.slip) _).slip

theorem writeSlotState {p : PageId} {x : SlotId} {k : Word} (h : w.reservationLaw) : (w.writeSlotState p x k).reservationLaw := by
  unfold Wall.writeSlotState
  dsimp only
  split
  · next empty => exact (h.postSlot empty.2).evaluate
  · split
    · next ended =>
      exact h.modIdle (SlotState.not_inProgress_of_ended ended.2) rfl
    · exact h.slip

theorem writeBody {p : PageId} {x : SlotId} {i : Fin 14} {k : Word} (h : w.reservationLaw) : (w.writeBody p x i k).reservationLaw := by
  unfold Wall.writeBody
  split
  · next empty =>
    have idle : (w.slot p x).state.inProgress = false := by rw [empty]; rfl
    exact h.modIdle idle idle
  · exact h.slip

theorem writeEntry {e : Fin 48} {k : Word} (h : w.reservationLaw) : (w.writeEntry e k).reservationLaw := by
  have blanked : Wall.reservationLaw { w with board := tabSet w.board e Entry.blank } := h
  exact ite h (ite (ite blanked.modPort blanked) h.slip)

theorem writeRunControl {k : Word} (h : w.reservationLaw) : (w.writeRunControl k).reservationLaw := ite (wallReset w) (ite h.run h.modPort)

theorem hostWrite {a : Nat} {k : Word} (h : w.reservationLaw) : (w.hostWrite a k).reservationLaw := by
  unfold Wall.hostWrite
  split
  · exact h.writeSlotState
  · exact h.writeBody
  · exact h.writeEntry
  · exact h.modProfile
  · exact h.setFlags
  · exact h.modFlag
  · exact h.writeRunControl
  · exact h.modPort
  · exact h.slip
  · exact h
  · exact h

/-! ### The events at the lanes, the cassettes, the path and the points -/

theorem stowedAsserts {n : LaneId} (h : w.reservationLaw) : (w.stowedAsserts n).reservationLaw := by
  unfold Wall.stowedAsserts
  extract_lets l w0 w1 w2
  have seated : w2.reservationLaw := (ite h.restartSilence h).modLane.refreshForced
  exact ite seated.arriveStowed seated

theorem liftEnds {n : LaneId} (h : w.reservationLaw) : (w.liftEnds n).reservationLaw := by
  unfold Wall.liftEnds
  refine ite ?_ h
  split
  · unfold Wall.liftedToPocket
    dsimp only
    split
    · exact h.modLane
    · split
      · next kind => exact h.modLane.pocketHeld.finish (kind_ne_dispense kind (by decide))
      · exact h.modLane.pocketMove.modPocket.joinQueue.leaveDrawer
      · exact h.modLane
  · unfold Wall.liftedToDrawer
    dsimp only
    split
    · exact h.modLane.startTake.closeByOwner
    · exact h.modLane.startTake
  · exact h

theorem stowedClears {n : LaneId} (h : w.reservationLaw) : (w.stowedClears n).reservationLaw := ite (ite h.modLane h.modLane.refreshForced) h

theorem programmingEnds (h : w.reservationLaw) : w.programmingEnds.reservationLaw := by
  unfold Wall.programmingEnds
  split
  · exact ite h h.endProgramming
  · exact h

theorem takeExpires {n : LaneId} (h : w.reservationLaw) : (w.takeExpires n).reservationLaw := ite (ite h.startClose h.modLane.startClose) h

theorem removeCassette {c : CassId} (h : w.reservationLaw) : (w.removeCassette c).reservationLaw := by
  have gone := h.modCassette (c := c) (f := fun x => { x with present := false }) fun _ => rfl
  exact ite gone.enterCassetteState h

theorem insertCassette {c : CassId} (h : w.reservationLaw) : (w.insertCassette c).reservationLaw := by
  unfold Wall.insertCassette
  split
  · exact h
  · exact h.modCassette fun _ => rfl

theorem encoderLost (h : w.reservationLaw) : w.encoderLost.reservationLaw := by
  unfold Wall.encoderLost
  exact ite h.transportFault h

theorem stableChange {p : Fin 12} (h : w.reservationLaw) : (w.stableChange p).reservationLaw := by
  unfold Wall.stableChange
  exact ite h h.changeLive

theorem sendPress {n : LaneId} (h : w.reservationLaw) : (w.sendPress n).reservationLaw := by
  unfold Wall.sendPress
  exact ite h.startClose h

theorem extendedAsserts {n : LaneId} (h : w.reservationLaw) : (w.extendedAsserts n).reservationLaw := by
  unfold Wall.extendedAsserts
  exact ite h.modLane.arriveExtended h.modLane

theorem obstruction {n : LaneId} (h : w.reservationLaw) : (w.obstruction n).reservationLaw := by
  unfold Wall.obstruction
  exact ite h.modLane.obstruct h.modLane

theorem windowExpires {n : LaneId} (h : w.reservationLaw) : (w.windowExpires n).reservationLaw := by
  unfold Wall.windowExpires
  exact ite h.startClose h

theorem depositExpires {n : LaneId} (h : w.reservationLaw) : (w.depositExpires n).reservationLaw := by
  unfold Wall.depositExpires
  exact ite h.startClose h

theorem travelOverrun {n : LaneId} (h : w.reservationLaw) : (w.travelOverrun n).reservationLaw := by
  unfold Wall.travelOverrun
  exact ite h.jamDrawer h

theorem liftOverrun {n : LaneId} {e i : Bool} (h : w.reservationLaw) : (w.liftOverrun n e i).reservationLaw := by
  unfold Wall.liftOverrun
  exact ite h.modLane.jamDrawer h

theorem forcedEnds {n : LaneId} (h : w.reservationLaw) : (w.forcedEnds n).reservationLaw := by
  unfold Wall.forcedEnds
  exact ite h.stowedAsserts h

theorem holdLimitExpires {n : LaneId} (h : w.reservationLaw) : (w.holdLimitExpires n).reservationLaw := by
  unfold Wall.holdLimitExpires
  exact ite h.expireHoldLimit h

theorem missed (h : w.reservationLaw) : w.missed.reservationLaw := by
  unfold Wall.missed
  exact ite h.declareMiss.checkEnding h

theorem entryExpires {z : ZoneId} (h : w.reservationLaw) : (w.entryExpires z).reservationLaw := by
  unfold Wall.entryExpires
  exact ite h.zoneAlarm h

theorem sirenExpires {z : ZoneId} (h : w.reservationLaw) : (w.sirenExpires z).reservationLaw := by
  unfold Wall.sirenExpires
  exact h.modZone.refreshOutputs

theorem trailing (h : w.reservationLaw) : w.trailing.reservationLaw := by
  unfold Wall.trailing
  exact h.modGate.closePassage.modGate.checkEnding

theorem whenSome {α : Type} {f : α → Wall → Wall} (a : Option α) (h : w.reservationLaw) (hf : ∀ a, (f a w).reservationLaw) :
    (w.whenSome a f).reservationLaw := by
  cases a with
  | none => exact h
  | some a => exact hf a

end Wall.reservationLaw

/-! ### Every command -/

/-- Whatever a command answers, its wall has the property. -/
def State.Answers (P : Wall → Prop) (o : Result) : Prop := ∀ t, o = .next t → P t.wall

namespace State.Answers
variable {P : Wall → Prop} {s : State}

theorem next {t : State} (h : P t.wall) : State.Answers P (.next t) := by
  rintro u e
  obtain rfl := Host.Outcome.next.inj e
  exact h

theorem onWall {f : Wall → Wall} (h : P s.wall) (hf : P (f s.wall)) : State.Answers P (s.onWall f) := by
  rcases State.onWall_cases (s := s) (f := f) rfl with ⟨-, e⟩ | ⟨-, e⟩
  · rw [e]; exact next hf
  · rw [e]; exact next h

/-- An event after which the wall re-evaluates its waiting orders. -/
theorem evaluated {f : Wall → Wall} (h : s.wall.reservationLaw) (hf : (f s.wall).reservationLaw) :
    State.Answers Wall.reservationLaw (s.onWall fun w => (f w).evaluate) :=
  onWall (f := fun w => (f w).evaluate) h hf.evaluate

theorem onBus {f : Wall → Wall} (h : P s.wall) (hf : P (f s.wall)) : State.Answers P (s.onBus f) := by
  rcases State.onBus_cases (s := s) (f := f) rfl with ⟨-, e⟩ | ⟨-, e⟩
  · rw [e]; exact next hf
  · rw [e]; exact next h

theorem busRead (a : Nat) (h : P s.wall) : State.Answers P (if s.supply then .next (s.busRead a) else .next s) := by
  split
  · exact next (by rw [State.busRead_wall]; exact h)
  · exact next h

end State.Answers

/-- Every command keeps the reservations exact (R55, R91, R27). -/
theorem exec_reservationLaw (c : Instr) (s : State) (h : s.wall.reservationLaw) : State.Answers Wall.reservationLaw (exec c s) := by
  cases c with
  | powerOn i => exact .next (Wall.reservationLaw.powerOnWall i _ _)
  | hostWrite a k =>
    show State.Answers _ (if s.supply then .next (s.busWrite a.toNat k) else .next s)
    split
    · unfold State.busWrite
      split
      · exact .next h
      · exact .next h.hostWrite
    · exact .next h
  | postingEvent p x => exact .onBus h h.writeSlotState
  | giveBack p x => exact .onBus h h.writeSlotState
  | orderBodyWrite p x i k => exact .onBus h h.writeBody
  | flagSetAlias k mask => exact .onBus h h.setFlags
  | flagClearAlias k mask => exact .onBus h h.modFlag
  | entrySeen e => exact .onBus h h.writeEntry
  | entryFree e => exact .onBus h h.writeEntry
  | counterHighRead k => exact .busRead _ h
  | counterLowRead k => exact .busRead _ h
  | run => exact .onBus h h.writeRunControl
  | halt => exact .onBus h h.writeRunControl
  | wallReset b => exact .onBus h h.writeRunControl
  | attentionMaskWrite k => exact .onBus h h.modPort
  | dispense n x tag mode amount c0 c1 c2 c3 => exact .onBus h h.place
  | retract n x tag => exact .onBus h h.place
  | deposit n x tag => exact .onBus h h.place
  | capture n x tag => exact .onBus h h.place
  | returnOrder n x tag => exact .onBus h h.place
  | laneOpen n x tag => exact .onBus h h.place
  | laneClose n x tag => exact .onBus h h.place
  | countSet x tag c l => exact .onBus h h.place
  | cassetteClear x tag c => exact .onBus h h.place
  | binReset x tag b => exact .onBus h h.place
  | pathReset x tag m => exact .onBus h h.place
  | zoneArm x tag z => exact .onBus h h.place
  | zoneDisarm x tag z => exact .onBus h h.place
  | zoneReset x tag z => exact .onBus h h.place
  | lockdownClear x tag => exact .onBus h h.place
  | holdWall x tag => exact .onBus h h.place
  | releaseWall x tag => exact .onBus h h.place
  | profileCommit x tag => exact .onBus h h.place
  | profileLoad x tag => exact .onBus h h.place
  | clockSet x tag hi lo => exact .onBus h h.place
  | programmingEnd => exact .evaluated h h.programmingEnds
  | callButtonPress n => exact .onWall h h.modFlag
  | sendButtonPress n => exact .onWall h h.sendPress
  | extendedSensorReached n => exact .onWall h h.extendedAsserts
  | stowedSensorReached n => exact .evaluated h h.stowedAsserts
  | drawerObstruction n => exact .evaluated h h.obstruction
  | obstructionCleared n => exact .onWall h h.modLane
  | itemSensorChange n b => exact .onWall h h.modLane
  | clearWindowExpiry n => exact .onWall h h.windowExpires
  | takeTimerExpiry n => exact .onWall h h.takeExpires
  | depositTimerExpiry n => exact .onWall h h.depositExpires
  | travelBudgetOverrun n => exact .evaluated h h.travelOverrun
  | liftComplete n => exact .evaluated h h.liftEnds
  | liftOverrun n e i => exact .evaluated h h.liftOverrun
  | drawerForced n => exact .evaluated h h.stowedClears
  | forcedMarkCleared n => exact .evaluated h h.forcedEnds
  | cassetteRemoval c => exact .onWall h h.removeCassette
  | cassetteInsertion c => exact .onWall h h.insertCassette
  | pickRelease => exact .onWall h (h.whenSome _ fun _ => h.releasePick)
  | leadingEdge => exact .onWall h h.gateLeading
  | trailingEdge => exact .evaluated h h.trailing
  | miss => exact .evaluated h h.missed
  | diverterLeadingEdge => exact .evaluated (f := fun w => w.diverterLeading.checkEnding) h h.diverterLeading.checkEnding
  | diverterTrailingEdge => exact .onWall h h.modGate
  | encoderLoss => exact .evaluated h h.encoderLost
  | encoderRestored => exact .onWall h h.endLoss
  | exitLeadingEdge => exact .evaluated h h.exitEdge
  | transportJam => exact .onWall h (.ite h.transportFault.evaluate h)
  | remix => exact .evaluated h (h.whenSome _ fun _ => h.remixLane)
  | deliveryStart => exact .onWall h (h.whenSome _ fun _ => h.startDelivery)
  | deliveryEnd => exact .evaluated h (h.whenSome _ fun _ => h.endDelivery)
  | deliveryOverrun b => exact .evaluated h (h.whenSome _ fun _ => h.modLane.transportFault)
  | purgeStart => exact .onWall h (h.whenSome _ fun _ => h.startPurge)
  | purgeEnd => exact .evaluated h (h.whenSome _ fun _ => h.endDump)
  | clearanceBeltEnd => exact .onWall h (.ite h.modTransport h)
  | sweepEnd => exact .onWall h (h.whenSome _ fun _ => h.endSweep)
  | sweepStall => exact .evaluated h (h.whenSome _ fun _ => h.stallSweep)
  | retractEnd => exact .evaluated h (h.whenSome _ fun _ => h.endRetract)
  | holdLimitExpiry n => exact .onWall h h.holdLimitExpires
  | servingEvaluation => exact .onWall h (h.whenSome _ fun _ => h.serve)
  | conveyorExit => exact .evaluated h h.conveyorExit
  | carryOverrun => exact .evaluated h (h.whenSome _ fun _ => h.overrunCarry)
  | conveyorClearanceEnd => exact .onWall h (.ite h.endConveyorClearance.evaluate h)
  | rawInputChange p => exact .onWall h h.modPoint
  | liveChange p => exact .evaluated h h.stableChange
  | entryDelayExpiry z => exact .evaluated h h.entryExpires
  | sirenTimerExpiry z => exact .onWall h h.sirenExpires
  | holdLineOn => exact .evaluated (f := fun w => w.setHold true w.port.orderCause) h h.setHold
  | holdLineOff => exact .evaluated (f := fun w => w.setHold false w.port.orderCause) h h.setHold
  | wallSecond => exact .onWall h h.modPort
  | encoderRisingEdge k => exact .onWall h h.pulse
  | hostRead a => exact .busRead _ h
  | supplyFailure =>
    refine .next ?_
    unfold State.powerDown
    split
    · exact h.modProfile
    · exact h

/-- Settles O11: every command moves the claims of a lane and the reserved counts together, and 10 ms of the timers move neither. -/
theorem reservationsStayExact : Obligations.ReservationsStayExact := by
  unfold Obligations.ReservationsStayExact
  intro s h t answer
  unfold step at answer
  split at answer
  · next c rest _ => exact exec_reservationLaw c { s with pending := rest } h t answer
  · unfold idle at answer
    split at answer
    · split at answer
      · next c _ => exact exec_reservationLaw c s h t answer
      · obtain rfl := Host.Outcome.next.inj answer
        exact h.of_eq (v := s.wall.tick) rfl rfl rfl
    · obtain rfl := Host.Outcome.next.inj answer
      exact h

end Sys2Proof.Machine
end

section
/-! PROOF. Re-mixes (O53): the refutation. The statement's last clause gives the reserved counts after the mark of a final order from that order's outstanding
counts alone, and it also admits a wall whose path serves another lane. -/

namespace Sys2Proof.Machine

/-- The progress area of a DISPENSE in the building phase, which still owes one note of cassette 0. -/
def buildingContext (acceptance : Nat) (final : Bool) : DispenseContext :=
  { phase := .building, acceptance := acceptance, outstanding := #v[1, 0, 0, 0], routed := Counts.zero, rejects := 0, bundles := 0, target := 0,
    inDrawer := 0, final := final, takenLate := false, endCause := .none, remixes := 0 }

/-- Such an order, with the mode MIX. -/
def buildingOrder (acceptance : Nat) (final : Bool) : Slot :=
  { Slot.reset with state := .running, body := orderBody .dispense 0#16 [1#16], context := some (buildingContext acceptance final) }

/-- The page of a lane whose one order is `y`. -/
def singlePage (y : Slot) : Page := { slots := #v[y, Slot.reset, Slot.reset, Slot.reset], posting := [0] }

/-- Lanes 0 and 1 each build a bundle of one note of cassette 0, both notes reserved. Lane 0's order waits for a re-mix; lane 1's is final already and the
granted path serves it, settled and with an empty stacker. -/
def twoBuilders : Wall :=
  { Wall.reset with
      pages := tabSet (tabSet Wall.reset.pages 0 (singlePage (buildingOrder 1 false))) 1 (singlePage (buildingOrder 2 true)),
      engine :=
        { Engine.reset with tallies := tabSet (tabSet Engine.reset.tallies 0 (some { blankTally with remixWait := true })) 1 (some blankTally) },
      cassettes := tabMod Wall.reset.cassettes 0 fun c => { c with reserved := 2 },
      transport := { Transport.reset with state := .granted, join := .dispense 1 } }

/-- The mark of lane 0's order runs the ending test of the path, which ends lane 1's order: both claims are released. -/
theorem twoBuilders_remix : ((twoBuilders.remixLane 0).cassettes.get 0).reserved = 0 := by decide +kernel

/-- Refutes O53: the MIX order of lane 0 becomes final, and with it ends the final order of lane 1, whose note is released too: of the two reserved notes the
statement keeps one, the model none. -/
theorem not_remixes : ¬ Obligations.Remixes := by
  unfold Obligations.Remixes
  rintro ⟨-, -, -, remixed⟩
  have loses := remixed twoBuilders 0 0 (buildingContext 1 false) { blankTally with remixWait := true }
  obtain ⟨-, finals⟩ := loses (by decide +kernel) (by decide +kernel) (by decide +kernel) (by decide +kernel)
  obtain ⟨t, rfl, reserved, -⟩ := finals (.inl (by decide +kernel))
  exact absurd ((reserved 0).symm.trans twoBuilders_remix) (by decide +kernel)

end Sys2Proof.Machine
end

section
/-! PROOF. The mix (O12): the listing is sorted, the search finds the greatest vector of counts that fits a listing, and the vectors that fit the mix listing are
the admissible ones. -/

namespace Sys2Proof.Machine

/-! ### The listing (R56) -/

/-- `c` stands before `d` in listing order: its denomination is higher, or as high and its position lower (R56). -/
def listsBefore (denomination : CassId → Nat) (c d : CassId) : Prop :=
  denomination d < denomination c ∨ (denomination d = denomination c ∧ c < d)

theorem listsBefore.ne {denomination : CassId → Nat} {c d : CassId} (h : listsBefore denomination c d) : c ≠ d := by
  rintro rfl
  rcases h with lower | ⟨-, lower⟩
  · exact lt_irrefl _ lower
  · exact lt_irrefl _ lower

theorem mem_insertListing {denomination : CassId → Nat} {c e : CassId} {l : List CassId} : e ∈ insertListing denomination c l ↔ e = c ∨ e ∈ l := by
  induction l with
  | nil => simp [insertListing]
  | cons d rest ih =>
    simp only [insertListing]
    split
    · simp
    · simp [ih, or_left_comm]

/-- A position behind all those listed keeps the listing sorted. -/
theorem insertListing_sorted {denomination : CassId → Nat} {c : CassId} {l : List CassId} (sorted : l.Pairwise (listsBefore denomination))
    (last : ∀ d ∈ l, d < c) : (insertListing denomination c l).Pairwise (listsBefore denomination) := by
  induction l with
  | nil => exact List.pairwise_singleton _ c
  | cons d rest ih =>
    obtain ⟨front, sorted⟩ := List.pairwise_cons.mp sorted
    simp only [insertListing]
    split
    · next higher =>
      refine List.pairwise_cons.mpr ⟨fun e he => .inl ?_, List.pairwise_cons.mpr ⟨front, sorted⟩⟩
      rcases List.mem_cons.mp he with rfl | he
      · exact higher
      · rcases front e he with lower | ⟨same, -⟩
        · exact lower.trans higher
        · exact same ▸ higher
    · next atMost =>
      refine List.pairwise_cons.mpr ⟨fun e he => ?_, ih sorted fun e he => last e (List.mem_cons_of_mem d he)⟩
      rcases mem_insertListing.mp he with rfl | he
      · rcases Nat.lt_or_eq_of_le (Nat.le_of_not_lt atMost) with lower | same
        · exact .inl lower
        · exact .inr ⟨same, last d List.mem_cons_self⟩
      · exact front e he

theorem mem_foldl_insertListing {denomination : CassId → Nat} {e : CassId} {cs l : List CassId} :
    e ∈ cs.foldl (fun l c => insertListing denomination c l) l ↔ e ∈ l ∨ e ∈ cs := by
  induction cs generalizing l with
  | nil => simp
  | cons c cs ih => simp [ih, mem_insertListing, or_assoc, or_left_comm]

theorem foldl_insertListing_sorted {denomination : CassId → Nat} {cs l : List CassId} (ascending : cs.Pairwise (· < ·))
    (behind : ∀ c ∈ cs, ∀ d ∈ l, d < c) (sorted : l.Pairwise (listsBefore denomination)) :
    (cs.foldl (fun l c => insertListing denomination c l) l).Pairwise (listsBefore denomination) := by
  induction cs generalizing l with
  | nil => exact sorted
  | cons c cs ih =>
    obtain ⟨first, ascending⟩ := List.pairwise_cons.mp ascending
    refine ih ascending (fun e he d hd => ?_) (insertListing_sorted sorted (behind c List.mem_cons_self))
    rcases mem_insertListing.mp hd with rfl | hd
    · exact first e he
    · exact behind e (List.mem_cons_of_mem c he) d hd

/-- The mix listing holds the usable cassettes. -/
theorem Wall.mem_mixListing {w : Wall} {c : CassId} : c ∈ w.mixListing ↔ w.usable c = true := by
  simp [Wall.mixListing, listingOf, mem_foldl_insertListing, mem_cassIds]

theorem Wall.mixListing_sorted (w : Wall) : w.mixListing.Pairwise (listsBefore w.denomination) :=
  foldl_insertListing_sorted (List.Pairwise.filter _ (by decide)) (fun _ _ _ h => absurd h List.not_mem_nil) .nil

theorem Wall.mixListing_nodup (w : Wall) : w.mixListing.Nodup := w.mixListing_sorted.imp listsBefore.ne

theorem Wall.denomination_pos {w : Wall} {c : CassId} (h : c ∈ w.mixListing) : 0 < w.denomination c := by
  have usable := Wall.mem_mixListing.mp h
  simp only [Wall.usable, Bool.and_eq_true, decide_eq_true_eq] at usable
  exact usable.2

/-! ### The search (R56) -/

/-- The counts make up the amount from a listing of (denomination, availability), within the availabilities and the limit on the number of notes. -/
def fits : List (Nat × Nat) → Nat → Nat → List Nat → Prop
  | [], amount, _, [] => amount = 0
  | (d, a) :: rest, amount, limit, n :: v => n ≤ a ∧ n ≤ limit ∧ n * d ≤ amount ∧ fits rest (amount - n * d) (limit - n) v
  | _, _, _, _ => False

/-- What a search is for: the lexicographically greatest list with a property, or nothing where no list has it. -/
def isGreatest (P : List Nat → Prop) : Option (List Nat) → Prop
  | some v => P v ∧ ∀ u, P u → lexLe u v
  | none => ∀ u, ¬ P u

theorem isGreatest_congr {P Q : List Nat → Prop} {o : Option (List Nat)} (h : ∀ u, P u ↔ Q u) : isGreatest P o ↔ isGreatest Q o := by
  rw [show P = Q from funext fun u => propext (h u)]

/-- The lists that begin with a count of `n` at most and go on, after it, as the rest of the listing allows. -/
def startsUpTo (P : Nat → Nat → List Nat → Prop) (d amount limit n : Nat) : List Nat → Prop
  | [] => False
  | m :: u => m ≤ n ∧ P (amount - m * d) (limit - m) u

/-- The search from the count `n` downwards finds the greatest list that begins with `n` at most, where the search over the rest finds the greatest. -/
theorem tryCounts_isGreatest {P : Nat → Nat → List Nat → Prop} {rest : Nat → Nat → Option (List Nat)}
    (found : ∀ amount limit, isGreatest (P amount limit) (rest amount limit)) (d amount limit n : Nat) :
    isGreatest (startsUpTo P d amount limit n) (tryCounts rest d amount limit n) := by
  induction n with
  | zero =>
    have here := found amount limit
    simp only [tryCounts]
    cases e : rest amount limit with
    | none =>
      rw [e] at here
      rintro (_ | ⟨m, u⟩) hu
      · exact hu
      · obtain ⟨zero, hu⟩ := hu
        obtain rfl := Nat.le_zero.mp zero
        exact here u (by simpa using hu)
    | some v =>
      rw [e] at here
      obtain ⟨ok, greatest⟩ := here
      refine ⟨⟨le_rfl, by simpa using ok⟩, ?_⟩
      rintro (_ | ⟨m, u⟩) hu
      · exact hu.elim
      · obtain ⟨zero, hu⟩ := hu
        obtain rfl := Nat.le_zero.mp zero
        exact .inr ⟨rfl, greatest u (by simpa using hu)⟩
  | succ n ih =>
    have here := found (amount - (n + 1) * d) (limit - (n + 1))
    simp only [tryCounts]
    cases e : rest (amount - (n + 1) * d) (limit - (n + 1)) with
    | none =>
      rw [e] at here
      refine (isGreatest_congr fun u => ?_).mp ih
      cases u with
      | nil => exact Iff.rfl
      | cons m u =>
        refine and_congr_left fun hu => ⟨Nat.le_succ_of_le, fun atMost => ?_⟩
        rcases Nat.le_succ_iff.mp atMost with less | rfl
        · exact less
        · exact absurd hu (here u)
    | some v =>
      rw [e] at here
      obtain ⟨ok, greatest⟩ := here
      refine ⟨⟨le_rfl, ok⟩, ?_⟩
      rintro (_ | ⟨m, u⟩) hu
      · exact hu.elim
      · obtain ⟨atMost, hu⟩ := hu
        rcases Nat.lt_or_eq_of_le atMost with less | rfl
        · exact .inl less
        · exact .inr ⟨rfl, greatest u hu⟩

/-- A list that fits begins with a count of as many notes as the amount, the availability and the limit allow at most. -/
theorem fits_cons_iff {d a : Nat} {rest : List (Nat × Nat)} {amount limit : Nat} {u : List Nat} (pos : 0 < d) :
    startsUpTo (fits rest) d amount limit (min (amount / d) (min a limit)) u ↔ fits ((d, a) :: rest) amount limit u := by
  cases u with
  | nil => exact Iff.rfl
  | cons m u =>
    simp only [startsUpTo, fits, le_min_iff, Nat.le_div_iff_mul_le pos]
    tauto

/-- The search finds the greatest list of counts that fits. -/
theorem bestMix_isGreatest {l : List (Nat × Nat)} (pos : ∀ p ∈ l, 0 < p.1) (amount limit : Nat) :
    isGreatest (fits l amount limit) (bestMix l amount limit) := by
  induction l generalizing amount limit with
  | nil =>
    simp only [bestMix]
    split
    · next none_left =>
      refine ⟨none_left, fun u hu => ?_⟩
      cases u with
      | nil => trivial
      | cons m u => exact hu.elim
    · next left =>
      intro u hu
      cases u with
      | nil => exact left hu
      | cons m u => exact hu
  | cons p rest ih =>
    obtain ⟨d, a⟩ := p
    refine (isGreatest_congr fun u => fits_cons_iff (pos (d, a) List.mem_cons_self)).mp ?_
    exact tryCounts_isGreatest (ih fun p hp => pos p (List.mem_cons_of_mem _ hp)) d amount limit _

theorem fits_length {l : List (Nat × Nat)} {amount limit : Nat} {v : List Nat} (h : fits l amount limit v) : v.length = l.length := by
  induction l generalizing amount limit v with
  | nil =>
    cases v with
    | nil => rfl
    | cons m v => exact h.elim
  | cons p rest ih =>
    cases v with
    | nil => exact h.elim
    | cons m v =>
      obtain ⟨-, -, -, h⟩ := h
      exact congrArg (· + 1) (ih h)

/-- The counts of a vector fit a listing where they make up the amount within the availabilities, in no more notes than the limit. -/
theorem fits_map_iff {den avail f : CassId → Nat} {l : List CassId} {amount limit : Nat} :
    fits (l.map fun c => (den c, avail c)) amount limit (l.map f) ↔
      (l.map fun c => f c * den c).sum = amount ∧ (l.map f).sum ≤ limit ∧ ∀ c ∈ l, f c ≤ avail c := by
  induction l generalizing amount limit with
  | nil => simp [fits, eq_comm]
  | cons c l ih =>
    simp only [List.map_cons, fits, ih, List.sum_cons, List.forall_mem_cons]
    constructor
    · rintro ⟨here, few, part, sum, count, rest⟩
      exact ⟨by omega, by omega, here, rest⟩
    · rintro ⟨sum, count, here, rest⟩
      exact ⟨here, by omega, by omega, by omega, by omega, rest⟩

/-! ### Counts in listing order -/

theorem spread_get_of_not_mem {l : List CassId} {v : List Nat} {c : CassId} (h : c ∉ l) : (spread l v).get c = 0 := by
  induction l generalizing v with
  | nil => exact Counts.zero_get c
  | cons d l ih =>
    obtain ⟨other, rest⟩ := not_or.mp (mt List.mem_cons.mpr h)
    cases v with
    | nil => exact Counts.zero_get c
    | cons m v => exact (tabSet_get_other _ _ other).trans (ih rest)

/-- Spread over its listing and read back in listing order, a list of counts is itself. -/
theorem map_spread {l : List CassId} {v : List Nat} (once : l.Nodup) (same : v.length = l.length) : l.map (fun c => (spread l v).get c) = v := by
  induction l generalizing v with
  | nil => exact (List.eq_nil_of_length_eq_zero same).symm
  | cons d l ih =>
    obtain ⟨first, once⟩ := List.nodup_cons.mp once
    cases v with
    | nil => exact absurd same (by simp)
    | cons m v =>
      have rest : l.map (fun c => (tabSet (spread l v) d m).get c) = v := by
        refine (List.map_congr_left fun c hc => tabSet_get_other _ _ ?_).trans (ih once (Nat.succ.inj same))
        rintro rfl
        exact first hc
      exact List.cons_eq_cons.mpr ⟨tabSet_get_same _ _ _, rest⟩

/-- A sum over the cassettes is the sum over a listing without repetition that leaves out nothing but zeros. -/
theorem sum_listing {l : List CassId} {f : CassId → Nat} (once : l.Nodup) (off : ∀ c, c ∉ l → f c = 0) : (l.map f).sum = f 0 + f 1 + f 2 + f 3 := by
  rw [← List.sum_toFinset f once, ← Fin.sum_univ_four]
  exact Finset.sum_subset (Finset.subset_univ _) fun c _ out => off c fun h => out (List.mem_toFinset.mpr h)

/-! ### Admissible vectors (R56) -/

/-- The listing that the search runs over: the usable cassettes with their denominations and availabilities. -/
def Wall.mixStock (w : Wall) : List (Nat × Nat) := w.mixListing.map fun c => (w.denomination c, (w.cassettes.get c).availability)

theorem Wall.mixStock_pos (w : Wall) : ∀ p ∈ w.mixStock, 0 < p.1 := by
  intro p hp
  obtain ⟨c, hc, rfl⟩ := List.mem_map.mp hp
  exact Wall.denomination_pos hc

/-- A vector is admissible where it draws on the usable cassettes alone and its counts in listing order fit. -/
theorem Wall.admissible_iff {w : Wall} {amount limit : Nat} {v : Counts} :
    w.admissible amount limit v ↔ (∀ c, c ∉ w.mixListing → v.get c = 0) ∧ fits w.mixStock amount limit (w.mixListing.map fun c => v.get c) := by
  have bound : (∀ c : CassId, v.get c ≤ if w.usable c then (w.cassettes.get c).availability else 0) ↔
      (∀ c, c ∉ w.mixListing → v.get c = 0) ∧ ∀ c ∈ w.mixListing, v.get c ≤ (w.cassettes.get c).availability := by
    rw [← forall_and]
    refine forall_congr' fun c => ?_
    by_cases usable : w.usable c = true <;> simp [Wall.mem_mixListing, usable]
  have totals : (∀ c, c ∉ w.mixListing → v.get c = 0) →
      (w.mixListing.map fun c => v.get c * w.denomination c).sum = w.valueOf v ∧ (w.mixListing.map fun c => v.get c).sum = Counts.total v := by
    intro off
    exact ⟨sum_listing w.mixListing_nodup fun c hc => by rw [off c hc, Nat.zero_mul], sum_listing w.mixListing_nodup off⟩
  unfold Wall.admissible Wall.mixStock
  rw [bound, fits_map_iff]
  constructor
  · rintro ⟨value, few, off, within⟩
    obtain ⟨sum, count⟩ := totals off
    exact ⟨off, sum.trans value, count.trans_le few, within⟩
  · rintro ⟨off, value, few, within⟩
    obtain ⟨sum, count⟩ := totals off
    exact ⟨sum.symm.trans value, count.symm.trans_le few, off, within⟩

theorem Wall.admissible_spread {w : Wall} {amount limit : Nat} {v : List Nat} (h : fits w.mixStock amount limit v) :
    w.mixListing.map (fun c => (spread w.mixListing v).get c) = v ∧ w.admissible amount limit (spread w.mixListing v) := by
  have back := map_spread w.mixListing_nodup ((fits_length h).trans (List.length_map _))
  exact ⟨back, Wall.admissible_iff.mpr ⟨fun c hc => spread_get_of_not_mem hc, back.symm ▸ h⟩⟩

theorem Wall.chooseMix_eq (w : Wall) (amount limit : Nat) :
    w.chooseMix amount limit = (bestMix w.mixStock amount limit).map (spread w.mixListing) := rfl

/-- The chosen mix is the greatest admissible vector in listing order, and there is none only where no vector is admissible. -/
theorem Wall.chooseMix_greatest (w : Wall) (amount limit : Nat) :
    match w.chooseMix amount limit with
    | some v => w.admissible amount limit v
        ∧ ∀ u, w.admissible amount limit u → lexLe (w.mixListing.map fun c => u.get c) (w.mixListing.map fun c => v.get c)
    | none => ∀ u, ¬ w.admissible amount limit u := by
  have search := bestMix_isGreatest w.mixStock_pos amount limit
  rw [Wall.chooseMix_eq]
  cases e : bestMix w.mixStock amount limit with
  | none =>
    rw [e] at search
    exact fun u hu => search _ (Wall.admissible_iff.mp hu).2
  | some v =>
    rw [e] at search
    obtain ⟨fit, greatest⟩ := search
    obtain ⟨back, admissible⟩ := Wall.admissible_spread fit
    refine ⟨admissible, fun u hu => ?_⟩
    rw [back]
    exact greatest _ (Wall.admissible_iff.mp hu).2

/-- An AMOUNT order that passes the checks before it stands or falls with its mix (R35, R56). -/
theorem Wall.checkDispense_amount {w : Wall} {n : LaneId} {x : Slot} (amount : x.param 0 = 0) (calm : w.lockdown = false)
    (opened : (w.lanes.get n).state = .opened) (path : w.transport.state ≠ .faulted) (room : (w.bins.get rejectBin).full = false)
    (free : (w.lanes.get n).drawer ≠ .jammed) (clear : (w.lanes.get n).leftHolding = false) :
    w.checkDispense n x = if (w.chooseMix (x.param 1) w.noteLimit).isSome then none else some .noMix := by
  have empty : ¬ ((w.lanes.get n).drawer = .holding ∧ (w.lanes.get n).owner = none) := by
    rw [← Lane.leftHolding_iff, clear]
    exact Bool.false_ne_true
  have mix : w.orderMix x = w.chooseMix (x.param 1) w.noteLimit := if_pos amount
  refine (w.checkLane_dispense n x).trans ?_
  cases e : w.chooseMix (x.param 1) w.noteLimit <;> simp [calm, opened, path, room, free, empty, amount, mix, e]

/-- Settles O12. -/
theorem mixIsTheGreatestAdmissible : Obligations.MixIsTheGreatestAdmissible := by
  unfold Obligations.MixIsTheGreatestAdmissible
  exact fun w amount limit =>
    ⟨fun _ => Wall.mem_mixListing, w.mixListing_sorted, w.chooseMix_greatest amount limit, fun _ _ => Wall.checkDispense_amount⟩

end Sys2Proof.Machine
end

section
/-! PROOF. COUNT SET, CASSETTE CLEAR, a removal and an insertion (O26): what the re-mix trigger marks, what a cassette that enters a state changes and posts, and an
order of the service page that is placed, taken and finished at once. -/

namespace Sys2Proof.Machine

/-! ### The re-mix trigger (R58) -/

/-- The lane's DISPENSE owes notes of the cassette, and its end has not begun (R58). -/
def Wall.owes (c : CassId) (n : LaneId) (w : Wall) : Bool :=
  ((w.contextOf n).map fun k => decide (0 < k.outstanding.get c)).getD false && !w.endBegun n

/-- A failed cassette's trigger for one lane. -/
def Wall.triggerLane (c : CassId) (n : LaneId) (w : Wall) : Wall := w.modTally n fun t => { t with remixWait := t.remixWait || w.owes c n }

theorem Wall.triggerRemix_eq (c : CassId) (w : Wall) : w.triggerRemix c = laneIds.foldl (fun w n => w.triggerLane c n) w := by
  unfold Wall.triggerRemix Wall.eachLane
  congr 1
  funext v n
  have unowed (h : v.owes c n = false) : v = v.triggerLane c n := by simp [Wall.triggerLane, h, ← Function.id_def, Wall.modTally_id]
  dsimp only
  split
  · next k context =>
    have owed : (decide (0 < k.outstanding.get c) && !v.endBegun n) = v.owes c n := by simp [Wall.owes, context]
    rw [owed]
    split
    · next yes => simp [Wall.triggerLane, yes]
    · next no => exact unowed (Bool.eq_false_iff.mpr no)
  · next context => exact unowed (by simp [Wall.owes, context])

theorem Wall.triggerLane_tallyOf (c : CassId) (n m : LaneId) (w : Wall) :
    (w.triggerLane c n).tallyOf m = (w.tallyOf m).map fun t => { t with remixWait := t.remixWait || (decide (m = n) && w.owes c m) } := by
  show (tabMod w.engine.tallies n _).get m = _
  rw [tabMod_get]
  split
  · next same => simp [same, Wall.tallyOf]
  · next other => simp [other, Wall.tallyOf]

/-- A trigger for one lane leaves what every lane owes. -/
theorem Wall.triggerLane_owes (c d : CassId) (n m : LaneId) (w : Wall) : (w.triggerLane c n).owes d m = w.owes d m := by
  have context : (w.triggerLane c n).contextOf m = w.contextOf m := rfl
  simp only [Wall.owes, Wall.endBegun, context, Wall.triggerLane_tallyOf, Option.map_map]
  rfl

theorem Wall.foldl_triggerLane_tallyOf (c : CassId) (m : LaneId) (ns : List LaneId) (w : Wall) :
    (ns.foldl (fun w n => w.triggerLane c n) w).tallyOf m =
      (w.tallyOf m).map fun t => { t with remixWait := t.remixWait || (decide (m ∈ ns) && w.owes c m) } := by
  induction ns generalizing w with
  | nil => simp
  | cons n ns ih =>
    rw [List.foldl_cons, ih, Wall.triggerLane_tallyOf, Wall.triggerLane_owes, Option.map_map]
    refine congrArg (Option.map · (w.tallyOf m)) (funext fun t => ?_)
    simp [Bool.or_assoc, Bool.and_or_distrib_right]

/-- Each order that owes notes of the cassette waits for a re-mix unless its end has begun (R58). -/
theorem Wall.triggerRemix_tallyOf (c : CassId) (m : LaneId) (w : Wall) :
    (w.triggerRemix c).tallyOf m = (w.tallyOf m).map fun t => { t with remixWait := t.remixWait || w.owes c m } := by
  simp [Wall.triggerRemix_eq, Wall.foldl_triggerLane_tallyOf, mem_laneIds]

theorem Wall.triggerRemix_frame (c : CassId) (w : Wall) : ∃ ts, w.triggerRemix c = { w with engine := { w.engine with tallies := ts } } := by
  rw [Wall.triggerRemix_eq]
  generalize laneIds = ns
  induction ns generalizing w with
  | nil => exact ⟨_, rfl⟩
  | cons n ns ih =>
    obtain ⟨ts, e⟩ := ih (w.triggerLane c n)
    exact ⟨ts, e⟩

/-! ### News on the board (R53) -/

/-- Two walls show the same board at the same second. -/
structure Wall.SameNews (v w : Wall) : Prop where
  board : v.board = w.board
  lost : v.lost = w.lost
  port : v.port = w.port

theorem Wall.SameNews.post {v w : Wall} (h : v.SameNews w) (k : News) (d : Nat) : (v.post k d).SameNews (w.post k d) := by
  obtain ⟨board, lost⟩ := Wall.post_congr k d h.board h.lost h.port
  refine ⟨board, lost, ?_⟩
  rw [Wall.post_frame, Wall.post_frame k d w]
  exact h.port

theorem Wall.SameNews.triggered {v w : Wall} (h : v.SameNews w) (c : CassId) : (v.triggerRemix c).SameNews w := by
  obtain ⟨ts, e⟩ := v.triggerRemix_frame c
  rw [e]
  exact ⟨h.board, h.lost, h.port⟩

/-- The two walls' boards, in the form in which a statement names the second. -/
theorem Wall.SameNews.shown {v w : Wall} (h : v.SameNews w) : ∀ e, e = w → v.board = e.board ∧ v.lost = e.lost := by
  rintro e rfl
  exact ⟨h.board, h.lost⟩

/-! ### A cassette enters a state (R53) -/

/-- Besides the cassette's state only the board and the tallies can change. -/
theorem Wall.enterCassetteState_frame (c : CassId) (new : CassetteState) (how : Nat) (w : Wall) :
    ∃ b l ts, w.enterCassetteState c new how =
      { w with
          cassettes := tabMod w.cassettes c fun x => { x with state := new }, board := b, lost := l,
          engine := { w.engine with tallies := ts } } := by
  have triggered (k : News) (d : Nat) (v : Wall) :
      ∃ b l ts, (v.post k d).triggerRemix c = { v with board := b, lost := l, engine := { v.engine with tallies := ts } } := by
    obtain ⟨ts, e⟩ := (v.post k d).triggerRemix_frame c
    rw [e, Wall.post_frame]
    exact ⟨_, _, _, rfl⟩
  unfold Wall.enterCassetteState
  dsimp only
  split
  · next same =>
    rw [tabMod_same w.cassettes c _ (by rw [← same])]
    exact ⟨_, _, _, rfl⟩
  · split
    · rw [Wall.post_frame]
      exact ⟨_, _, _, rfl⟩
    · exact triggered ..
    · exact triggered ..
    · exact triggered ..
    · exact ⟨_, _, _, rfl⟩

theorem Wall.enterCassetteState_low {w : Wall} {c : CassId} {how : Nat} (h : (w.cassettes.get c).state ≠ .low) :
    w.enterCassetteState c .low how = (w.modCassette c fun x => { x with state := .low }).post (.cassetteLow c) (w.cassettes.get c).remaining :=
  if_neg h

theorem Wall.enterCassetteState_empty {w : Wall} {c : CassId} {how : Nat} (h : (w.cassettes.get c).state ≠ .empty) :
    w.enterCassetteState c .empty how = ((w.modCassette c fun x => { x with state := .empty }).post (.cassetteEmpty c) how).triggerRemix c :=
  if_neg h

theorem Wall.enterCassetteState_absent {w : Wall} {c : CassId} {how : Nat} (h : (w.cassettes.get c).state ≠ .absent) :
    w.enterCassetteState c .absent how =
      ((w.modCassette c fun x => { x with state := .absent }).post (.cassetteRemoved c) (w.cassettes.get c).remaining).triggerRemix c :=
  if_neg h

theorem Wall.enterCassetteState_inService {w : Wall} {c : CassId} {how : Nat} (h : (w.cassettes.get c).state ≠ .inService) :
    w.enterCassetteState c .inService how = w.modCassette c fun x => { x with state := .inService } :=
  if_neg h

/-- A cassette that the remaining test leaves EMPTY or LOW posts it (R48, R53). -/
theorem Wall.enterCassetteState_tested {v w : Wall} {c : CassId} {remaining low : Nat} (h : w.SameNews v)
    (differs : (w.cassettes.get c).state ≠ testedState remaining low) :
    (w.enterCassetteState c (testedState remaining low) 1).SameNews
      (if remaining = 0 then v.post (.cassetteEmpty c) 1
      else if remaining ≤ low then v.post (.cassetteLow c) (w.cassettes.get c).remaining
      else v) := by
  have entered : ∀ new, (w.modCassette c fun x => { x with state := new }).SameNews v := fun _ => ⟨h.board, h.lost, h.port⟩
  unfold testedState at differs ⊢
  by_cases empty : remaining = 0
  · rw [if_pos empty] at differs ⊢
    rw [if_pos empty, Wall.enterCassetteState_empty differs]
    exact ((entered _).post _ _).triggered c
  · rw [if_neg empty] at differs ⊢
    rw [if_neg empty]
    by_cases few : remaining ≤ low
    · rw [if_pos few] at differs ⊢
      rw [if_pos few, Wall.enterCassetteState_low differs]
      exact (entered _).post _ _
    · rw [if_neg few] at differs ⊢
      rw [if_neg few, Wall.enterCassetteState_inService differs]
      exact entered _

/-- The states of the remaining test are those of a cassette in use (R48). -/
theorem testedState_ne {new : CassetteState} (h : new = .uncounted ∨ new = .suspect) (remaining low : Nat) : new ≠ testedState remaining low := by
  unfold testedState
  split
  · rcases h with rfl | rfl <;> decide
  · split <;> rcases h with rfl | rfl <;> decide

/-! ### An order of the service page that ends at its taking -/

theorem kindOn_servicePage (k : Kind) (h : k.track = .service) : kindOn servicePage (word k.code) = some k := by
  revert h
  cases k <;> decide

theorem Wall.posted_kindAt_service (x : SlotId) (k : Kind) (tag : Word) (params : List Word) (w : Wall) (h : k.track = .service) :
    (w.posted servicePage x k tag params).kindAt servicePage x = some k := by
  rw [Wall.kindAt, Wall.posted_slot]
  exact kindOn_servicePage k h

/-- The parameters of an order just placed are those given, and 0 after them (R34). -/
theorem Wall.posted_param (p : PageId) (x : SlotId) (k : Kind) (tag : Word) (params : List Word) (w : Wall) {i : Nat} (h : i < 12) :
    ((w.posted p x k tag params).slot p x).param i = (params.getD i 0#16).toNat := by
  rw [Wall.posted_slot]
  have inBody : 2 + i < 14 := by omega
  simp [Slot.param, orderBody, List.getD_eq_getElem?_getD, Nat.add_comm 2 i, Nat.add_comm 2 i ▸ inBody]

theorem Wall.posted_param_cass (x : SlotId) (k : Kind) (tag : Word) (c : CassId) (params : List Word) (w : Wall) :
    ((w.posted servicePage x k tag (word c.val :: params)).slot servicePage x).param 0 = c.val := by
  rw [Wall.posted_param _ _ _ _ _ _ (by decide)]
  exact Nat.mod_eq_of_lt (c.isLt.trans (by decide))

/-- What an accepted order of the service page does at its taking (R30). -/
theorem Wall.take_service {w : Wall} {x : SlotId} {k : Kind} (hk : w.kindAt servicePage x = some k) (hr : w.refusal servicePage x = none) :
    w.take servicePage x = w.acceptService x k (w.slot servicePage x) := by
  simp only [Wall.take, hr, hk, laneOf_servicePage]

/-- The end of a service order changes the pages and the flags alone. -/
theorem Wall.finish_service_frame (x : SlotId) (e : OrderEnd) (fields : List Word) (w : Wall) :
    w.finish servicePage x e fields =
      { w with pages := (w.finish servicePage x e fields).pages, flags := (w.finish servicePage x e fields).flags } := by
  have lanes : (w.finish servicePage x e fields).lanes = w.lanes := Wall.finishAt_service _ x e fields w
  rw [Wall.finish_frame, lanes]

/-- An order just placed that finishes on a wall with its page and its clock. -/
theorem Wall.finishedWith_posted {w v : Wall} {x : SlotId} {k : Kind} {tag : Word} {params : List Word} (e : OrderEnd) (fields : List Word)
    (pages : v.pages = (w.posted servicePage x k tag params).pages) (port : v.port = w.port) :
    w.finishedWith (v.finish servicePage x e fields) servicePage x e fields := by
  have slot := (Wall.slot_congr pages servicePage x).trans (Wall.posted_slot servicePage x k tag params w)
  constructor
  · rw [Wall.finish_slot]
  · rw [Wall.finish_slot, slot, port]

/-! ### COUNT SET and CASSETTE CLEAR (R62, R63) -/

theorem Wall.posted_news (p : PageId) (x : SlotId) (k : Kind) (tag : Word) (params : List Word) (w : Wall) :
    (w.posted p x k tag params).SameNews w := ⟨rfl, rfl, rfl⟩

/-- A COUNT SET that passes its checks is accepted (R34, R39, R62). -/
theorem Wall.take_countSet {w : Wall} {x : SlotId} {tag loaded : Word} {c : CassId} (few : loaded.toNat ≤ 3000)
    (fresh : (w.cassettes.get c).state = .uncounted) :
    (w.posted servicePage x .countSet tag [word c.val, loaded]).take servicePage x =
      (w.posted servicePage x .countSet tag [word c.val, loaded]).acceptCountSet x c loaded.toNat := by
  have kind := Wall.posted_kindAt_service x .countSet tag [word c.val, loaded] w rfl
  have names := Wall.posted_param_cass x .countSet tag c [loaded] w
  have count := Wall.posted_param servicePage x .countSet tag [word c.val, loaded] w (i := 1) (by decide)
  obtain ⟨formed, -⟩ := Wall.wellFormed_below (w.posted servicePage x .countSet tag [word c.val, loaded])
    ((w.posted servicePage x .countSet tag [word c.val, loaded]).slot servicePage x)
  have accepted : (w.posted servicePage x .countSet tag [word c.val, loaded]).refusal servicePage x = none := by
    have small : c.val ≤ 3 := Nat.le_of_lt_succ c.isLt
    rw [Wall.refusal_service kind (formed.mpr ⟨names.trans_le small, count.trans_le few⟩), Wall.checkService_countSet _ names]
    have state : ((w.posted servicePage x .countSet tag [word c.val, loaded]).cassettes.get c).state = .uncounted := fresh
    simp [state]
  rw [Wall.take_service kind accepted, Wall.acceptService, Slot.target4_eq names, count]
  rfl

/-- A CASSETTE CLEAR has no check to fail (R39, R63). -/
theorem Wall.take_cassetteClear {w : Wall} {x : SlotId} {tag : Word} {c : CassId} :
    (w.posted servicePage x .cassetteClear tag [word c.val]).take servicePage x =
      (w.posted servicePage x .cassetteClear tag [word c.val]).acceptCassetteClear x c := by
  have kind := Wall.posted_kindAt_service x .cassetteClear tag [word c.val] w rfl
  have names := Wall.posted_param_cass x .cassetteClear tag c [] w
  obtain ⟨-, formed, -⟩ := Wall.wellFormed_below (w.posted servicePage x .cassetteClear tag [word c.val])
    ((w.posted servicePage x .cassetteClear tag [word c.val]).slot servicePage x)
  have accepted : (w.posted servicePage x .cassetteClear tag [word c.val]).refusal servicePage x = none := by
    have small : c.val ≤ 3 := Nat.le_of_lt_succ c.isLt
    rw [Wall.refusal_service kind (formed.mpr (names.trans_le small))]
    rfl
  rw [Wall.take_service kind accepted, Wall.acceptService, Slot.target4_eq names]

/-- Between two walls an order of the service page for one cassette was placed and finished, and left the cassette's record as given (R62, R63). -/
structure Wall.CassetteOrder (w t : Wall) (x : SlotId) (c : CassId) (r : Cassette) : Prop where
  record : t.cassettes.get c = r
  others : ∀ d, d ≠ c → t.cassettes.get d = w.cassettes.get d
  ended : w.finishedWith t servicePage x .done [word r.state.code, word r.remaining]
  lanes : t.lanes = w.lanes
  bins : t.bins = w.bins
  profile : t.profile = w.profile

/-- An order just placed finishes with its cassette's state and remaining count where no other block has changed but the board and the engine. -/
theorem Wall.finish_cassetteOrder {w v : Wall} {x : SlotId} {k : Kind} {tag : Word} {params : List Word} {c : CassId}
    {cs : Vector Cassette 4} {b : Vector Entry 48} {l : Nat} {e : Engine}
    (frame : v = { w.posted servicePage x k tag params with cassettes := cs, board := b, lost := l, engine := e })
    (others : ∀ d, d ≠ c → cs.get d = w.cassettes.get d) :
    w.CassetteOrder (v.finish servicePage x .done (v.cassetteResult c)) x c (cs.get c) := by
  have ended := Wall.finishedWith_posted (w := w) (v := v) (x := x) (k := k) (tag := tag) (params := params) .done (v.cassetteResult c)
    (by rw [frame]) (by rw [frame]; rfl)
  rw [Wall.finish_service_frame] at ended ⊢
  subst frame
  exact ⟨rfl, others, ended, rfl, rfl, rfl⟩

/-- So does an order that restarts or clears the cassette's counts first and then gives it a state. -/
theorem Wall.finish_entered {w : Wall} {x : SlotId} {k : Kind} {tag : Word} {params : List Word} {c : CassId} (f : Cassette → Cassette)
    (new : CassetteState) :
    w.CassetteOrder
      ((((w.posted servicePage x k tag params).modCassette c f).enterCassetteState c new 1).finish servicePage x .done
        ((((w.posted servicePage x k tag params).modCassette c f).enterCassetteState c new 1).cassetteResult c)) x c
      { f (w.cassettes.get c) with state := new } := by
  obtain ⟨b, l, ts, frame⟩ := Wall.enterCassetteState_frame c new 1 ((w.posted servicePage x k tag params).modCassette c f)
  have order := Wall.finish_cassetteOrder (c := c) frame fun d other => (tabMod_get_other _ _ other).trans (tabMod_get_other _ _ other)
  rw [tabMod_get_same, Wall.modCassette_cassettes, tabMod_get_same] at order
  exact order

theorem Wall.finish_service_news {v w : Wall} (h : v.SameNews w) (x : SlotId) (e : OrderEnd) (fields : List Word) :
    (v.finish servicePage x e fields).SameNews w := by
  rw [Wall.finish_service_frame]
  exact ⟨h.board, h.lost, h.port⟩

/-- A COUNT SET leaves the cassette with a fresh record and the state its count gives (R62). -/
theorem Wall.acceptCountSet_order (w : Wall) (x : SlotId) (tag : Word) (params : List Word) (c : CassId) (loaded : Nat) :
    w.CassetteOrder ((w.posted servicePage x .countSet tag params).acceptCountSet x c loaded) x c
      { Cassette.restart (w.noteThickness c) loaded (w.cassettes.get c) with state := testedState loaded (w.lowThreshold c) } :=
  Wall.finish_entered (Cassette.restart (w.noteThickness c) loaded) (testedState loaded (w.lowThreshold c))

theorem Wall.acceptCountSet_news {w : Wall} {x : SlotId} {tag : Word} {params : List Word} {c : CassId} {loaded : Nat}
    (fresh : (w.cassettes.get c).state = .uncounted) :
    ((w.posted servicePage x .countSet tag params).acceptCountSet x c loaded).SameNews
      (if loaded = 0 then w.post (.cassetteEmpty c) 1
      else if loaded ≤ w.lowThreshold c then w.post (.cassetteLow c) loaded
      else w) := by
  have record : ((w.posted servicePage x .countSet tag params).modCassette c (Cassette.restart (w.noteThickness c) loaded)).cassettes.get c =
      Cassette.restart (w.noteThickness c) loaded (w.cassettes.get c) := tabMod_get_same _ _ _
  have news : ((w.posted servicePage x .countSet tag params).modCassette c (Cassette.restart (w.noteThickness c) loaded)).SameNews w := ⟨rfl, rfl, rfl⟩
  have entered := Wall.enterCassetteState_tested (c := c) (remaining := loaded) (low := w.lowThreshold c) news
    (by rw [record]; exact testedState_ne (.inl fresh) _ _)
  rw [record] at entered
  exact Wall.finish_service_news entered x .done _

/-- What a CASSETTE CLEAR leaves of a cassette's record (R63). -/
def Cassette.cleared (low : Nat) (r : Cassette) : Cassette :=
  if r.state = .suspect then { r with rejects := 0, state := testedState r.remaining low } else r

theorem Wall.acceptCassetteClear_suspect {w : Wall} {x : SlotId} {c : CassId} (h : (w.cassettes.get c).state = .suspect) :
    w.acceptCassetteClear x c =
      (((w.modCassette c fun r => { r with rejects := 0 }).enterCassetteState c
          (testedState (w.cassettes.get c).remaining (w.lowThreshold c)) 1).finish servicePage x .done
        (((w.modCassette c fun r => { r with rejects := 0 }).enterCassetteState c
          (testedState (w.cassettes.get c).remaining (w.lowThreshold c)) 1).cassetteResult c)) := by
  simp only [Wall.acceptCassetteClear, h, if_true]

theorem Wall.acceptCassetteClear_idle {w : Wall} {x : SlotId} {c : CassId} (h : (w.cassettes.get c).state ≠ .suspect) :
    w.acceptCassetteClear x c = w.finish servicePage x .done (w.cassetteResult c) := by
  simp only [Wall.acceptCassetteClear, h, if_false]

theorem Wall.acceptCassetteClear_order (w : Wall) (x : SlotId) (tag : Word) (params : List Word) (c : CassId) :
    w.CassetteOrder ((w.posted servicePage x .cassetteClear tag params).acceptCassetteClear x c) x c
      ((w.cassettes.get c).cleared (w.lowThreshold c)) := by
  unfold Cassette.cleared
  split
  · next suspect =>
    rw [Wall.acceptCassetteClear_suspect (w := w.posted servicePage x .cassetteClear tag params) suspect]
    exact Wall.finish_entered (fun r => { r with rejects := 0 }) _
  · next other =>
    rw [Wall.acceptCassetteClear_idle (w := w.posted servicePage x .cassetteClear tag params) other]
    exact Wall.finish_cassetteOrder rfl fun _ _ => rfl

theorem Wall.acceptCassetteClear_news (w : Wall) (x : SlotId) (tag : Word) (params : List Word) (c : CassId) :
    ((w.posted servicePage x .cassetteClear tag params).acceptCassetteClear x c).SameNews
      (if (w.cassettes.get c).state ≠ .suspect then w
      else if (w.cassettes.get c).remaining = 0 then w.post (.cassetteEmpty c) 1
      else if (w.cassettes.get c).remaining ≤ w.lowThreshold c then w.post (.cassetteLow c) (w.cassettes.get c).remaining
      else w) := by
  split
  · next other =>
    rw [Wall.acceptCassetteClear_idle (w := w.posted servicePage x .cassetteClear tag params) other]
    exact Wall.finish_service_news (w.posted_news ..) x .done _
  · next clear =>
    have suspect := not_not.mp clear
    have record : ((w.posted servicePage x .cassetteClear tag params).modCassette c fun r => { r with rejects := 0 }).cassettes.get c =
        { w.cassettes.get c with rejects := 0 } := tabMod_get_same _ _ _
    have news : ((w.posted servicePage x .cassetteClear tag params).modCassette c fun r => { r with rejects := 0 }).SameNews w := ⟨rfl, rfl, rfl⟩
    have entered := Wall.enterCassetteState_tested (c := c) (remaining := (w.cassettes.get c).remaining) (low := w.lowThreshold c) news
      (by rw [record]; exact testedState_ne (.inr suspect) _ _)
    rw [record] at entered
    rw [Wall.acceptCassetteClear_suspect (w := w.posted servicePage x .cassetteClear tag params) suspect]
    exact Wall.finish_service_news entered x .done _

/-! ### Removal and insertion (R49, R50) -/

theorem Wall.removeCassette_present {w : Wall} {c : CassId} (h : (w.cassettes.get c).present = true) :
    w.removeCassette c = (w.modCassette c fun r => { r with present := false }).enterCassetteState c .absent 0 := if_pos h

theorem Wall.removeCassette_absent {w : Wall} {c : CassId} (h : (w.cassettes.get c).present = false) : w.removeCassette c = w :=
  if_neg (Bool.eq_false_iff.mp h)

theorem Wall.insertCassette_present {w : Wall} {c : CassId} (h : (w.cassettes.get c).present = true) : w.insertCassette c = w := if_pos h

theorem Wall.insertCassette_absent {w : Wall} {c : CassId} (h : (w.cassettes.get c).present = false) :
    w.insertCassette c =
      w.modCassette c fun r => { (Cassette.restart (w.noteThickness c) 0 r) with state := .uncounted, present := true } :=
  if_neg (Bool.eq_false_iff.mp h)

/-- A removal leaves the cassette ABSENT, and of the rest changes the board and the tallies at most. -/
theorem Wall.removeCassette_frame {w : Wall} {c : CassId} (h : (w.cassettes.get c).present = true) :
    ∃ b l ts, w.removeCassette c =
      { w with
          cassettes := tabMod w.cassettes c fun r => { r with present := false, state := .absent }, board := b, lost := l,
          engine := { w.engine with tallies := ts } } := by
  rw [Wall.removeCassette_present h]
  obtain ⟨b, l, ts, frame⟩ := Wall.enterCassetteState_frame c .absent 0 (w.modCassette c fun r => { r with present := false })
  rw [Wall.modCassette_cassettes, tabMod_tabMod] at frame
  exact ⟨b, l, ts, frame⟩

/-- A cassette that is not ABSENT posts its removal and triggers re-mixes (R49, R53, R58). -/
theorem Wall.removeCassette_eq {w : Wall} {c : CassId} (h : (w.cassettes.get c).present = true) (there : (w.cassettes.get c).state ≠ .absent) :
    w.removeCassette c =
      ((w.modCassette c fun r => { r with present := false, state := .absent }).post (.cassetteRemoved c)
        (w.cassettes.get c).remaining).triggerRemix c := by
  have record : (w.modCassette c fun r => { r with present := false }).cassettes.get c = { w.cassettes.get c with present := false } :=
    tabMod_get_same _ _ _
  have merged : (w.modCassette c fun r => { r with present := false }).modCassette c (fun r => { r with state := .absent }) =
      w.modCassette c fun r => { r with present := false, state := .absent } := by
    rw [Wall.modCassette, Wall.modCassette_cassettes, tabMod_tabMod]
    rfl
  rw [Wall.removeCassette_present h, Wall.enterCassetteState_absent (by rw [record]; exact there), record, merged]
  rfl

theorem Wall.removeCassette_news {w : Wall} {c : CassId} (h : (w.cassettes.get c).present = true) (there : (w.cassettes.get c).state ≠ .absent) :
    (w.removeCassette c).SameNews (w.post (.cassetteRemoved c) (w.cassettes.get c).remaining) := by
  rw [Wall.removeCassette_eq h there]
  have gone : (w.modCassette c fun r => { r with present := false, state := .absent }).SameNews w := ⟨rfl, rfl, rfl⟩
  exact (gone.post _ _).triggered c

theorem Wall.removeCassette_tallyOf {w : Wall} {c : CassId} {n : LaneId} {k : DispenseContext} {ty : Tally}
    (h : (w.cassettes.get c).present = true) (there : (w.cassettes.get c).state ≠ .absent) (context : w.contextOf n = some k)
    (tally : w.tallyOf n = some ty) :
    (w.removeCassette c).tallyOf n =
      some { ty with remixWait := ty.remixWait || (decide (0 < k.outstanding.get c) && !w.endBegun n) } := by
  have owed : w.owes c n = (decide (0 < k.outstanding.get c) && !w.endBegun n) := by simp [Wall.owes, context]
  rw [Wall.removeCassette_eq h there, Wall.triggerRemix_tallyOf, Wall.post_frame, ← owed]
  exact congrArg (Option.map _) tally

/-! ### The statement -/

theorem toNat_eq_zero_iff (k : Word) : k.toNat = 0 ↔ k = 0#16 := BitVec.toNat_inj (y := 0#16)

/-- Settles O26. -/
theorem cassetteCommands : Obligations.CassetteCommands := by
  unfold Obligations.CassetteCommands
  intro s x tag loaded c on
  refine ⟨fun takes few fresh => ?_, fun takes => ?_, fun present => ?_, fun present => ?_, fun absent => ?_, fun absent => ?_⟩
  · have answer := State.place_takes on (Wall.takesNow_iff.mp takes) tag [word c.val, loaded] (Wall.posted_kindAt_service x .countSet tag _ _ rfl) rfl
    refine ⟨_, rfl, answer, ?_⟩
    dsimp only
    rw [Wall.take_countSet few fresh]
    obtain ⟨record, others, ⟨state, result⟩, lanes, bins, profile⟩ := s.wall.acceptCountSet_order x tag [word c.val, loaded] c loaded.toNat
    have news := (Wall.acceptCountSet_news (x := x) (tag := tag) (params := [word c.val, loaded]) (loaded := loaded.toNat) fresh).shown
    simp only [toNat_eq_zero_iff] at news
    refine ⟨record, others, state, result.trans ?_, news, lanes, bins, profile⟩
    have count : word loaded.toNat = loaded := BitVec.ofNat_toNat 16 loaded
    exact congrArg (fun k => resultWords _ _ _ [_, k]) count
  · have answer := State.place_takes on (Wall.takesNow_iff.mp takes) tag [word c.val] (Wall.posted_kindAt_service x .cassetteClear tag _ _ rfl) rfl
    refine ⟨_, rfl, answer, ?_⟩
    dsimp only
    rw [Wall.take_cassetteClear]
    obtain ⟨record, others, ended, lanes, bins, -⟩ := s.wall.acceptCassetteClear_order x tag [word c.val] c
    have kept : ((s.wall.cassettes.get c).cleared (s.wall.lowThreshold c)).remaining = (s.wall.cassettes.get c).remaining := by
      unfold Cassette.cleared
      split <;> rfl
    rw [kept, ← record] at ended
    exact ⟨record, others, (s.wall.acceptCassetteClear_news x tag [word c.val] c).shown, ended, lanes, bins⟩
  · obtain ⟨b, l, ts, frame⟩ := Wall.removeCassette_frame present
    refine ⟨_, State.onWall_next _ on, ?_, fun d other => ?_, ?_, ?_, fun there => ⟨(Wall.removeCassette_news present there).shown, ?_⟩⟩
    · simp only [frame]
      exact tabMod_get_same _ _ _
    · simp only [frame]
      exact tabMod_get_other _ _ other
    · simp only [frame]
    · simp only [frame]
    · exact fun n k ty => Wall.removeCassette_tallyOf present there
  · exact State.onWall_idle (Wall.insertCassette_present present)
  · exact State.onWall_idle (Wall.removeCassette_absent absent)
  · exact State.onWall_eq on (Wall.insertCassette_absent absent)

end Sys2Proof.Machine
end

section
/-! SUPPORT. What the law of R78 speaks of, the reference thicknesses and the active profile, and the operations that leave both as they are: all but the
learning of an accepted single, a COUNT SET, an insertion, a load and power-on. One lemma per operation, in the order of the model's files. -/

namespace Sys2Proof.Machine

/-- The reference thickness of each cassette, and the active profile, which names the nominal ones (R71, R78). -/
def Wall.references (w : Wall) : (CassId → Nat) × Vector Word 64 := (fun c => (w.cassettes.get c).tr, w.profile.active)

namespace Wall
variable {w : Wall} {n : LaneId} {c : CassId} {k : BinId} {p : PageId} {x : SlotId} {q : PointId} {z : ZoneId}

@[simp] theorem references_ite (b : Prop) [Decidable b] (v w : Wall) :
    (if b then v else w).references = if b then v.references else w.references := apply_ite references b v w

theorem references_foldl {α : Type} {f : Wall → α → Wall} (h : ∀ w a, (f w a).references = w.references) (l : List α) (w : Wall) :
    (l.foldl f w).references = w.references := by
  induction l generalizing w with
  | nil => rfl
  | cons a l ih => exact (ih (f w a)).trans (h w a)

theorem references_eachLane {f : LaneId → Wall → Wall} (h : ∀ n w, (f n w).references = w.references) (w : Wall) :
    (w.eachLane f).references = w.references := references_foldl (fun w n => h n w) laneIds w

/-! ### Changing one record (Ops) -/

@[simp] theorem references_modLane {f : Lane → Lane} : (w.modLane n f).references = w.references := rfl
@[simp] theorem references_modPocket {f : Pocket → Pocket} : (w.modPocket n f).references = w.references := rfl
@[simp] theorem references_modBundle {f : BundleRecord → BundleRecord} : (w.modBundle n f).references = w.references := rfl
@[simp] theorem references_modGate {f : Gate → Gate} : (w.modGate f).references = w.references := rfl
@[simp] theorem references_modTransport {f : Transport → Transport} : (w.modTransport f).references = w.references := rfl
@[simp] theorem references_modEngine {f : Engine → Engine} : (w.modEngine f).references = w.references := rfl
@[simp] theorem references_modConveyor {f : Conveyor → Conveyor} : (w.modConveyor f).references = w.references := rfl
@[simp] theorem references_modBin {f : Bin → Bin} : (w.modBin k f).references = w.references := rfl
@[simp] theorem references_modPoint {f : Point → Point} : (w.modPoint q f).references = w.references := rfl
@[simp] theorem references_modZone {f : Zone → Zone} : (w.modZone z f).references = w.references := rfl
@[simp] theorem references_modAlarm {f : AlarmStatus → AlarmStatus} : (w.modAlarm f).references = w.references := rfl
@[simp] theorem references_modPort {f : Port → Port} : (w.modPort f).references = w.references := rfl
@[simp] theorem references_modPage {f : Page → Page} : (w.modPage p f).references = w.references := rfl
@[simp] theorem references_modSlot {f : Slot → Slot} : (w.modSlot p x f).references = w.references := rfl
@[simp] theorem references_modTally {f : Tally → Tally} : (w.modTally n f).references = w.references := rfl
@[simp] theorem references_modFlag {i : Fin 16} {f : Word → Word} : (w.modFlag i f).references = w.references := rfl

theorem references_modProfile {f : ProfileStore → ProfileStore} (h : (f w.profile).active = w.profile.active) :
    (w.modProfile f).references = w.references := Prod.ext rfl h

theorem references_modCassette {f : Cassette → Cassette} (h : ∀ r, (f r).tr = r.tr) : (w.modCassette c f).references = w.references := by
  refine Prod.ext (funext fun d => ?_) rfl
  simp only [references, modCassette_cassettes, tabMod_get]
  split
  · exact h _
  · rfl

/-! ### The board, the ends of orders, the bins (Ops) -/

@[simp] theorem references_post {news : News} {d : Nat} : (w.post news d).references = w.references := by rw [post_frame]; rfl

@[simp] theorem references_slip {a : Nat} : (w.slip a).references = w.references := by simp [slip]

@[simp] theorem references_answerCancel : (w.answerCancel p x).references = w.references := rfl

@[simp] theorem references_closeSlotAt {t : DWord} {st : SlotState} {e : OrderEnd} {l : List Word} :
    (w.closeSlotAt t p x st e l).references = w.references := by simp [closeSlotAt]

@[simp] theorem references_closeSlot {st : SlotState} {e : OrderEnd} {l : List Word} :
    (w.closeSlot p x st e l).references = w.references := references_closeSlotAt

@[simp] theorem references_leaveDrawer : (w.leaveDrawer n x).references = w.references := rfl

@[simp] theorem references_finishAt {t : DWord} {e : OrderEnd} {l : List Word} : (w.finishAt t p x e l).references = w.references := by
  unfold finishAt
  split <;> simp

@[simp] theorem references_finish {e : OrderEnd} {l : List Word} : (w.finish p x e l).references = w.references := references_finishAt

@[simp] theorem references_refuse {e : OrderEnd} : (w.refuse p x e).references = w.references := references_closeSlot

@[simp] theorem references_startWork : (w.startWork p x).references = w.references := rfl

@[simp] theorem references_refuseCancel : (w.refuseCancel p x).references = w.references := rfl

@[simp] theorem references_refreshBin : (w.refreshBin k).references = w.references := by simp [refreshBin]

@[simp] theorem references_creditBin {i : Nat} : (w.creditBin k i).references = w.references := by simp [creditBin]

@[simp] theorem references_creditEnvelope : w.creditEnvelope.references = w.references := references_creditBin

/-! ### The contexts and the cassettes (Cassettes) -/

@[simp] theorem references_modContext {f : DispenseContext → DispenseContext} : (w.modContext n f).references = w.references := by
  unfold modContext
  split
  · rfl
  · split <;> simp

@[simp] theorem references_writeBack : w.writeBack.references = w.references := by
  unfold writeBack
  split <;> simp

@[simp] theorem references_reserve {v : Counts} : (w.reserve v).references = w.references := by simp [references, reserve]

@[simp] theorem references_unreserve {v : Counts} : (w.unreserve v).references = w.references := by simp [references, unreserve]

@[simp] theorem references_releaseOutstanding : (w.releaseOutstanding n).references = w.references := by
  unfold releaseOutstanding
  split <;> simp

@[simp] theorem references_triggerRemix : (w.triggerRemix c).references = w.references :=
  references_eachLane (fun n w => by split <;> simp) w

@[simp] theorem references_enterCassetteState {st : CassetteState} {how : Nat} :
    (w.enterCassetteState c st how).references = w.references := by
  have moved : (w.modCassette c fun r => { r with state := st }).references = w.references := references_modCassette fun _ => rfl
  unfold enterCassetteState
  cases st <;> simp [moved]

@[simp] theorem references_remainingTest : (w.remainingTest c).references = w.references := by simp [remainingTest]

@[simp] theorem references_recordPassage {cls : PieceClass} {e : Nat} : (w.recordPassage c cls e).references = w.references := by
  simp [recordPassage, references_modCassette, Cassette.doubtTest]

@[simp] theorem references_recordMiss : (w.recordMiss c).references = w.references := by simp [recordMiss, references_modCassette]

/-! ### The engine and the transport (Transport) -/

@[simp] theorem references_finishDispenseAt {d : Decision} {b : Bool} : (w.finishDispenseAt d n b).references = w.references := by
  unfold finishDispenseAt
  split <;> simp

@[simp] theorem references_finishDispense {b : Bool} : (w.finishDispense n b).references = w.references := references_finishDispenseAt

@[simp] theorem references_gatePrepare : w.gatePrepare.references = w.references := rfl

@[simp] theorem references_dropRequest {r : RequestKind} : (w.dropRequest n r).references = w.references := rfl

@[simp] theorem references_grantRetract {d : Destination} : (w.grantRetract n d).references = w.references := rfl

@[simp] theorem references_grantBundle : (w.grantBundle n).references = w.references := by
  unfold grantBundle
  dsimp only
  split
  · simp
  · split <;> simp

@[simp] theorem references_tryRetracts (l : List Request) : ∀ w, (tryRetracts l w).1.references = w.references := by
  induction l with
  | nil => exact fun _ => rfl
  | cons r rest ih =>
    intro w
    unfold tryRetracts
    split
    · exact ih w
    · split <;> simp [ih]

@[simp] theorem references_transportGrant : w.transportGrant.references = w.references := by
  unfold transportGrant
  dsimp only
  split
  · split
    · simp
    · split <;> simp
  · rfl

@[simp] theorem references_endTenure : w.endTenure.references = w.references := by simp [endTenure]

@[simp] theorem references_queueBundle : (w.queueBundle n).references = w.references := by simp [queueBundle]

@[simp] theorem references_requestBundle : (w.requestBundle n).references = w.references := by simp [requestBundle]

@[simp] theorem references_postForeign {i : Nat} : (w.postForeign n i).references = w.references := by simp [postForeign]

@[simp] theorem references_reportRetract {b : Bool} : (w.reportRetract n b).references = w.references := by
  unfold reportRetract
  dsimp only
  split
  · simp
  · split <;> simp

@[simp] theorem references_dropRetract {e : OrderEnd} : (w.dropRetract n e).references = w.references := by
  unfold dropRetract
  dsimp only
  split
  · simp
  · split <;> simp

@[simp] theorem references_queueRetract : (w.queueRetract n).references = w.references := rfl

@[simp] theorem references_requestRetract : (w.requestRetract n).references = w.references := by simp [requestRetract]

@[simp] theorem references_endEmpty : (w.endEmpty n).references = w.references := by simp [endEmpty]

@[simp] theorem references_checkEnding : w.checkEnding.references = w.references := by
  unfold checkEnding
  split
  · split <;> simp
  · rfl

@[simp] theorem references_beginEnd {e : EndCause} : (w.beginEnd n e).references = w.references := by
  unfold beginEnd
  dsimp only
  split <;> simp

@[simp] theorem references_creditExit {s : Source} {e : Nat} {r : Route} : (w.creditExit s e r).references = w.references := by
  cases r with
  | stacker =>
    cases s with
    | cassette c =>
      dsimp only [creditExit]
      split <;> rfl
    | _ => rfl
  | _ => cases s <;> simp [creditExit]

@[simp] theorem references_dumpStacker : w.dumpStacker.references = w.references := by simp [dumpStacker]

@[simp] theorem references_startClearance : w.startClearance.references = w.references := rfl

/-! ### The note gate (Gate), but for the settlement -/

@[simp] theorem references_acceptSingle : (w.acceptSingle c).references = w.references := by
  unfold acceptSingle
  split
  · split
    · rfl
    · extract_lets one w1 w2
      have routed : w2.references = w.references := by
        rw [references_modEngine, references_modContext]
        exact references_modCassette fun _ => rfl
      rw [references_ite, references_modGate, ite_self, routed]
  · rfl

@[simp] theorem references_countReject {m : Measure} : (w.countReject m).references = w.references := by
  unfold countReject
  split
  · dsimp only
    split
    · simp
    · split <;> simp
  · rfl

@[simp] theorem references_reportSettled {s : Passage} {m : Measure} : (w.reportSettled s m).references = w.references := by simp [reportSettled]

@[simp] theorem references_restartSilence : w.restartSilence.references = w.references := by simp [restartSilence]

@[simp] theorem references_gateLeading : w.gateLeading.references = w.references := by simp [gateLeading]

@[simp] theorem references_declareMiss : w.declareMiss.references = w.references := by
  unfold declareMiss
  split <;> simp

end Wall
end Sys2Proof.Machine
end

section
/-! SUPPORT. The references of R78 through the lanes, the alarm, the note path, the conveyor, hold, the taking of orders and the cancels. -/

namespace Sys2Proof.Machine
namespace Wall
variable {w : Wall} {n : LaneId} {c : CassId} {k : BinId} {p : PageId} {x : SlotId} {q : PointId} {z : ZoneId}

/-! ### The lanes and the pockets (Drawers) -/

@[simp] theorem references_startOpen : (w.startOpen n).references = w.references := rfl

@[simp] theorem references_startClose {e : CloseCause} : (w.startClose n e).references = w.references := rfl

@[simp] theorem references_startLift {t : Travel} : (w.startLift n t).references = w.references := rfl

@[simp] theorem references_closeByOwner {e : CloseCause} : (w.closeByOwner n e).references = w.references := by
  unfold closeByOwner
  split <;> rfl

@[simp] theorem references_closeByLockdown : (w.closeByLockdown n).references = w.references := by simp [closeByLockdown]

@[simp] theorem references_pocketHeld : (w.pocketHeld n).references = w.references := rfl

@[simp] theorem references_pocketEmpty : (w.pocketEmpty n).references = w.references := rfl

@[simp] theorem references_pocketMove {st : PocketState} {o : Option SlotId} : (w.pocketMove n st o).references = w.references := rfl

@[simp] theorem references_joinQueue : (w.joinQueue n).references = w.references := rfl

@[simp] theorem references_leaveQueue : (w.leaveQueue n).references = w.references := rfl

@[simp] theorem references_strandPocket {d : Nat} : (w.strandPocket n d).references = w.references := references_post

@[simp] theorem references_reloadStranded : w.reloadStranded.references = w.references := references_eachLane (fun n w => by simp) w

@[simp] theorem references_dispenseCycleEnd {r : CycleResult} : (w.dispenseCycleEnd n r).references = w.references := by
  unfold dispenseCycleEnd
  split <;> simp

@[simp] theorem references_returnCycleEnd {r : CycleResult} : (w.returnCycleEnd n x r).references = w.references := by simp [returnCycleEnd]

@[simp] theorem references_depositCycleEnd {r : CycleResult} : (w.depositCycleEnd n x r).references = w.references := by
  simp [depositCycleEnd]

@[simp] theorem references_cycleEnd {r : CycleResult} : (w.cycleEnd n r).references = w.references := by
  unfold cycleEnd
  dsimp only
  split
  · rfl
  · split <;> simp

@[simp] theorem references_startTake : (w.startTake n).references = w.references := by simp [startTake]

@[simp] theorem references_startDeposit : (w.startDeposit n).references = w.references := rfl

@[simp] theorem references_pocketFromSensor : (w.pocketFromSensor n).references = w.references := by simp [pocketFromSensor]

@[simp] theorem references_jamOwner {l : Lane} : (w.jamOwner n x l).references = w.references := by
  unfold jamOwner
  dsimp only
  split <;> simp

@[simp] theorem references_jamWaiter : (w.jamWaiter n x).references = w.references := by
  unfold jamWaiter
  split <;> simp

@[simp] theorem references_enterJam {d : Nat} : (w.enterJam n d).references = w.references := by
  have waiters := fun v => references_foldl (f := fun w y => w.jamWaiter n y) (fun _ _ => references_jamWaiter) (w.lanes.get n).waiting v
  unfold enterJam
  dsimp only
  split <;> simp [waiters]

@[simp] theorem references_jamDrawer : (w.jamDrawer n).references = w.references := by
  unfold jamDrawer
  dsimp only
  split <;> simp

@[simp] theorem references_obstruct : (w.obstruct n).references = w.references := by simp [obstruct]

@[simp] theorem references_arriveExtended : (w.arriveExtended n).references = w.references := by
  unfold arriveExtended
  dsimp only
  split <;> rfl

@[simp] theorem references_arriveStowed : (w.arriveStowed n).references = w.references := by
  unfold arriveStowed
  dsimp only
  split
  · simp
  · split <;> simp

@[simp] theorem references_grantDrawer : (w.grantDrawer n x).references = w.references := by
  unfold grantDrawer
  dsimp only
  split <;> simp

@[simp] theorem references_requestDrawer : (w.requestDrawer n x).references = w.references := rfl

@[simp] theorem references_settleLane : (w.settleLane n).references = w.references := by
  unfold settleLane
  dsimp only
  split <;> simp

/-! ### The alarm (Alarm) -/

@[simp] theorem references_refreshOutputs : w.refreshOutputs.references = w.references := rfl

@[simp] theorem references_lockdownDispense : (w.lockdownDispense n).references = w.references := by
  unfold lockdownDispense
  split
  · rfl
  · split
    · rfl
    · split <;> simp

@[simp] theorem references_lockdownDeposit : (w.lockdownDeposit n).references = w.references := by
  unfold lockdownDeposit
  split <;> simp

@[simp] theorem references_lockdownLane : (w.lockdownLane n).references = w.references := by simp [lockdownLane]

@[simp] theorem references_enterLockdown : (w.enterLockdown z).references = w.references := by
  simp [enterLockdown, references_eachLane]

@[simp] theorem references_zoneAlarm : (w.zoneAlarm z q).references = w.references := by simp [zoneAlarm]

@[simp] theorem references_zoneExit {st : ZoneState} {d : Nat} : (w.zoneExit z st d).references = w.references := by simp [zoneExit]

@[simp] theorem references_zoneReact : (w.zoneReact z q).references = w.references := by simp [zoneReact_eq]

@[simp] theorem references_markDoors : (w.markDoors q).references = w.references := by simp [markDoors]

@[simp] theorem references_changeLive {b : Bool} : (w.changeLive q b).references = w.references := by simp [changeLive]

@[simp] theorem references_setInternal {b : Bool} : (w.setInternal q b).references = w.references := by simp [setInternal]

@[simp] theorem references_refreshForced : w.refreshForced.references = w.references := references_setInternal

@[simp] theorem references_acknowledge : (w.acknowledge q).references = w.references := rfl

/-! ### The note path at its events (Path), but for the fault -/

@[simp] theorem references_faultDelivery : (w.faultDelivery n).references = w.references := by
  unfold faultDelivery
  split <;> simp

@[simp] theorem references_faultHolder (j : Join) : (w.faultHolder j).references = w.references := by
  unfold faultHolder
  split
  · rfl
  · simp
  · simp
  · dsimp only
    split <;> simp

@[simp] theorem references_faultRequest {r : Request} : (w.faultRequest r).references = w.references := by
  unfold faultRequest
  split <;> simp

@[simp] theorem references_releasePick : (w.releasePick c).references = w.references := by simp [releasePick]

@[simp] theorem references_markFinal : (w.markFinal n).references = w.references := by
  unfold markFinal
  dsimp only
  split
  · simp
  · split <;> simp

@[simp] theorem references_takeMix {v : Counts} : (w.takeMix n v).references = w.references := by
  unfold takeMix
  dsimp only
  split <;> simp

@[simp] theorem references_remixLane : (w.remixLane n).references = w.references := by
  unfold remixLane
  split
  · dsimp only
    split <;> simp
  · rfl

@[simp] theorem references_startDelivery : (w.startDelivery n).references = w.references := by simp [startDelivery]

@[simp] theorem references_takeHeld : (w.takeHeld n).references = w.references := by simp [takeHeld]

@[simp] theorem references_deliver : (w.deliver n).references = w.references := by simp [deliver]

@[simp] theorem references_endDelivery : (w.endDelivery n).references = w.references := by simp [endDelivery]

@[simp] theorem references_startPurge : (w.startPurge n).references = w.references := by simp [startPurge]

@[simp] theorem references_endClearance {i : Nat} : (w.endClearance i).references = w.references := by
  unfold endClearance
  dsimp only
  split <;> simp

@[simp] theorem references_purgeNotes : (w.purgeNotes n).references = w.references := by simp [purgeNotes]

@[simp] theorem references_endDump {d : Dump} : (w.endDump d).references = w.references := by
  unfold endDump
  split
  · split <;> simp
  · simp
  · simp
  · simp

@[simp] theorem references_testSweep : w.testSweep.references = w.references := by
  obtain ⟨f, found, -⟩ := testSweep_eq w
  rw [found]
  rfl

@[simp] theorem references_endSweep : (w.endSweep n).references = w.references := rfl

@[simp] theorem references_stallSweep : (w.stallSweep n).references = w.references := by simp [stallSweep]

@[simp] theorem references_endRetract : (w.endRetract n).references = w.references := by simp [endRetract, closeRetract]

@[simp] theorem references_endLoss : w.endLoss.references = w.references := by simp [endLoss]

@[simp] theorem references_pulse {i : Nat} : (w.pulse i).references = w.references := by simp [pulse]

/-! ### The conveyor (Conveyor) -/

@[simp] theorem references_serve : (w.serve n).references = w.references := by
  unfold serve
  dsimp only
  split <;> simp

@[simp] theorem references_finishCarried {e f : OrderEnd} {b : Bool} : (w.finishCarried n x e f b).references = w.references := by
  unfold finishCarried
  split <;> simp

@[simp] theorem references_deliverEnvelope : (w.deliverEnvelope n).references = w.references := by
  unfold deliverEnvelope
  dsimp only
  split <;> simp

@[simp] theorem references_withdraw : (w.withdraw n).references = w.references := by simp [withdraw]

@[simp] theorem references_conveyorFault {d : Nat} : (w.conveyorFault d).references = w.references := by
  simp [conveyorFault, references_foldl]

@[simp] theorem references_overrunCarry : (w.overrunCarry n).references = w.references := by
  unfold overrunCarry
  dsimp only
  split <;> simp

@[simp] theorem references_conveyorExit : w.conveyorExit.references = w.references := by
  unfold conveyorExit
  split
  · split <;> simp
  all_goals simp

@[simp] theorem references_startConveyorClearance : w.startConveyorClearance.references = w.references := rfl

@[simp] theorem references_endConveyorClearance : w.endConveyorClearance.references = w.references := by
  unfold endConveyorClearance
  extract_lets w1 w2 w3 w4 w5
  have ended : w5.references = w.references := by
    unfold w5
    split <;> simp [w4, w3, w2, w1]
  rw [references_ite, references_reloadStranded, ite_self, ended]

@[simp] theorem references_expireHoldLimit : (w.expireHoldLimit n).references = w.references := by simp [expireHoldLimit]

/-! ### What a load leaves of them (Profile), but for the load itself and the cassettes -/

@[simp] theorem references_applyLockout : (w.applyLockout n).references = w.references := rfl

@[simp] theorem references_applyBin : (w.applyBin k).references = w.references := by simp [applyBin]

@[simp] theorem references_restartZone : (w.restartZone z).references = w.references := by simp [restartZone]

@[simp] theorem references_startWatch : (w.startWatch z).references = w.references := by
  unfold startWatch
  dsimp only
  split
  · split <;> simp
  · rfl

@[simp] theorem references_applyAlarm : w.applyAlarm.references = w.references := by
  unfold applyAlarm
  extract_lets set changed restarted shown
  have watched : shown.references = w.references :=
    references_foldl (f := fun w z => (w.restartZone z).startWatch z) (fun _ _ => by simp) changed set
  split
  · simp [watched]
  · exact watched

/-! ### Hold (Hold) -/

@[simp] theorem references_eachSlot {f : Slot → Slot} : (w.eachSlot f).references = w.references := rfl

@[simp] theorem references_resumeDrawer : (w.resumeDrawer n).references = w.references := by
  unfold resumeDrawer
  split
  · split <;> simp
  · rfl

@[simp] theorem references_holdBegins {i : Nat} : (w.holdBegins i).references = w.references := by simp [holdBegins]

@[simp] theorem references_holdEnds : w.holdEnds.references = w.references := by simp [holdEnds, holdReleased, references_eachLane]

@[simp] theorem references_setHold {a b : Bool} : (w.setHold a b).references = w.references := by simp [setHold]

/-! ### Cancels (Cancel) -/

@[simp] theorem references_cancelDispense : (w.cancelDispense n x).references = w.references := by
  unfold cancelDispense
  dsimp only
  split
  · simp
  · split
    · simp
    · split
      · simp
      · split <;> simp

@[simp] theorem references_cancelRetract : (w.cancelRetract n x).references = w.references := by simp [cancelRetract]

@[simp] theorem references_cancelDeposit : (w.cancelDeposit n x).references = w.references := by
  unfold cancelDeposit
  dsimp only
  split
  · simp
  · split
    · rfl
    · split <;> simp

@[simp] theorem references_cancelCapture : (w.cancelCapture n x).references = w.references := by simp [cancelCapture]

@[simp] theorem references_cancelReturn : (w.cancelReturn n x).references = w.references := by simp [cancelReturn]

@[simp] theorem references_cancelOrder : (w.cancelOrder p x).references = w.references := by
  unfold cancelOrder
  split
  · simp
  · split
    · simp
    · split <;> simp

@[simp] theorem references_cancelEvent : (w.cancelEvent p x).references = w.references := by
  unfold cancelEvent
  split <;> simp

@[simp] theorem references_flagEvent {j : Fin 16} {i : Nat} : (w.flagEvent j i).references = w.references := by simp [flagEvent]

/-! ### RUN (StartUp) -/

@[simp] theorem references_startUp : w.startUp.references = w.references :=
  references_eachLane (f := startHoldTimer) (fun _ _ => rfl) _

/-! ### The events at the lanes, the cassettes and the points -/

@[simp] theorem references_sendPress : (w.sendPress n).references = w.references := by simp [sendPress]

@[simp] theorem references_extendedAsserts : (w.extendedAsserts n).references = w.references := by simp [extendedAsserts]

@[simp] theorem references_stowedAsserts : (w.stowedAsserts n).references = w.references := by simp [stowedAsserts]

@[simp] theorem references_stowedClears : (w.stowedClears n).references = w.references := by simp [stowedClears]

@[simp] theorem references_obstruction : (w.obstruction n).references = w.references := by simp [obstruction]

@[simp] theorem references_windowExpires : (w.windowExpires n).references = w.references := by simp [windowExpires]

@[simp] theorem references_takeExpires : (w.takeExpires n).references = w.references := by simp [takeExpires]

@[simp] theorem references_depositExpires : (w.depositExpires n).references = w.references := by simp [depositExpires]

@[simp] theorem references_travelOverrun : (w.travelOverrun n).references = w.references := by simp [travelOverrun]

@[simp] theorem references_liftEnds : (w.liftEnds n).references = w.references := by
  unfold liftEnds liftedToPocket liftedToDrawer
  dsimp only
  split
  · split
    · split
      · rfl
      · split <;> simp
    · split <;> simp
    · rfl
  · rfl

@[simp] theorem references_liftOverrun {a b : Bool} : (w.liftOverrun n a b).references = w.references := by simp [liftOverrun]

@[simp] theorem references_forcedEnds : (w.forcedEnds n).references = w.references := by simp [forcedEnds]

@[simp] theorem references_holdLimitExpires : (w.holdLimitExpires n).references = w.references := by simp [holdLimitExpires]

@[simp] theorem references_removeCassette : (w.removeCassette c).references = w.references := by
  simp [removeCassette, references_modCassette]

@[simp] theorem references_missed : w.missed.references = w.references := by simp [missed]

@[simp] theorem references_stableChange {i : Fin 12} : (w.stableChange i).references = w.references := by simp [stableChange]

@[simp] theorem references_entryExpires : (w.entryExpires z).references = w.references := by simp [entryExpires]

end Wall
end Sys2Proof.Machine
end

section
/-! PROOF. The references stay in range (O8): the five operations that change a reference thickness or the active profile, and every command. -/

namespace Sys2Proof.Machine

/-- A value clamped into a range that is not empty lies in it. -/
theorem clampNat_mem {lo hi : Nat} (h : lo ≤ hi) (i : Nat) : lo ≤ clampNat lo hi i ∧ clampNat lo hi i ≤ hi := by
  unfold clampNat
  split
  · omega
  · split <;> omega

/-- The range about a nominal thickness (R78) is not empty. -/
theorem range_nonempty (tn : Nat) : 3 * tn / 4 ≤ 5 * tn / 4 := by omega

/-- Learning keeps a reference thickness as it is or clamps the new one (R77). -/
theorem learnedTr_mem {tn tr : Nat} (h : 3 * tn / 4 ≤ tr ∧ tr ≤ 5 * tn / 4) (t : Nat) :
    3 * tn / 4 ≤ learnedTr tn tr t ∧ learnedTr tn tr t ≤ 5 * tn / 4 := by
  unfold learnedTr
  dsimp only
  split
  · exact h
  · exact clampNat_mem (range_nonempty tn) _

namespace Wall

/-- A reference thickness of the cassette lies within a quarter of the nominal thickness of its position (R78). -/
def trInRange (w : Wall) (c : CassId) (tr : Nat) : Prop := 3 * w.noteThickness c / 4 ≤ tr ∧ tr ≤ 5 * w.noteThickness c / 4

/-- The cassette's own reference thickness does. -/
def referenceInRange (w : Wall) (c : CassId) : Prop := w.trInRange c (w.cassettes.get c).tr

theorem nominal_trInRange (w : Wall) (c : CassId) : w.trInRange c (w.noteThickness c) := by
  unfold trInRange
  omega

theorem trInRange_congr {v w : Wall} (h : v.profile.active = w.profile.active) {c : CassId} {tr : Nat} : v.trInRange c tr ↔ w.trInRange c tr := by
  simp only [trInRange, noteThickness, setting, h]

namespace referencesInRange
variable {v w : Wall}

/-- The law speaks of the references alone. -/
theorem of_references (h : w.referencesInRange) (e : v.references = w.references) : v.referencesInRange := by
  obtain ⟨same, active⟩ := Prod.ext_iff.mp e
  intro c
  have kept : (v.cassettes.get c).tr = (w.cassettes.get c).tr := congrFun same c
  rw [kept]
  exact (trInRange_congr active).mpr (h c)

theorem ite {b : Prop} [Decidable b] (hv : v.referencesInRange) (hw : w.referencesInRange) : (if b then v else w).referencesInRange := by
  split
  · exact hv
  · exact hw

/-- One cassette is given a reference thickness in its range. -/
theorem modCassette {c : CassId} {f : Cassette → Cassette} (h : w.referencesInRange) (hf : w.trInRange c (f (w.cassettes.get c)).tr) :
    (w.modCassette c f).referencesInRange := by
  intro d
  refine (trInRange_congr (v := w.modCassette c f) (w := w) rfl).mpr ?_
  by_cases e : d = c
  · subst e
    simpa using hf
  · rw [modCassette_cassettes, tabMod_get_other _ _ e]
    exact h d

theorem modGate {f : Gate → Gate} (h : w.referencesInRange) : (w.modGate f).referencesInRange := h.of_references rfl

/-! ### Settlements (R76, R77) and the fault -/

theorem learn {c : CassId} {t : Nat} (h : w.referencesInRange) : (w.learn c t).referencesInRange := h.modCassette (learnedTr_mem (h c) t)

theorem settle {x : Passage} {m : Measure} {cut : Bool} (h : w.referencesInRange) : (w.settle x m cut).referencesInRange := by
  have reported : ((w.modGate (Gate.trace1 x m cut)).reportSettled x m).referencesInRange := h.of_references (by simp)
  unfold Wall.settle
  dsimp only
  split
  · next c _ =>
    have counted := ite (b := m.route = .stacker) (reported.of_references (references_acceptSingle (c := c))) reported
    have recorded := counted.of_references (references_recordPassage (c := c) (cls := m.cls) (e := m.estimate))
    exact (ite recorded.learn recorded).of_references references_countReject
  · exact reported

theorem settleCut (l : List Passage) : ∀ {w : Wall}, w.referencesInRange → (Machine.settleCut l w).referencesInRange := by
  induction l with
  | nil => exact id
  | cons x rest ih => exact fun h => ih h.settle

theorem closePassage {unmeasured latch : Bool} (h : w.referencesInRange) : (w.closePassage unmeasured latch).referencesInRange := by
  unfold Wall.closePassage
  split
  · exact h
  · exact ite h.modGate.modGate.settle h.modGate.modGate

theorem diverterLeading (h : w.referencesInRange) : w.diverterLeading.referencesInRange := by
  unfold Wall.diverterLeading
  split
  · exact h
  · dsimp only
    split
    · exact h.modGate.modGate
    · exact h.modGate.modGate.settle

theorem trailing (h : w.referencesInRange) : w.trailing.referencesInRange :=
  h.modGate.closePassage.of_references (references_checkEnding.trans references_modGate)

theorem closeGate (h : w.referencesInRange) : w.closeGate.referencesInRange := (settleCut _ h.closePassage.modGate).modGate

theorem transportFault {jam : Bool} (h : w.referencesInRange) : (w.transportFault jam).referencesInRange := by
  unfold Wall.transportFault
  extract_lets j w1 w2 w3 picks w4 w5 w6 w7 w8 w9
  clear_value j
  have marked : w2.references = w.references := by
    unfold w2
    split <;> rfl
  have told : w3.references = w.references := by simp [w3, marked]
  have delivered : w7.references = w6.references := by
    unfold w7
    split
    · exact references_faultDelivery
    · rfl
  have ended : w9.references = w4.references := by simp [w9, w8, delivered, w6, w5]
  exact (h.of_references told).closeGate.of_references ((references_foldl (fun _ _ => references_faultRequest) _ w9).trans ended)

theorem exitEdge (h : w.referencesInRange) : w.exitEdge.referencesInRange := by
  unfold Wall.exitEdge
  split
  · refine h.of_references ?_
    dsimp only
    split <;> simp
  · exact ite (h.of_references (by simp)) (ite h h.transportFault)

/-! ### A new active profile (R78) and power-on -/

theorem applyCassette_active (w : Wall) (c : CassId) : (w.applyCassette c).profile.active = w.profile.active :=
  (Prod.ext_iff.mp references_remainingTest).2

/-- A cassette that meets a profile load has its reference thickness clamped. -/
theorem applyCassette_self (w : Wall) (c : CassId) : (w.applyCassette c).referenceInRange c := by
  refine (trInRange_congr (applyCassette_active w c)).mpr ?_
  rw [Wall.applyCassette, modCassette_cassettes, tabMod_get_same]
  exact clampNat_mem (range_nonempty (w.noteThickness c)) _

theorem applyCassette_other {c d : CassId} (h : w.referenceInRange c) (other : c ≠ d) : (w.applyCassette d).referenceInRange c := by
  have kept : ((w.remainingTest d).cassettes.get c).tr = (w.cassettes.get c).tr := congrFun (Prod.ext_iff.mp references_remainingTest).1 c
  refine (trInRange_congr (applyCassette_active w d)).mpr ?_
  rw [Wall.applyCassette, modCassette_cassettes, tabMod_get_other _ _ other, kept]
  exact h

/-- Of the cassettes that meet a load each is brought into range, and one that was there stays there. -/
theorem applyCassettes {c : CassId} (l : List CassId) (w : Wall) (h : c ∈ l ∨ w.referenceInRange c) :
    (l.foldl (fun w c => w.applyCassette c) w).referenceInRange c := by
  induction l generalizing w with
  | nil => exact h.resolve_left List.not_mem_nil
  | cons d rest ih =>
    refine ih (w.applyCassette d) ?_
    by_cases e : c = d
    · exact .inr (e ▸ applyCassette_self w c)
    · exact h.imp (fun mem => (List.mem_cons.mp mem).resolve_left e) fun there => applyCassette_other there e

/-- Once every block has applied a profile, whatever it is, each reference thickness lies in its range (R78). -/
theorem applyProfile (w : Wall) : w.applyProfile.referencesInRange := by
  unfold Wall.applyProfile
  extract_lets w1 w2 w3
  have clamped : w2.referencesInRange := fun c => applyCassettes cassIds w1 (.inl (by revert c; decide))
  exact clamped.of_references (references_applyAlarm.trans (references_foldl (fun _ _ => references_applyBin) binIds w2))

theorem endProgramming {g : Programming} : (w.endProgramming g).referencesInRange := by
  unfold Wall.endProgramming
  extract_lets w1 w2 w3
  split
  · exact (applyProfile (w2.load 4)).of_references references_finish
  · exact applyProfile (w2.load 4)

theorem powerOnWall (i : WallInputs) (stored : Vector Word 64) (cutShort : Nat) : (Machine.powerOnWall i stored cutShort).referencesInRange := by
  unfold Machine.powerOnWall
  extract_lets base blank w points w1 w2
  have nominal : w1.referencesInRange := fun c => by
    have tr : (w1.cassettes.get c).tr = w.noteThickness c := congrArg Cassette.tr (ofFn_get _ c)
    rw [tr]
    exact w.nominal_trInRange c
  refine nominal.of_references (references_refreshOutputs.trans ?_)
  rw [references_foldl (fun _ _ => references_startWatch), references_eachLane fun _ _ => references_applyLockout]

theorem programmingEnds (h : w.referencesInRange) : w.programmingEnds.referencesInRange := by
  unfold Wall.programmingEnds
  split
  · exact ite h endProgramming
  · exact h

theorem insertCassette {c : CassId} (h : w.referencesInRange) : (w.insertCassette c).referencesInRange :=
  ite h (h.modCassette (w.nominal_trInRange c))

/-! ### Taking and the evaluations -/

theorem acceptService {x : SlotId} {k : Kind} {y : Slot} (h : w.referencesInRange) : (w.acceptService x k y).referencesInRange := by
  unfold Wall.acceptService
  split
  · have restarted : (w.modCassette y.target4 (Cassette.restart (w.noteThickness y.target4) (y.param 1))).referencesInRange :=
      h.modCassette (w.nominal_trInRange y.target4)
    exact restarted.of_references (by simp [acceptCountSet])
  · exact h.of_references (by simp [acceptCassetteClear, references_modCassette])
  · exact h.of_references (by simp [acceptBinReset, emptyBin])
  · exact h.of_references (by simp [acceptPathReset, resetDrawer])
  · exact h.of_references (by simp [acceptZoneArm])
  · unfold Wall.acceptZoneDisarm
    dsimp only
    exact h.of_references (by split <;> simp)
  · exact h.of_references (by simp [acceptZoneReset])
  · exact h.of_references (by simp [acceptLockdownClear])
  · exact h.of_references (by simp [acceptHold])
  · exact h.of_references (by simp [acceptHold])
  · exact h.of_references rfl
  · exact (applyProfile (w.load 3)).of_references references_finish
  · exact h.of_references (by simp [acceptClockSet])
  · exact h

theorem acceptLane {n : LaneId} {x : SlotId} {k : Kind} (h : w.referencesInRange) : (w.acceptLane n x k).referencesInRange := by
  refine h.of_references ?_
  unfold Wall.acceptLane
  split
  · simp [acceptDispense]
  · simp [acceptSlot]
  · simp [acceptSlot]
  · rfl
  · rfl
  · simp [acceptLaneOpen]
  · unfold Wall.acceptLaneClose
    split <;> simp
  · rfl

theorem take {p : PageId} {x : SlotId} (h : w.referencesInRange) : (w.take p x).referencesInRange := by
  unfold Wall.take
  split
  · exact h.of_references references_refuse
  · split
    · exact h
    · split
      · exact h.acceptLane
      · exact h.acceptService

theorem evaluate (h : w.referencesInRange) : w.evaluate.referencesInRange := by
  refine evaluate_keeps (P := Wall.referencesInRange) (fun v u h e => ?_) h
  rcases evaluateOnce_cases e with ⟨n, -, rfl⟩ | ⟨-, ⟨n, x, -, rfl⟩ | ⟨-, p, x, -, rfl⟩⟩
  · exact h.of_references references_settleLane
  · exact h.of_references references_grantDrawer
  · exact h.take

/-! ### The host bus (StartUp, Bus) -/

theorem place {p : PageId} {x : SlotId} {k : Kind} {tag : Word} {l : List Word} (h : w.referencesInRange) :
    (w.place p x k tag l).referencesInRange :=
  ite (evaluate (h.of_references rfl)) (h.of_references (references_slip.trans (references_foldl (fun _ _ => references_slip) _ w)))

theorem writeSlotState {p : PageId} {x : SlotId} {v : Word} (h : w.referencesInRange) : (w.writeSlotState p x v).referencesInRange :=
  ite (evaluate (h.of_references rfl)) (h.of_references (by simp))

theorem writeBody {p : PageId} {x : SlotId} {i : Fin 14} {v : Word} (h : w.referencesInRange) : (w.writeBody p x i v).referencesInRange :=
  h.of_references (by simp [Wall.writeBody])

theorem writeEntry {e : Fin 48} {v : Word} (h : w.referencesInRange) : (w.writeEntry e v).referencesInRange :=
  ite (h.of_references rfl) (ite (ite (h.of_references rfl) (h.of_references rfl)) (h.of_references references_slip))

theorem setFlags {k : Fin 16} {mask : Word} (h : w.referencesInRange) : (w.setFlags k mask).referencesInRange := by
  unfold Wall.setFlags
  extract_lets old new done
  have acted : done.referencesInRange := h.of_references (references_foldl (fun _ _ => references_flagEvent) _ _)
  exact ite acted.evaluate acted

theorem run (h : w.referencesInRange) : w.run.referencesInRange := by
  unfold Wall.run
  exact ite h (evaluate (h.of_references (by simp)))

theorem wallReset (w : Wall) : w.wallReset.referencesInRange := by
  unfold Wall.wallReset
  exact applyProfile _

theorem writeRunControl {v : Word} (h : w.referencesInRange) : (w.writeRunControl v).referencesInRange :=
  ite (wallReset w) (ite h.run (h.of_references rfl))

theorem hostWrite {a : Nat} {v : Word} (h : w.referencesInRange) : (w.hostWrite a v).referencesInRange := by
  unfold Wall.hostWrite
  split
  · exact h.writeSlotState
  · exact h.writeBody
  · exact h.writeEntry
  · exact h.of_references rfl
  · exact h.setFlags
  · exact h.of_references rfl
  · exact h.writeRunControl
  · exact h.of_references rfl
  · exact h.of_references references_slip
  · exact h
  · exact h

end referencesInRange
end Wall

/-! ### Every command -/

namespace State.Answers
variable {s : State} {f : Wall → Wall}

/-- An event that leaves the references as they are. -/
theorem keptReferences (h : s.wall.referencesInRange) (kept : (f s.wall).references = s.wall.references) :
    State.Answers Wall.referencesInRange (s.onWall f) := onWall h (h.of_references kept)

/-- An event that keeps the law, and after which the wall re-evaluates its waiting orders. -/
theorem inRangeEvaluated (h : s.wall.referencesInRange) (hf : (f s.wall).referencesInRange) :
    State.Answers Wall.referencesInRange (s.onWall fun w => (f w).evaluate) := onWall (f := fun w => (f w).evaluate) h hf.evaluate

theorem keptReferencesEvaluated (h : s.wall.referencesInRange) (kept : (f s.wall).references = s.wall.references) :
    State.Answers Wall.referencesInRange (s.onWall fun w => (f w).evaluate) := inRangeEvaluated h (h.of_references kept)

end State.Answers

namespace Wall
variable {w : Wall}

theorem references_whenSome {α : Type} {a : Option α} {f : α → Wall → Wall} (hf : ∀ a, (f a w).references = w.references) :
    (w.whenSome a f).references = w.references := by
  cases a with
  | none => rfl
  | some a => exact hf a

theorem referencesInRange.deliveryOverruns {b : Bool} (h : w.referencesInRange) : (w.deliveryOverruns b).referencesInRange := by
  unfold Wall.deliveryOverruns
  cases w.runningDelivery with
  | none => exact h
  | some n => exact transportFault (h.of_references rfl)

theorem referencesInRange.encoderLost (h : w.referencesInRange) : w.encoderLost.referencesInRange := ite h.transportFault h

end Wall

/-- Every command keeps the references in range (R78). -/
theorem exec_referencesInRange (c : Instr) (s : State) (h : s.wall.referencesInRange) : State.Answers Wall.referencesInRange (exec c s) := by
  cases c with
  | powerOn i => exact .next (Wall.referencesInRange.powerOnWall i _ _)
  | hostWrite a k =>
    show State.Answers _ (if s.supply then .next (s.busWrite a.toNat k) else .next s)
    split
    · unfold State.busWrite
      split
      · exact .next h
      · exact .next h.hostWrite
    · exact .next h
  | postingEvent p x => exact .onBus h h.writeSlotState
  | giveBack p x => exact .onBus h h.writeSlotState
  | orderBodyWrite p x i k => exact .onBus h h.writeBody
  | flagSetAlias k mask => exact .onBus h h.setFlags
  | flagClearAlias k mask => exact .onBus h (h.of_references rfl)
  | entrySeen e => exact .onBus h h.writeEntry
  | entryFree e => exact .onBus h h.writeEntry
  | counterHighRead k => exact .busRead _ h
  | counterLowRead k => exact .busRead _ h
  | hostRead a => exact .busRead _ h
  | run => exact .onBus h h.writeRunControl
  | halt => exact .onBus h h.writeRunControl
  | wallReset b => exact .onBus h h.writeRunControl
  | attentionMaskWrite k => exact .onBus h (h.of_references rfl)
  | supplyFailure =>
    have cut : s.wall.profile.cut.active = s.wall.profile.active := by
      unfold ProfileStore.cut
      split <;> rfl
    refine .next ?_
    unfold State.powerDown
    split
    · exact h.of_references (Wall.references_modProfile cut)
    · exact h
  | programmingEnd => exact .inRangeEvaluated h h.programmingEnds
  | cassetteInsertion k => exact .onWall h h.insertCassette
  | trailingEdge => exact .inRangeEvaluated h h.trailing
  | diverterLeadingEdge =>
    exact .inRangeEvaluated (f := fun w => w.diverterLeading.checkEnding) h (h.diverterLeading.of_references Wall.references_checkEnding)
  | encoderLoss => exact .inRangeEvaluated h h.encoderLost
  | exitLeadingEdge => exact .inRangeEvaluated h h.exitEdge
  | transportJam => exact .onWall h (.ite h.transportFault.evaluate h)
  | deliveryOverrun b => exact .inRangeEvaluated h h.deliveryOverruns
  | conveyorClearanceEnd => exact .onWall h (.ite (h.of_references Wall.references_endConveyorClearance).evaluate h)
  | callButtonPress n => exact .keptReferences h rfl
  | sendButtonPress n => exact .keptReferences h Wall.references_sendPress
  | extendedSensorReached n => exact .keptReferences h Wall.references_extendedAsserts
  | stowedSensorReached n => exact .keptReferencesEvaluated h Wall.references_stowedAsserts
  | drawerObstruction n => exact .keptReferencesEvaluated h Wall.references_obstruction
  | obstructionCleared n => exact .keptReferences h rfl
  | itemSensorChange n b => exact .keptReferences h rfl
  | clearWindowExpiry n => exact .keptReferences h Wall.references_windowExpires
  | takeTimerExpiry n => exact .keptReferences h Wall.references_takeExpires
  | depositTimerExpiry n => exact .keptReferences h Wall.references_depositExpires
  | travelBudgetOverrun n => exact .keptReferencesEvaluated h Wall.references_travelOverrun
  | liftComplete n => exact .keptReferencesEvaluated h Wall.references_liftEnds
  | liftOverrun n e i => exact .keptReferencesEvaluated h Wall.references_liftOverrun
  | drawerForced n => exact .keptReferencesEvaluated h Wall.references_stowedClears
  | forcedMarkCleared n => exact .keptReferencesEvaluated h Wall.references_forcedEnds
  | cassetteRemoval k => exact .keptReferences h Wall.references_removeCassette
  | pickRelease => exact .keptReferences h (Wall.references_whenSome fun _ => Wall.references_releasePick)
  | leadingEdge => exact .keptReferences h Wall.references_gateLeading
  | miss => exact .keptReferencesEvaluated h Wall.references_missed
  | diverterTrailingEdge => exact .keptReferences h rfl
  | encoderRestored => exact .keptReferences h Wall.references_endLoss
  | encoderRisingEdge k => exact .keptReferences h Wall.references_pulse
  | remix => exact .keptReferencesEvaluated h (Wall.references_whenSome fun _ => Wall.references_remixLane)
  | deliveryStart => exact .keptReferences h (Wall.references_whenSome fun _ => Wall.references_startDelivery)
  | deliveryEnd => exact .keptReferencesEvaluated h (Wall.references_whenSome fun _ => Wall.references_endDelivery)
  | purgeStart => exact .keptReferences h (Wall.references_whenSome fun _ => Wall.references_startPurge)
  | purgeEnd => exact .keptReferencesEvaluated h (Wall.references_whenSome fun _ => Wall.references_endDump)
  | clearanceBeltEnd => exact .keptReferences h (by simp [Wall.startClearanceDump])
  | sweepEnd => exact .keptReferences h (Wall.references_whenSome fun _ => Wall.references_endSweep)
  | sweepStall => exact .keptReferencesEvaluated h (Wall.references_whenSome fun _ => Wall.references_stallSweep)
  | retractEnd => exact .keptReferencesEvaluated h (Wall.references_whenSome fun _ => Wall.references_endRetract)
  | holdLimitExpiry n => exact .keptReferences h Wall.references_holdLimitExpires
  | servingEvaluation => exact .keptReferences h (Wall.references_whenSome fun _ => Wall.references_serve)
  | conveyorExit => exact .keptReferencesEvaluated h Wall.references_conveyorExit
  | carryOverrun => exact .keptReferencesEvaluated h (Wall.references_whenSome fun _ => Wall.references_overrunCarry)
  | rawInputChange p => exact .keptReferences h rfl
  | liveChange p => exact .keptReferencesEvaluated h Wall.references_stableChange
  | entryDelayExpiry z => exact .keptReferencesEvaluated h Wall.references_entryExpires
  | sirenTimerExpiry z => exact .keptReferences h rfl
  | holdLineOn => exact .keptReferencesEvaluated (f := fun w => w.setHold true w.port.orderCause) h Wall.references_setHold
  | holdLineOff => exact .keptReferencesEvaluated (f := fun w => w.setHold false w.port.orderCause) h Wall.references_setHold
  | wallSecond => exact .keptReferences h rfl
  | _ => exact .onBus h h.place

/-- Settles O8: a reference thickness changes by learning, which clamps it, by a COUNT SET, an insertion and power-on, which make it nominal, and by a new active
profile, about which it is clamped; 10 ms of the timers change none. -/
theorem referenceStaysInRange : Obligations.ReferenceStaysInRange := by
  unfold Obligations.ReferenceStaysInRange
  intro s h t answer
  unfold step at answer
  split at answer
  · next c rest _ => exact exec_referencesInRange c { s with pending := rest } h t answer
  · unfold idle at answer
    split at answer
    · split at answer
      · next c _ => exact exec_referencesInRange c s h t answer
      · obtain rfl := Host.Outcome.next.inj answer
        exact h.of_references (v := s.wall.tick) rfl
    · obtain rfl := Host.Outcome.next.inj answer
      exact h

end Sys2Proof.Machine
end

section
/-! PROOF. Classes, estimates and routes (O46): an equation for each test of R72 and R73, and the route of R74 by the class. -/

namespace Sys2Proof.Machine

/-! ### Rounding and clamping -/

theorem clampNat_eq {lo hi : Nat} (h : lo ≤ hi) (i : Nat) : clampNat lo hi i = max lo (min hi i) := by
  unfold clampNat
  split
  · omega
  · split <;> omega

theorem roundHalfUp_pos {a b : Nat} (h : 0 < b) : roundHalfUp a b = (2 * a + b) / (2 * b) := if_neg h.ne'

/-- An estimate lies in its range, and is the rounded quotient clamped where the divisor is not 0 (log 4). -/
theorem estimate_spec {lo hi : Nat} (h : lo ≤ hi) (a b : Nat) :
    lo ≤ clampNat lo hi (roundHalfUp a b) ∧ clampNat lo hi (roundHalfUp a b) ≤ hi
      ∧ (0 < b → clampNat lo hi (roundHalfUp a b) = max lo (min hi ((2 * a + b) / (2 * b)))) :=
  ⟨(clampNat_mem h _).1, (clampNat_mem h _).2, fun hb => by rw [clampNat_eq h, roundHalfUp_pos hb]⟩

namespace Wall
variable {w : Wall} {c : CassId} {n : LaneId} {src : Source} {unmeasured : Bool} {gap l t : Nat}

/-! ### The tests of R72, each after those before it -/

theorem classifyPick_unmeasured : w.classifyPick c true l t = (.unmeasured, 1) := rfl

theorem classifyPick_long (h : w.noteLength c + w.lengthTolerance c < l) :
    w.classifyPick c false l t = (.long, clampNat 1 4 (roundHalfUp l (w.noteLength c))) := by simp [classifyPick, h]

theorem classifyPick_short (h : l + w.lengthTolerance c < w.noteLength c) : w.classifyPick c false l t = (.short, 1) := by
  have notLong : ¬ w.noteLength c + w.lengthTolerance c < l := by omega
  simp [classifyPick, notLong, h]

/-- The length lies within the tolerance of the note's (R72). -/
def lengthOk (w : Wall) (c : CassId) (l : Nat) : Prop := l ≤ w.noteLength c + w.lengthTolerance c ∧ w.noteLength c ≤ l + w.lengthTolerance c

/-- Within the length tolerance the thickness decides. -/
theorem classifyPick_lengthOk (h : w.lengthOk c l) :
    w.classifyPick c false l t =
      if w.doubleThreshold c < t then (.double, clampNat 2 4 (roundHalfUp t (w.cassettes.get c).tr))
      else if t < (w.cassettes.get c).tr / 2 then (.thin, 1) else (.single, 1) := by
  simp [classifyPick, Nat.not_lt.mpr h.1, Nat.not_lt.mpr h.2]

/-- When a pick passage has the class SINGLE before the gap is looked at (R72). -/
theorem classifyPick_single :
    (w.classifyPick c unmeasured l t).1 = .single ↔
      unmeasured = false ∧ w.lengthOk c l ∧ t ≤ w.doubleThreshold c ∧ (w.cassettes.get c).tr / 2 ≤ t := by
  unfold classifyPick lengthOk
  dsimp only
  split <;> rename_i u
  · simp [u]
  · split
    · simp; omega
    · split
      · simp; omega
      · split
        · simp; omega
        · split
          · simp; omega
          · simp only [true_iff]
            have off : unmeasured = false := by simpa using u
            exact ⟨off, by omega⟩

/-! ### The measure of a passage (R72 to R74) -/

theorem measurePassage_size : (w.measurePassage src unmeasured gap l t).length = l ∧ (w.measurePassage src unmeasured gap l t).thickness = t := by
  cases src with
  | cassette c =>
    unfold measurePassage
    dsimp only
    split
    · split <;> exact ⟨rfl, rfl⟩
    · exact ⟨rfl, rfl⟩
  | retract n => exact ⟨rfl, rfl⟩
  | clearance => exact ⟨rfl, rfl⟩

/-- A pick whose class is not SINGLE is rejected with its class and estimate. -/
theorem measurePassage_pick {cls : PieceClass} {e : Nat} (h : w.classifyPick c unmeasured l t = (cls, e)) (other : cls ≠ .single) :
    w.measurePassage (.cassette c) unmeasured gap l t = { length := l, thickness := t, cls := cls, estimate := e, route := .reject } := by
  simp [measurePassage, h, other]

/-- A pick whose class is SINGLE is CLOSE behind too small a gap, and goes to the stacker otherwise while accept enable is 1. -/
theorem measurePassage_single {e : Nat} (h : w.classifyPick c unmeasured l t = (.single, e)) :
    w.measurePassage (.cassette c) unmeasured gap l t =
      { length := l, thickness := t, cls := if gap < w.gapSettle c then .close else .single, estimate := 1,
        route := if w.gapSettle c ≤ gap ∧ w.gate.acceptEnable = true then .stacker else .reject } := by
  simp only [measurePassage, h, if_true]
  split <;> rename_i near
  · simp [Nat.not_le.mpr near]
  · simp [Nat.not_lt.mp near]

/-- A passage without a cassette is classed by R73. -/
theorem measurePassage_other (h : ∀ c, src ≠ .cassette c) :
    ((w.measurePassage src unmeasured gap l t).cls, (w.measurePassage src unmeasured gap l t).estimate) = w.classifyOther unmeasured l := by
  cases src with
  | cassette c => exact absurd rfl (h c)
  | retract n => rfl
  | clearance => rfl

/-- Only a single that is let in is routed STACKER (R74). -/
theorem measurePassage_stacker :
    (w.measurePassage src unmeasured gap l t).route = .stacker ↔
      ∃ c, src = .cassette c ∧ (w.classifyPick c unmeasured l t).1 = .single ∧ w.gapSettle c ≤ gap ∧ w.gate.acceptEnable = true := by
  cases src with
  | cassette c =>
    obtain ⟨⟨cls, e⟩, found⟩ : ∃ r, w.classifyPick c unmeasured l t = r := ⟨_, rfl⟩
    by_cases single : cls = .single
    · subst single
      simp [measurePassage_single found, found]
    · simp [measurePassage_pick found single, found, single]
  | retract n =>
    simp only [measurePassage, reduceCtorEq, false_and, exists_false, iff_false]
    cases (w.lanes.get n).bundle.dest <;> simp [Destination.route]
  | clearance => simp [measurePassage]

/-- No pick and no piece of a clearance goes to the retract bin. -/
theorem measurePassage_route (h : ∀ n, src ≠ .retract n) :
    (w.measurePassage src unmeasured gap l t).route = .stacker ∨ (w.measurePassage src unmeasured gap l t).route = .reject := by
  cases src with
  | cassette c =>
    obtain ⟨⟨cls, e⟩, found⟩ : ∃ r, w.classifyPick c unmeasured l t = r := ⟨_, rfl⟩
    by_cases single : cls = .single
    · subst single
      rw [measurePassage_single found]
      dsimp only
      split
      · exact .inl rfl
      · exact .inr rfl
    · exact .inr (by rw [measurePassage_pick found single])
  | retract n => exact absurd rfl (h n)
  | clearance => exact .inr rfl

/-! ### The shortest note (R71) -/

/-- The note lengths of the positions with a denomination. -/
def noteLengths (w : Wall) : List Nat := (cassIds.filter fun c => decide (0 < w.denomination c)).map w.noteLength

theorem mem_noteLengths {i : Nat} : i ∈ w.noteLengths ↔ ∃ c, 0 < w.denomination c ∧ w.noteLength c = i := by
  have all : ∀ c, c ∈ cassIds := by decide
  simp [noteLengths, all]

theorem shortestNote_spec :
    (w.noteLengths = [] → w.shortestNote = 624)
      ∧ (w.noteLengths ≠ [] → w.shortestNote ∈ w.noteLengths ∧ ∀ i ∈ w.noteLengths, w.shortestNote ≤ i) := by
  unfold shortestNote
  rw [← noteLengths]
  cases w.noteLengths with
  | nil => simp
  | cons a rest => exact ⟨by simp, fun _ => List.min?_eq_some_iff.mp List.min?_cons'⟩

end Wall

/-- Settles O46. -/
theorem classesAndRoutes : Obligations.ClassesAndRoutes := by
  unfold Obligations.ClassesAndRoutes
  rintro w src unmeasured gap l t m rfl
  refine ⟨Wall.measurePassage_size.1, Wall.measurePassage_size.2, fun c => rfl, ?_, fun other => ?_, ?_, ?_, ?_, Wall.measurePassage_route, ?_⟩
  · rintro c rfl
    refine ⟨?_, ?_⟩
    · rintro rfl
      rw [Wall.measurePassage_pick Wall.classifyPick_unmeasured (by decide)]
      exact ⟨rfl, rfl⟩
    · rintro rfl
      refine ⟨fun long => ?_, fun short => ?_, fun upper lower => ?_⟩
      · rw [Wall.measurePassage_pick (Wall.classifyPick_long long) (by decide)]
        exact ⟨rfl, estimate_spec (by decide) _ _⟩
      · rw [Wall.measurePassage_pick (Wall.classifyPick_short short) (by decide)]
        exact ⟨rfl, rfl⟩
      · have byThickness := Wall.classifyPick_lengthOk (t := t) ⟨upper, lower⟩
        refine ⟨fun double => ?_, fun notDouble thin => ?_, fun notDouble notThin => ?_⟩
        · rw [if_pos double] at byThickness
          rw [Wall.measurePassage_pick byThickness (by decide)]
          exact ⟨rfl, estimate_spec (by decide) _ _⟩
        · rw [if_neg (Nat.not_lt.mpr notDouble), if_pos thin] at byThickness
          rw [Wall.measurePassage_pick byThickness (by decide)]
          exact ⟨rfl, rfl⟩
        · rw [if_neg (Nat.not_lt.mpr notDouble), if_neg (Nat.not_lt.mpr notThin)] at byThickness
          rw [Wall.measurePassage_single byThickness]
          exact ⟨rfl, rfl⟩
  · obtain ⟨cls, estimate⟩ := Prod.mk.inj (Wall.measurePassage_other (w := w) (unmeasured := unmeasured) (gap := gap) (l := l) (t := t) other)
    rw [cls, estimate]
    refine ⟨?_, ?_⟩
    · rintro rfl
      exact ⟨rfl, rfl⟩
    · rintro rfl
      exact ⟨rfl, estimate_spec (by decide) _ _⟩
  · rintro ⟨c, valued⟩
    obtain ⟨mem, least⟩ := Wall.shortestNote_spec.2 (List.ne_nil_of_mem (Wall.mem_noteLengths.mpr ⟨c, valued, rfl⟩))
    obtain ⟨d, denominated, shortest⟩ := Wall.mem_noteLengths.mp mem
    exact ⟨⟨d, denominated, shortest.symm⟩, fun e he => least _ (Wall.mem_noteLengths.mpr ⟨e, he, rfl⟩)⟩
  · intro none
    refine Wall.shortestNote_spec.1 (List.eq_nil_iff_forall_not_mem.mpr fun i hi => ?_)
    obtain ⟨c, valued, -⟩ := Wall.mem_noteLengths.mp hi
    exact valued.ne' (none c)
  · rintro n rfl
    show (w.lanes.get n).bundle.dest.route = _
    cases (w.lanes.get n).bundle.dest <;> rfl
  · rw [Wall.measurePassage_stacker]
    simp only [Wall.classifyPick_single, Wall.lengthOk, and_assoc]

end Sys2Proof.Machine
end

section
/-! PROOF. The encoder's rising edge (O48): what the end of a loss leaves, and what an edge moves while the belt runs. -/

namespace Sys2Proof.Machine
namespace Wall
variable {w : Wall}

/-- A block that makes an internal point NORMAL changes that point's record alone (R141, R142). -/
theorem setInternal_normal (p : PointId) (w : Wall) :
    ∃ f : Point → Point, (f (w.points.get p)).live = false ∧ w.setInternal p false = w.modPoint p f := by
  by_cases h : (w.points.get p).live = false
  · refine ⟨id, h, ?_⟩
    rw [setInternal_same w h, modPoint, tabMod_same _ _ _ rfl]
  · exact ⟨Point.change false, rfl, by simp [setInternal, h, changeLive]⟩

theorem endLoss_without (h : w.gate.loss = false) : w.endLoss = w := by simp [endLoss, h]

/-- A loss that ends is no longer in force, the motor's silence ends with it, and of the points 15 alone has changed (R79). -/
theorem endLoss_inForce (h : w.gate.loss = true) :
    ∃ f : Point → Point, (f (w.points.get 15)).live = false
      ∧ w.endLoss = ((w.modGate fun g => { g with loss := false }).modTransport fun t => { t with silentMs := 0 }).modPoint 15 f := by
  obtain ⟨f, normal, made⟩ :=
    setInternal_normal 15 ((w.modGate fun g => { g with loss := false }).modTransport fun t => { t with silentMs := 0 })
  exact ⟨f, normal, by rw [endLoss, if_pos h, made]⟩

/-- The wall with the counts of a pulse, before its sweep is tested. -/
def pulsed (sample : Nat) (w : Wall) : Wall := (w.modGate (Gate.pulse sample)).modTransport Transport.pulse

theorem pulse_standing {sample : Nat} (h : w.beltStands = true) : w.pulse sample = w.endLoss := if_pos h

theorem pulse_moving {sample : Nat} (h : w.beltStands = false) :
    w.pulse sample = (w.endLoss.pulsed sample).testSweep.modEngine fun e => { e with sinceRelease := e.sinceRelease + 1 } := by
  simp only [pulse, h, Bool.false_eq_true, if_false, pulsed]

theorem pulsed_retractIn (sample : Nat) (w : Wall) (ph : RetractPhase) : (w.pulsed sample).retractIn ph = w.retractIn ph := rfl

/-- The test of a sweep, by what it finds (R110, R111). -/
theorem sweepTest_eq (item : Bool) (quiet : Nat) :
    (if item then (if 2000 ≤ quiet then SweepFinding.lodged else .none) else if 800 ≤ quiet then .clear else .none) =
      if item = false ∧ 800 ≤ quiet then .clear else if item = true ∧ 2000 ≤ quiet then .lodged else .none := by
  cases item <;> simp

/-- Two walls after which a loss has ended: what an edge counts besides is no matter (R79). -/
def lossEnded (before after : Wall) : Prop :=
  after.gate.loss = false ∧ (after.points.get 15).live = false ∧ after.transport.silentMs = 0
    ∧ (∀ p, p ≠ 15 → after.points.get p = before.points.get p) ∧ after.lanes = before.lanes ∧ after.pages = before.pages
    ∧ after.zones = before.zones

theorem endLoss_ends (h : w.gate.loss = true) : w.lossEnded w.endLoss := by
  obtain ⟨f, normal, made⟩ := endLoss_inForce h
  rw [made]
  exact ⟨rfl, (congrArg Point.live (tabMod_get_same ..)).trans normal, rfl, fun p other => tabMod_get_other _ _ other, rfl, rfl, rfl⟩

/-- The edge that ends a loss ends it whether the belt moves or stands. -/
theorem pulse_ends {sample : Nat} (h : w.gate.loss = true) : w.lossEnded (w.pulse sample) := by
  obtain ⟨loss, normal, silent, others, lanes, pages, zones⟩ := endLoss_ends h
  cases stands : w.beltStands with
  | true =>
    rw [pulse_standing stands]
    exact ⟨loss, normal, silent, others, lanes, pages, zones⟩
  | false =>
    obtain ⟨found, tested, -⟩ := testSweep_eq (w.endLoss.pulsed sample)
    rw [pulse_moving stands, tested]
    exact ⟨loss, normal, rfl, others, lanes, pages, zones⟩

end Wall

/-- Settles O48. -/
theorem encoderEdges : Obligations.EncoderEdges := by
  unfold Obligations.EncoderEdges
  intro s on
  refine ⟨fun sample loss stands => ?_, fun sample loss moving free => ?_, fun c edge loss => ?_, fun loss => ?_⟩
  · refine State.onWall_idle ?_
    rw [Wall.pulse_standing ((Wall.beltStands_iff _).mpr stands), Wall.endLoss_without loss]
  · have runs : s.wall.beltStands = false := by
      refine Bool.eq_false_iff.mpr fun stands => ?_
      rcases (Wall.beltStands_iff _).mp stands with held | ⟨n, join, forced⟩
      · exact absurd (held.symm.trans moving) (by decide)
      · exact absurd (forced.symm.trans (free n join)) (by decide)
    obtain ⟨found, tested, kept, judged⟩ := Wall.testSweep_eq (s.wall.pulsed sample.toNat)
    have answer := State.onWall_eq on ((Wall.pulse_moving (sample := sample.toNat) runs).trans
      (by rw [Wall.endLoss_without loss, tested]))
    refine ⟨_, answer, rfl, fun present => ?_, fun clear => ?_, rfl, rfl, fun n join granted sweeping unfound => ?_, fun still => ?_, rfl, rfl⟩
    · simp [Wall.pulsed, Gate.pulse, satAdd, present]
    · simp [Wall.pulsed, Gate.pulse, satAdd, clear]
    · rw [judged n (Wall.retractIn_eq_some.mpr ⟨join, granted, sweeping⟩) unfound]
      exact Wall.sweepTest_eq _ _
    · refine kept (still.elim (fun idle => .inr ?_) .inl)
      exact Option.eq_none_iff_forall_ne_some.mpr fun n sweeps =>
        let ⟨join, granted, sweeping⟩ := Wall.retractIn_eq_some.mp sweeps
        idle n join granted sweeping
  · rcases edge with rfl | ⟨sample, rfl⟩
    · exact ⟨_, State.onWall_next _ on, Wall.endLoss_ends loss⟩
    · exact ⟨_, State.onWall_next _ on, Wall.pulse_ends loss⟩
  · exact State.onWall_idle (Wall.endLoss_without loss)

end Sys2Proof.Machine
end

section
/-! PROOF. The edges at the gate and at the diverter (O45, O47): the refutations. Both statements say of a rejected pick that the context of the order that
holds the path counts one more reject. They allow a wall whose engine has a context loaded for a lane without a DISPENSE in progress, which R91 rules out and
Wall.reservationLaw with it: there the model has no order to count against, and the loaded context stays as it is. -/

namespace Sys2Proof.Machine

/-- A pick whose class is not SINGLE is not counted where the context of the order that holds the path stays without a reject (R94). -/
theorem Wall.not_rejectedPick {before after : Wall} {n : LaneId} {k : DispenseContext} {c : CassId} {cls : PieceClass} {estimate : Nat}
    (join : before.transport.join = .dispense n) (context : before.contextOf n = some k) (same : after.contextOf n = some k)
    (none : k.rejects = 0) (other : cls ≠ .single) : ¬ before.rejectedPick after c cls estimate := by
  rintro ⟨-, -, counted, -⟩
  obtain ⟨counts, -⟩ := counted n k join context
  have one : k.rejects = min 255 (k.rejects + 1) := by
    simpa [other] using congrArg DispenseContext.rejects (Option.some.inj (same.symm.trans counts))
  omega

/-- A pick of cassette 0, too short for a note. -/
def shortPick (reached : Bool) (measure : Option Measure) : Passage :=
  { seq := 7, source := .cassette 0, fromPick := true, gap := 200, reached := reached, measure := measure }

/-- The engine has the context of lane 0's DISPENSE loaded and the lane holds the path, but no slot of the lane holds an order; the piece `x` is on its way. -/
def orphanTenure (x : Passage) : Wall :=
  { Wall.reset with
      engine := { Engine.reset with loaded := some { lane := 0, slot := 0, context := buildingContext 1 false } },
      transport :=
        { Transport.reset with
            state := .granted, join := .dispense 0, watch := [{ seq := 7, source := .cassette 0, settled := none, travel := 1010 }] },
      gate := { Gate.reset with inPassage := x.measure.isNone, passages := [x] } }

theorem orphanTenure_context (x : Passage) : (orphanTenure x).contextOf 0 = some (buildingContext 1 false) := rfl

/-- The piece is in the gate, and its front has passed the diverter. -/
def orphanAtGate : Wall := orphanTenure (shortPick true none)

theorem orphanAtGate_trailing : orphanAtGate.trailing.contextOf 0 = some (buildingContext 1 false) := by decide +kernel

theorem orphanAtGate_short (unmeasured : Bool) :
    (orphanAtGate.measurePassage (.cassette 0) unmeasured 200 orphanAtGate.gate.runLength orphanAtGate.gate.runPeak).cls ≠ .single := by
  cases unmeasured <;> decide +kernel

/-- Refutes O45: a SHORT pick settles at its trailing edge, and the loaded context counts no reject. -/
theorem not_gateEdges : ¬ Obligations.GateEdges := by
  unfold Obligations.GateEdges
  intro h
  obtain ⟨-, -, past, -⟩ := h { State.reset with wall := orphanAtGate } rfl
  obtain ⟨m, rfl, t, rfl, -, -, -, -, -, -, -, -, rejected, -⟩ := past [] (shortPick true none) [] rfl rfl (.inl (by decide))
  exact Wall.not_rejectedPick rfl (orphanTenure_context _) orphanAtGate_trailing rfl (orphanAtGate_short _) (rejected 0 rfl)

/-- What the gate has decided of the piece. -/
def shortMeasure : Measure := { length := 300, thickness := 120, cls := .short, estimate := 1, route := .reject }

/-- The piece has left the gate with its measure and is about to reach the diverter. -/
def orphanAtDiverter : Wall := orphanTenure (shortPick false (some shortMeasure))

theorem orphanAtDiverter_leading : orphanAtDiverter.diverterLeading.checkEnding.contextOf 0 = some (buildingContext 1 false) := by decide +kernel

/-- Refutes O47: a SHORT pick settles at the diverter, and the loaded context counts no reject. -/
theorem not_diverterEdges : ¬ Obligations.DiverterEdges := by
  unfold Obligations.DiverterEdges
  intro h
  obtain ⟨-, pieces⟩ := h { State.reset with wall := orphanAtDiverter } rfl
  obtain ⟨-, refused⟩ := pieces (by decide) [] (shortPick false (some shortMeasure)) [] rfl
  obtain ⟨t, rfl, -, -, -, -, -, -, picks, -⟩ := refused (.inl (by decide))
  obtain ⟨-, -, rejected, -⟩ := picks shortMeasure rfl (by decide) 0 rfl .short rfl
  exact Wall.not_rejectedPick rfl (orphanTenure_context _) orphanAtDiverter_leading rfl (by decide) rejected

end Sys2Proof.Machine
end

section
/-! PROOF. A PATH RESET at its taking (O28): the clearance of the transport and of the conveyor, and the close of a drawer. -/

namespace Sys2Proof.Machine

/-- A PATH RESET of a mechanism that is not in use is accepted (R34, R38). -/
theorem Wall.take_pathReset {w : Wall} {x : SlotId} {tag v : Word} {m : Nat} (names : v.toNat = m) (few : m ≤ 5)
    (free : w.mechanismBusy m = false) :
    (w.posted servicePage x .pathReset tag [v]).take servicePage x = (w.posted servicePage x .pathReset tag [v]).acceptPathReset x m := by
  have kind := Wall.posted_kindAt_service x .pathReset tag [v] w rfl
  have named := (Wall.posted_param servicePage x .pathReset tag [v] w (i := 0) (by decide)).trans names
  obtain ⟨-, -, -, formed⟩ := Wall.wellFormed_below (w.posted servicePage x .pathReset tag [v])
    ((w.posted servicePage x .pathReset tag [v]).slot servicePage x)
  have quiet : (w.posted servicePage x .pathReset tag [v]).mechanismBusy m = false := free
  have accepted : (w.posted servicePage x .pathReset tag [v]).refusal servicePage x = none := by
    rw [Wall.refusal_service kind (formed.mpr (named.trans_le few)), Wall.checkService, named, quiet]
    rfl
  rw [Wall.take_service kind accepted, Wall.acceptService, named]

section
variable (x : SlotId) (tag : Word) (params : List Word) (w : Wall)

/-- The slot of an order of the service page whose work starts at its taking (R31). -/
theorem Wall.posted_startWork_state :
    (((w.posted servicePage x .pathReset tag params).startWork servicePage x).slot servicePage x).state = w.workState := by
  have listed : ((w.posted servicePage x .pathReset tag params).slot servicePage x).state.listed = true := by
    rw [Wall.posted_slot]
    rfl
  rw [Wall.startWork_listed listed]
  rfl

theorem Wall.acceptPathReset_transport :
    (w.posted servicePage x .pathReset tag params).acceptPathReset x 0 =
      ((w.posted servicePage x .pathReset tag params).startWork servicePage x).startClearance := rfl

theorem Wall.acceptPathReset_conveyor :
    (w.posted servicePage x .pathReset tag params).acceptPathReset x 1 =
      ((w.posted servicePage x .pathReset tag params).startWork servicePage x).startConveyorClearance := rfl

theorem Wall.acceptPathReset_drawer (n : LaneId) :
    (w.posted servicePage x .pathReset tag params).acceptPathReset x (2 + n.val) =
      ((w.posted servicePage x .pathReset tag params).startWork servicePage x).resetDrawer x n := by
  have lane : Fin.ofNat 4 (2 + n.val - 2) = n := by rw [Nat.add_sub_cancel_left]; exact Fin.ofNat_val_eq_self n
  have belt : 2 + n.val ≠ 0 ∧ 2 + n.val ≠ 1 := by omega
  rw [Wall.acceptPathReset, if_neg belt.1, if_neg belt.2, lane]

end

/-- A PATH RESET finds its drawer stowed: the drawer rests as its item sensor says, and the order is DONE (R20). -/
theorem Wall.resetDrawer_stowed {w : Wall} {n : LaneId} (x : SlotId) (h : (w.lanes.get n).stowedSensor = true) :
    w.resetDrawer x n =
      (w.modLane n fun l => { l with drawer := l.restState, bounce := 0, travel := .none, budgetMs := 0 }).finish servicePage x .done [] := if_pos h

/-- A PATH RESET closes a drawer that is not stowed (R20). -/
theorem Wall.resetDrawer_out {w : Wall} {n : LaneId} (x : SlotId) (h : (w.lanes.get n).stowedSensor = false) :
    w.resetDrawer x n = w.startClose n (w.lanes.get n).closeCause := if_neg (Bool.eq_false_iff.mp h)

/-- Settles O28: the order passes R38's check, so its taking is the clearance, or the drawer's reset by its stowed sensor. -/
theorem pathResets : Obligations.PathResets := by
  unfold Obligations.PathResets
  intro s x tag on takes
  have answer (v : Word) := State.place_takes on (Wall.takesNow_iff.mp takes) tag [v] (Wall.posted_kindAt_service x .pathReset tag _ _ rfl) rfl
  refine ⟨fun join queue => ⟨_, rfl, answer _, ?_⟩, fun carried queue => ⟨_, rfl, answer _, ?_⟩, fun n owner waiting => ⟨_, rfl, answer _, ?_⟩⟩
  · dsimp only
    rw [Wall.take_pathReset (m := 0) rfl (by decide) (s.wall.mechanismBusy_transport.mpr ⟨join, queue⟩), Wall.acceptPathReset_transport]
    exact ⟨rfl, rfl, s.wall.posted_startWork_state x tag _, rfl, rfl⟩
  · dsimp only
    rw [Wall.take_pathReset (m := 1) rfl (by decide) (s.wall.mechanismBusy_conveyor.mpr ⟨carried, queue⟩), Wall.acceptPathReset_conveyor]
    exact ⟨rfl, s.wall.posted_startWork_state x tag _, rfl, rfl⟩
  · have names : (word (2 + n.val)).toNat = 2 + n.val := Nat.mod_eq_of_lt (by omega)
    dsimp only
    rw [Wall.take_pathReset names (by omega) ((s.wall.mechanismBusy_drawer n).mpr ⟨owner, waiting⟩), Wall.acceptPathReset_drawer]
    have lanes : ((s.wall.posted servicePage x .pathReset tag [word (2 + n.val)]).startWork servicePage x).lanes = s.wall.lanes := rfl
    cases sensor : (s.wall.lanes.get n).stowedSensor with
    | true =>
      rw [Wall.resetDrawer_stowed x (lanes ▸ sensor)]
      have kept : (((((s.wall.posted servicePage x .pathReset tag [word (2 + n.val)]).startWork servicePage x).modLane n
          fun l => { l with drawer := l.restState, bounce := 0, travel := .none, budgetMs := 0 }).finish servicePage x .done [])).lanes =
          tabMod s.wall.lanes n fun l => { l with drawer := l.restState, bounce := 0, travel := .none, budgetMs := 0 } :=
        Wall.finishAt_service _ x .done [] _
      rw [kept, tabMod_get_same, Wall.finish_slot]
      exact ⟨fun _ => ⟨rfl, rfl, rfl⟩, fun no => absurd no (by decide), owner, fun m => tabMod_get_other _ _⟩
    | false =>
      rw [Wall.resetDrawer_out x (lanes ▸ sensor), Wall.startClose_lane, lanes]
      exact ⟨fun no => absurd no (by decide), fun _ => ⟨rfl, rfl, rfl, s.wall.posted_startWork_state x tag _⟩, owner, fun m => tabMod_get_other _ _⟩

end Sys2Proof.Machine
end

section
/-! SUPPORT. Tenures of the note path and the stacker (R91, R94, R97): when nothing is on its way, what a dump leaves, and what a building tenure leaves that
ends with its order. -/

namespace Sys2Proof.Machine

/-! ### Commands that act on what is ready -/

theorem Wall.whenSome_some {α : Type} {o : Option α} {a : α} (f : α → Wall → Wall) (w : Wall) (h : o = some a) : w.whenSome o f = f a w := by
  rw [h, Wall.whenSome]

theorem Wall.whenSome_none {α : Type} {o : Option α} (f : α → Wall → Wall) (w : Wall) (h : o = none) : w.whenSome o f = w := by
  rw [h, Wall.whenSome]

/-! ### The path at rest (R93, R94) -/

theorem Gate.pendingPicks_eq_zero (g : Gate) : g.pendingPicks = 0 ↔ g.openPicks = [] ∧ ∀ y ∈ g.passages, y.fromPick = false := by
  simp [Gate.pendingPicks, List.filter_eq_nil_iff]

theorem Wall.pathSettled_iff (w : Wall) :
    w.pathSettled = true ↔ w.gate.openPicks = [] ∧ (∀ y ∈ w.gate.passages, y.fromPick = false) ∧ w.transport.watch = [] := by
  rw [Wall.pathSettled, Bool.and_eq_true, beq_iff_eq, Gate.pendingPicks_eq_zero, List.isEmpty_iff, and_assoc]

/-! ### The dump of the stacker (R97) -/

/-- A dump changes the bins, the board and the transport alone. -/
theorem Wall.dumpStacker_frame (w : Wall) :
    w.dumpStacker =
      { w with bins := w.dumpStacker.bins, board := w.dumpStacker.board, lost := w.dumpStacker.lost,
               transport := { w.transport with composition := Counts.zero, dump := none } } := by
  rw [Wall.dumpStacker, Wall.creditBin_frame]
  rfl

theorem Wall.dumpStacker_bins (w : Wall) : w.dumpStacker.bins = (w.creditBin rejectBin w.transport.stackerCount).bins := rfl

/-- The stacker's notes are in the reject bin, and the other bins hold what they held (R97, R116). -/
theorem Wall.dumpStacker_counts (w : Wall) :
    (w.dumpStacker.bins.get rejectBin).count = min 65535 ((w.bins.get rejectBin).count + w.transport.stackerCount)
      ∧ ∀ j, j ≠ rejectBin → w.dumpStacker.bins.get j = w.bins.get j := by
  rw [Wall.dumpStacker_bins]
  exact ⟨Wall.creditBin_count .., fun _ => Wall.creditBin_other _ w⟩

theorem Wall.dumpStacker_news (w : Wall) : w.dumpStacker.SameNews (w.creditBin rejectBin w.transport.stackerCount) := ⟨rfl, rfl, rfl⟩

/-! ### The end of a DISPENSE in the engine (R91, R105) -/

theorem Wall.endTenure_loaded (w : Wall) : w.endTenure.engine.loaded = none := Wall.reservationLaw.writeBack_loaded w

/-- The end of a tenure changes the pages, the engine, the transport and the gate alone. -/
theorem Wall.endTenure_frame (w : Wall) :
    w.endTenure = { w with pages := w.endTenure.pages, engine := w.endTenure.engine, transport := w.endTenure.transport, gate := w.endTenure.gate } := by
  unfold Wall.endTenure Wall.writeBack
  split <;> rfl

/-- The end of a DISPENSE that is not in tenure leaves the engine's loaded context. -/
theorem Wall.finishDispenseAt_loaded (d : Decision) {n : LaneId} (jammed : Bool) {w : Wall} (apart : w.engine.loaded.map Loaded.lane ≠ some n) :
    (w.finishDispenseAt d n jammed).engine.loaded = w.engine.loaded := by
  have released : (w.releaseOutstanding n).engine.loaded = w.engine.loaded := by
    unfold Wall.releaseOutstanding
    split
    · next c _ =>
      cases order : w.orderOf n .dispense with
      | none =>
        have still : (w.unreserve c.outstanding).modContext n (fun c => { c with outstanding := Counts.zero }) = w.unreserve c.outstanding := by
          have order' : (w.unreserve c.outstanding).orderOf n .dispense = none := order
          simp only [Wall.modContext, order']
        rw [still]
        rfl
      | some x =>
        rw [Wall.modContext_progress (w := w.unreserve c.outstanding) _ order apart]
        rfl
    · rfl
  rcases Wall.finishDispenseAt_cases d n jammed w with ⟨x, c, t, order, context, tally⟩ | idle
  · simp only [Wall.finishDispenseAt, order, context, tally, released, apart, if_false]
    rw [Wall.finishAt_frame]
    exact released
  · rw [idle]

/-- A DISPENSE has ended with its building tenure (R94, R97, R105): its order is finished with its tally, what was outstanding is released, its lane has
neither it nor its bundle, and the path is IDLE with its queue. -/
structure Wall.TenureEnded (w u : Wall) (n : LaneId) (x : SlotId) (c : DispenseContext) (ty : Tally) : Prop where
  outcome : w.finishedWith u (lanePage n) x (dispenseOutcome false c ty) (tallyWords c ty (w.valueOf ty.presented) w.duressAlarm)
  lanes : u.lanes = tabMod w.lanes n fun l =>
    { l.leave x with duress := l.duress || w.duressAlarm, bundle := { l.bundle with slot := none, phase := .none } }
  tally : u.tallyOf n = none
  reserved : ∀ k, (u.cassettes.get k).reserved = (w.cassettes.get k).reserved - c.outstanding.get k
  transport : u.transport = { w.transport with state := .idle, join := .none }
  gate : u.gate = { w.gate with acceptEnable := false }
  unloaded : u.engine.loaded = none
  frame : u = { w with pages := u.pages, flags := u.flags, lanes := u.lanes, engine := u.engine, cassettes := u.cassettes,
                       transport := u.transport, gate := u.gate }

theorem Wall.TenureEnded.owner {w u : Wall} {n : LaneId} {x : SlotId} {c : DispenseContext} {ty : Tally} (h : w.TenureEnded u n x c ty) :
    (u.lanes.get n).owner ≠ some x := by
  rw [h.lanes, tabMod_get_same]
  show (if (w.lanes.get n).owner = some x then none else (w.lanes.get n).owner) ≠ some x
  split
  · simp
  · next other => exact other

theorem Wall.TenureEnded.others {w u : Wall} {n : LaneId} {x : SlotId} {c : DispenseContext} {ty : Tally} (h : w.TenureEnded u n x c ty) (m : LaneId)
    (e : m ≠ n) : u.lanes.get m = w.lanes.get m := by
  rw [h.lanes, tabMod_get_other _ _ e]

/-- The tenure of a DISPENSE ends without a purge (R94, R60, R105). -/
theorem Wall.Dispensing.endEmpty {w : Wall} {n : LaneId} {x : SlotId} {c : DispenseContext} {ty : Tally} (h : w.Dispensing n x c ty) {l : Loaded}
    (loaded : w.engine.loaded = some l) (lane : l.lane = n) (slot : l.slot = x) : w.TenureEnded (w.endEmpty n) n x c ty := by
  have ended := h.endTenure loaded lane slot
  have tenure := w.endTenure_frame
  have late : (w.endTenure.slot (lanePage n) x).tooLate = (w.slot (lanePage n) x).tooLate := by rw [Wall.endTenure_slot]
  obtain ⟨path, gate⟩ := w.endTenure_path
  have unloaded := w.endTenure_loaded
  have now : w.endTenure.decision = w.decision := by rw [tenure]; rfl
  obtain ⟨state, result, -, lanes, tally, reserved, transport, ends, -⟩ :=
    Wall.finishDispenseAt_spec w.endTenure.decision false ended.order ended.context ended.tally
  have stays := Wall.finishDispenseAt_loaded w.endTenure.decision (n := n) false (w := w.endTenure) (by rw [unloaded]; simp)
  have frame := ends.frame
  unfold Wall.endEmpty Wall.finishDispense
  generalize w.endTenure.finishDispenseAt w.endTenure.decision n false = u at *
  generalize w.endTenure = v at *
  refine ⟨⟨state, ?_⟩, ?_, tally, fun k => ?_, transport.trans path, ?_, stays.trans unloaded, ?_⟩
  · rw [result, now, late, tenure]
    rfl
  · rw [lanes, now, tenure]
    rfl
  · rw [reserved k, tenure]
  · rw [frame]
    exact gate
  · rw [frame, tenure]

end Sys2Proof.Machine
end

section
/-! PROOF. Purges, dumps and clearances (O55). -/

namespace Sys2Proof.Machine

/-! ### When a purge starts, and when a clearance's belt stops (R97, R99) -/

theorem Wall.readyPurge_iff (w : Wall) (n : LaneId) :
    w.readyPurge = some n ↔
      ∃ k, w.transport.join = .dispense n ∧ w.contextOf n = some k ∧ w.transport.state = .granted ∧ k.phase = .building ∧ k.endCause ≠ .none
        ∧ w.gate.openPicks = [] ∧ (∀ y ∈ w.gate.passages, y.fromPick = false) ∧ w.transport.watch = []
        ∧ 0 < w.transport.stackerCount ∧ w.held = false := by
  have settled := w.pathSettled_iff
  unfold Wall.readyPurge
  cases join : w.transport.join with
  | dispense m =>
    by_cases same : m = n
    · subst same
      cases context : w.contextOf m <;> simp [context, settled, and_assoc]
    · cases context : w.contextOf m <;> simp [context, same]
  | _ => simp

theorem Wall.beltCleared_iff (w : Wall) :
    w.beltCleared = true ↔ w.transport.state = .clearing ∧ w.transport.dump = none ∧ w.transport.clearPulses = 0 ∧ w.transport.watch = []
      ∧ w.held = false := by
  simp [Wall.beltCleared, and_assoc]

/-- A purge starts (R97). -/
theorem Wall.startPurge_spec {w : Wall} {n : LaneId} {x : SlotId} {k : DispenseContext} (order : w.orderOf n .dispense = some x)
    (context : w.contextOf n = some k) :
    (w.startPurge n).transport = { w.transport with state := .purging, dump := some { purpose := .tenure, leftMs := 1500 } }
      ∧ ((w.startPurge n).contextOf n).map DispenseContext.phase = some .purging ∧ (w.startPurge n).lanes = w.lanes
      ∧ (w.startPurge n).bins = w.bins := by
  have frame := (Wall.modContext_moves n (fun c => { c with phase := .purging }) w).frame
  obtain ⟨-, changed⟩ := Wall.modContext_contextOf (fun c => { c with phase := .purging }) order
  have read : (w.startPurge n).contextOf n = (w.modContext n fun c => { c with phase := .purging }).contextOf n := rfl
  rw [read, changed, context, Wall.startPurge]
  generalize w.modContext n (fun c => { c with phase := .purging }) = v at *
  rw [frame]
  exact ⟨rfl, rfl, rfl, rfl⟩

/-! ### What a purge's dump leaves (R97) -/

/-- The purged notes are counted where the order has a tally, and of the engine nothing else changes. -/
theorem Wall.purgeNotes_frame (n : LaneId) (w : Wall) :
    w.purgeNotes n =
      { w with bins := w.dumpStacker.bins, board := w.dumpStacker.board, lost := w.dumpStacker.lost,
               transport := { w.transport with composition := Counts.zero, dump := none },
               engine :=
                { w.engine with
                    tallies := tabMod w.engine.tallies n (Option.map fun t => { t with purged := t.purged + w.transport.stackerCount }) } } := by
  rw [Wall.purgeNotes, Wall.dumpStacker_frame]
  rfl

theorem Wall.Dispensing.purged {w : Wall} {n : LaneId} {x : SlotId} {c : DispenseContext} {ty : Tally} (h : w.Dispensing n x c ty) :
    (w.purgeNotes n).Dispensing n x c { ty with purged := ty.purged + w.transport.stackerCount } := by
  rw [Wall.purgeNotes_frame]
  refine ⟨h.order, h.context, ?_⟩
  exact (tabMod_get_same _ n _).trans (congrArg (Option.map _) h.tally)

/-! ### The end of a clearance (R99) -/

/-- The wall with the news of a clearance's pieces, where it has seen or lost any (R99). -/
def Wall.clearanceNoted (w : Wall) : Wall :=
  if 0 < w.transport.seen ∨ 0 < w.transport.unaccounted then
    w.post (.clearancePieces rejectBin) (min 255 w.transport.seen * 256 + min 255 w.transport.unaccounted)
  else w

theorem Wall.clearanceNoted_frame (w : Wall) : w.clearanceNoted = { w with board := w.clearanceNoted.board, lost := w.clearanceNoted.lost } := by
  unfold Wall.clearanceNoted
  split
  · exact Wall.post_frame ..
  · rfl

theorem Wall.clearanceNoted_news (w : Wall) :
    (0 < w.transport.seen ∨ 0 < w.transport.unaccounted →
        ∀ e, e = w.post (.clearancePieces rejectBin) (min 255 w.transport.seen * 256 + min 255 w.transport.unaccounted) →
          w.clearanceNoted.board = e.board ∧ w.clearanceNoted.lost = e.lost)
      ∧ (w.transport.seen = 0 → w.transport.unaccounted = 0 → w.clearanceNoted = w) := by
  refine ⟨fun pieces e shown => ?_, fun seen gone => ?_⟩
  · rw [Wall.clearanceNoted, if_pos pieces, shown]
    exact ⟨rfl, rfl⟩
  · rw [Wall.clearanceNoted, if_neg (by omega)]

/-- The news of a clearance after its dump: what the dump's credit posts, and then the clearance's pieces (R99, R116). -/
theorem Wall.dumpStacker_clearanceNews {w v : Wall} (credited : v = w.creditBin rejectBin w.transport.stackerCount) :
    (0 < w.transport.seen ∨ 0 < w.transport.unaccounted →
        ∀ e, e = v.post (.clearancePieces rejectBin) (min 255 w.transport.seen * 256 + min 255 w.transport.unaccounted) →
          w.dumpStacker.clearanceNoted.board = e.board ∧ w.dumpStacker.clearanceNoted.lost = e.lost)
      ∧ (w.transport.seen = 0 → w.transport.unaccounted = 0 →
        w.dumpStacker.clearanceNoted.board = v.board ∧ w.dumpStacker.clearanceNoted.lost = v.lost) := by
  subst credited
  have news := w.dumpStacker_news
  obtain ⟨pieces, quiet⟩ := w.dumpStacker.clearanceNoted_news
  have seen : w.dumpStacker.transport.seen = w.transport.seen := by rw [Wall.dumpStacker_frame]
  have gone : w.dumpStacker.transport.unaccounted = w.transport.unaccounted := by rw [Wall.dumpStacker_frame]
  rw [seen, gone] at pieces quiet
  refine ⟨fun some_pieces e shown => ?_, fun no_seen no_gone => ?_⟩
  · have posted := (news.post (.clearancePieces rejectBin) (min 255 w.transport.seen * 256 + min 255 w.transport.unaccounted)).shown e shown
    obtain ⟨board, lost⟩ := pieces some_pieces _ rfl
    exact ⟨board.trans posted.1, lost.trans posted.2⟩
  · rw [quiet no_seen no_gone]
    exact ⟨news.board, news.lost⟩

/-- The wall at the end of a clearance, before its PATH RESET finishes. -/
def Wall.cleared (w : Wall) : Wall :=
  (((w.clearanceNoted.modTransport fun t => { t with unaccounted := 0 }).setInternal 12 false).modTransport
    fun t => { t with join := .none, state := .idle }).modPort fun p => { p with transportReady := true }

theorem Wall.endClearance_eq (dumped : Nat) (w : Wall) :
    w.endClearance dumped =
      match w.cleared.pathReset 0 with
      | some s => w.cleared.finish servicePage s .done (w.clearanceFields dumped)
      | none => w.cleared := rfl

/-- What the end of a clearance leaves besides its PATH RESET: the news, point 12 NORMAL, and a transport that is IDLE and ready (R99). -/
theorem Wall.cleared_frame (w : Wall) :
    ∃ points, (points.get 12).live = false
      ∧ w.cleared =
        { w with board := w.clearanceNoted.board, lost := w.clearanceNoted.lost, points := points, port := { w.port with transportReady := true },
                 transport := { w.transport with unaccounted := 0, join := .none, state := .idle } } := by
  have noted := w.clearanceNoted_frame
  unfold Wall.cleared
  generalize w.clearanceNoted = v at *
  obtain ⟨f, normal, set⟩ := Wall.setInternal_normal 12 (v.modTransport fun t => { t with unaccounted := 0 })
  refine ⟨tabMod v.points 12 f, ?_, ?_⟩
  · rw [tabMod_get_same]
    exact normal
  · rw [set, noted]
    rfl

theorem Wall.cleared_pathReset (w : Wall) : w.cleared.pathReset 0 = w.pathReset 0 := by
  obtain ⟨points, -, frame⟩ := w.cleared_frame
  refine Wall.pathReset_congr fun x => Wall.slot_congr ?_ servicePage x
  rw [frame]

/-- The end of a clearance changes what `Wall.cleared` says, and besides it the pages and the flags alone, where a PATH RESET of the transport finishes. -/
theorem Wall.endClearance_frame (dumped : Nat) (w : Wall) :
    w.endClearance dumped = { w.cleared with pages := (w.endClearance dumped).pages, flags := (w.endClearance dumped).flags } := by
  rw [Wall.endClearance_eq]
  split
  · rw [Wall.finish_service_frame]
  · rfl

theorem Wall.endClearance_pages {w : Wall} (dumped : Nat) (h : w.pathReset 0 = none) : (w.endClearance dumped).pages = w.pages := by
  obtain ⟨points, -, frame⟩ := w.cleared_frame
  rw [Wall.endClearance_eq, Wall.cleared_pathReset, h]
  dsimp only
  rw [frame]

theorem Wall.endClearance_order {w : Wall} {x : SlotId} (dumped : Nat) (h : w.pathReset 0 = some x) :
    w.finishedWith (w.endClearance dumped) servicePage x .done (w.clearanceFields dumped) := by
  obtain ⟨points, -, frame⟩ := w.cleared_frame
  rw [Wall.endClearance_eq, Wall.cleared_pathReset, h]
  dsimp only
  refine ⟨by rw [Wall.finish_slot], ?_⟩
  rw [Wall.finish_slot, frame]
  rfl

/-! ### The statement -/

/-- A dump that runs ends at PURGE_END, outside hold (R97). -/
theorem Wall.endDump_runs {w : Wall} {p : DumpFor} (purpose : w.transport.dump.map Dump.purpose = some p) (free : w.held = false) :
    ∃ d, d.purpose = p ∧ w.whenSome w.runningDump Wall.endDump = w.endDump d := by
  obtain ⟨d, dump, named⟩ := Option.map_eq_some_iff.mp purpose
  exact ⟨d, named, Wall.whenSome_some _ _ (by rw [Wall.runningDump, free]; exact dump)⟩

/-- Settles O55, clause by clause: when the commands act, and then what each purpose of a dump leaves. -/
theorem purgesAndClearances : Obligations.PurgesAndClearances := by
  unfold Obligations.PurgesAndClearances
  intro s on
  obtain ⟨count, bins⟩ := s.wall.dumpStacker_counts
  refine ⟨s.wall.readyPurge_iff, fun idle => ?notReady, s.wall.beltCleared_iff, fun goes => ?notCleared, fun n x ready order => ?start,
    fun n x purpose free join order l loaded lane slot ty tally => ?tenure,
    fun n x c ty purpose free order context tally faulted apart => ?fault, fun purpose free => ?fault_alone, fun purpose free => ?clearance,
    fun stopped => ?stopped, fun clear => State.onWall_eq on (if_pos clear)⟩
  case notReady => exact State.onWall_idle (Wall.whenSome_none _ _ idle)
  case notCleared => exact State.onWall_idle (if_neg (Bool.eq_false_iff.mp goes))
  case start =>
    obtain ⟨k, -, context, -⟩ := (s.wall.readyPurge_iff n).mp ready
    exact ⟨_, State.onWall_eq on (Wall.whenSome_some _ _ ready), Wall.startPurge_spec order context⟩
  case tenure =>
    have holds : s.wall.Dispensing n x l.context ty := ⟨order, by simp only [Wall.contextOf, loaded, lane, if_true], tally⟩
    have notes := s.wall.purgeNotes_frame n
    have ended := holds.purged.endEmpty (l := l) (by rw [notes]; exact loaded) lane slot
    obtain ⟨d, named, runs⟩ := Wall.endDump_runs purpose free
    have goes : s.wall.whenSome s.wall.runningDump Wall.endDump = ((s.wall.purgeNotes n).endEmpty n).transportGrant := by
      rw [runs]
      simp only [Wall.endDump, named, join]
    refine ⟨_, rfl, State.onWall_evaluated on goes, ?_⟩
    generalize (s.wall.purgeNotes n).endEmpty n = u at *
    generalize s.wall.purgeNotes n = v at *
    have inBins : u.bins = s.wall.dumpStacker.bins := by rw [ended.frame, notes]
    have path := ended.transport
    have outcome := ended.outcome
    have lanes := ended.others
    have reserved := ended.reserved
    have gate := ended.gate
    rw [notes] at path outcome lanes reserved gate
    rw [inBins, path]
    exact ⟨count, bins, rfl, rfl, rfl, rfl, rfl, outcome, reserved, ended.owner, ended.unloaded, gate, ended.tally, lanes⟩
  case fault =>
    have notes := s.wall.purgeNotes_frame n
    have holds : (s.wall.purgeNotes n).Dispensing n x c { ty with purged := ty.purged + s.wall.transport.stackerCount } :=
      Wall.Dispensing.purged ⟨order, context, tally⟩
    obtain ⟨state, result, -, lanes, gone, reserved, path, ends, -⟩ :=
      Wall.finishDispenseAt_spec (s.wall.purgeNotes n).decision false holds.order holds.context holds.tally
    obtain ⟨d, named, runs⟩ := Wall.endDump_runs purpose free
    have goes : s.wall.whenSome s.wall.runningDump Wall.endDump = (s.wall.purgeNotes n).finishDispense n false := by
      rw [runs]
      simp only [Wall.endDump, named]
    refine ⟨_, rfl, State.onWall_evaluated on rfl, ?_⟩
    dsimp only
    rw [goes, Wall.finishDispense]
    have inBins := ends.bins
    generalize (s.wall.purgeNotes n).finishDispenseAt _ n false = u at *
    generalize s.wall.purgeNotes n = v at *
    have blamed : dispenseOutcome false c { ty with purged := ty.purged + s.wall.transport.stackerCount } = .transportFault := by
      simp [dispenseOutcome, faulted]
    rw [blamed] at result
    subst notes
    rw [inBins, path]
    refine ⟨count, rfl, state, result, reserved, ?_, gone, fun m e => ?_⟩
    · rw [lanes, tabMod_get_same]
      show (if (s.wall.lanes.get n).owner = some x then none else (s.wall.lanes.get n).owner) ≠ some x
      split
      · simp
      · next other => exact other
    · rw [lanes, tabMod_get_other _ _ e]
  case fault_alone =>
    obtain ⟨d, named, runs⟩ := Wall.endDump_runs purpose free
    have goes : s.wall.whenSome s.wall.runningDump Wall.endDump = s.wall.dumpStacker := by
      rw [runs]
      simp only [Wall.endDump, named]
    refine ⟨_, rfl, State.onWall_evaluated on rfl, ?_⟩
    dsimp only
    rw [goes]
    refine ⟨count, ?_, ?_, ?_⟩ <;> rw [Wall.dumpStacker_frame]
  case clearance =>
    obtain ⟨d, named, runs⟩ := Wall.endDump_runs purpose free
    have goes : s.wall.whenSome s.wall.runningDump Wall.endDump =
        (s.wall.dumpStacker.endClearance s.wall.transport.stackerCount).transportGrant := by
      rw [runs]
      simp only [Wall.endDump, named]
    refine ⟨_, rfl, State.onWall_evaluated on goes, ?_⟩
    have dumped := s.wall.dumpStacker_frame
    have frame := s.wall.dumpStacker.endClearance_frame s.wall.transport.stackerCount
    obtain ⟨points, normal, cleared⟩ := s.wall.dumpStacker.cleared_frame
    have same : s.wall.dumpStacker.pathReset 0 = s.wall.pathReset 0 := by rw [dumped]; rfl
    have unordered (h : s.wall.pathReset 0 = none) := Wall.endClearance_pages s.wall.transport.stackerCount (same.trans h)
    have order {x : SlotId} (h : s.wall.pathReset 0 = some x) := Wall.endClearance_order s.wall.transport.stackerCount (same.trans h)
    have news {w : Wall} := Wall.dumpStacker_clearanceNews (w := s.wall) (v := w)
    rw [cleared] at frame
    generalize s.wall.dumpStacker.clearanceNoted = noted at *
    generalize s.wall.dumpStacker.endClearance s.wall.transport.stackerCount = u at *
    generalize s.wall.dumpStacker = v at *
    have path : u.transport = { s.wall.transport with composition := Counts.zero, dump := none, unaccounted := 0, join := .none, state := .idle } := by
      rw [frame, dumped]
    have inBins : u.bins = v.bins := by rw [frame]
    rw [path, inBins]
    refine ⟨rfl, count, rfl, rfl, rfl, rfl, ?_, by rw [frame, dumped], fun w credited => ?_, by rw [frame, dumped],
      fun h => (unordered h).trans (by rw [dumped]), fun x h => ?_⟩
    · rw [frame]
      exact normal
    · rw [congrArg Wall.board frame, congrArg Wall.lost frame]
      exact news credited
    · obtain ⟨state, result⟩ := order h
      rw [dumped] at result
      exact ⟨state, result⟩
  case stopped =>
    refine State.onWall_evaluated on (Wall.whenSome_none _ _ ?_)
    rcases stopped with held | dump
    · rw [Wall.runningDump, if_pos held]
    · rw [Wall.runningDump, dump, ite_self]

end Sys2Proof.Machine
end

section
/-! PROOF. Deliveries (O54): when one starts, the notes presented at its end, and what follows it. -/

namespace Sys2Proof.Machine

/-! ### When a delivery starts and runs (R95) -/

theorem Wall.readyDelivery_iff (w : Wall) (n : LaneId) :
    w.readyDelivery = some n ↔
      ∃ k ty, w.transport.join = .dispense n ∧ w.contextOf n = some k ∧ w.tallyOf n = some ty ∧ w.transport.state = .granted
        ∧ k.phase = .building ∧ (w.engine.routedInBundle = k.target ∨ k.final = true)
        ∧ w.gate.openPicks = [] ∧ (∀ y ∈ w.gate.passages, y.fromPick = false) ∧ w.transport.watch = []
        ∧ 0 < w.transport.stackerCount ∧ k.endCause = .none ∧ ty.faulted = false ∧ ty.remixWait = false
        ∧ (w.lanes.get n).drawer = .stowed ∧ (w.lanes.get n).forced = false ∧ w.held = false := by
  unfold Wall.readyDelivery
  cases join : w.transport.join with
  | dispense m =>
    cases context : w.contextOf m with
    | none =>
      simp only [context, reduceCtorEq, false_iff, Join.dispense.injEq]
      rintro ⟨k, ty, rfl, holds, -⟩
      rw [context] at holds
      cases holds
    | some k =>
      cases tally : w.tallyOf m with
      | none =>
        simp only [context, tally, reduceCtorEq, false_iff, Join.dispense.injEq]
        rintro ⟨k, ty, rfl, -, holds, -⟩
        rw [tally] at holds
        cases holds
      | some ty =>
        have open_end : w.endBegun m = false ↔ k.endCause = .none ∧ ty.faulted = false := by simp [Wall.endBegun, context, tally]
        have complete : w.bundleReady k = true ↔ (w.gate.openPicks = [] ∧ (∀ y ∈ w.gate.passages, y.fromPick = false) ∧ w.transport.watch = [])
            ∧ (w.engine.routedInBundle = k.target ∨ k.final = true) ∧ 0 < w.transport.stackerCount := by
          rw [← w.pathSettled_iff]
          simp [Wall.bundleReady, and_assoc]
        simp only [context, tally, open_end, complete, Option.ite_none_right_eq_some, Option.some.injEq, Join.dispense.injEq]
        constructor
        · rintro ⟨⟨granted, building, ⟨⟨open_, passages, watch⟩, bundle, notes⟩, ⟨cause, sound⟩, settled, stowed, seated, free⟩, rfl⟩
          exact ⟨k, ty, rfl, context, tally, granted, building, bundle, open_, passages, watch, notes, cause, sound, settled, stowed, seated, free⟩
        · rintro ⟨k', ty', rfl, same, same', granted, building, bundle, open_, passages, watch, notes, cause, sound, settled, stowed, seated, free⟩
          obtain rfl := Option.some.inj (context.symm.trans same)
          obtain rfl := Option.some.inj (tally.symm.trans same')
          exact ⟨⟨granted, building, ⟨⟨open_, passages, watch⟩, bundle, notes⟩, ⟨cause, sound⟩, settled, stowed, seated, free⟩, rfl⟩
  | _ => simp

theorem Wall.deliveringLane_iff (w : Wall) (n : LaneId) :
    w.deliveringLane = some n ↔ w.transport.join = .dispense n ∧ (w.contextOf n).map DispenseContext.phase = some .delivering := by
  unfold Wall.deliveringLane
  cases join : w.transport.join with
  | dispense m =>
    by_cases same : m = n
    · subst same
      cases context : w.contextOf m <;> simp [context]
    · cases context : w.contextOf m <;> simp [context, same]
  | _ => simp

theorem Wall.runningDelivery_stands {w : Wall} {n : LaneId} (lane : w.deliveringLane = some n)
    (h : w.held = true ∨ (w.lanes.get n).forced = true) : w.runningDelivery = none := by
  rw [Wall.runningDelivery, lane]
  rcases h with held | forced <;> simp [*]

theorem Wall.runningDelivery_runs {w : Wall} {n : LaneId} (lane : w.deliveringLane = some n) (free : w.held = false)
    (seated : (w.lanes.get n).forced = false) : w.runningDelivery = some n := by
  rw [Wall.runningDelivery, lane]
  simp [free, seated]

/-! ### The notes presented (R95, R91) -/

/-- The context of a DISPENSE whose bundle has been delivered into the drawer (R95). -/
def DispenseContext.delivered (count : Nat) (c : DispenseContext) : DispenseContext :=
  { c with bundles := c.bundles + 1, inDrawer := count, phase := .inDrawer }

theorem Wall.endTenure_tenure {w : Wall} {l : Loaded} (loaded : w.engine.loaded = some l) :
    w.endTenure =
      ((((w.modSlot (lanePage l.lane) l.slot fun x => { x with context := some l.context }).modEngine fun e => { e with loaded := none }).modTransport
        fun t => { t with state := .idle, join := .none }).modGate fun g => { g with acceptEnable := false }) := by
  simp only [Wall.endTenure, Wall.writeBack, loaded]

/-- The wall when the stacker's notes have been presented, before the tenure ends (R95). -/
def Wall.handed (n : LaneId) (w : Wall) : Wall :=
  ((((w.modTally n fun t => { t with presented := addCounts t.presented w.transport.composition }).modTransport fun t =>
    { t with composition := Counts.zero, presentedTotal := raise32 t.presentedTotal w.transport.stackerCount }).modContext n
      (DispenseContext.delivered w.transport.stackerCount)).modEngine fun e => { e with deliveryMs := 0 }).modLane n fun l =>
        { l with itemSensor := true, bundle := { l.bundle with slot := w.orderOf n .dispense, notes := w.transport.stackerCount } }

theorem Wall.deliver_eq (n : LaneId) (w : Wall) : w.deliver n = (w.handed n).endTenure := rfl

theorem Wall.handed_slot (n : LaneId) (w : Wall) (p : PageId) (y : SlotId) :
    (w.handed n).slot p y = { w.slot p y with context := ((w.handed n).slot p y).context } :=
  (Wall.modContext_moves n (DispenseContext.delivered w.transport.stackerCount) _).slot p y

/-- What the presentation changes: the context, the tally, the stacker and the lane (R91, R95). -/
theorem Wall.handed_frame (n : LaneId) (w : Wall) : ∃ pages loaded,
    w.handed n =
      { w with
          pages := pages,
          lanes := tabMod w.lanes n fun l =>
            { l with itemSensor := true, bundle := { l.bundle with slot := w.orderOf n .dispense, notes := w.transport.stackerCount } },
          engine :=
            { w.engine with
                loaded := loaded, deliveryMs := 0,
                tallies := tabMod w.engine.tallies n (Option.map fun t => { t with presented := addCounts t.presented w.transport.composition }) },
          transport :=
            { w.transport with composition := Counts.zero, presentedTotal := raise32 w.transport.presentedTotal w.transport.stackerCount } } := by
  have frame := (Wall.modContext_moves n (DispenseContext.delivered w.transport.stackerCount)
    ((w.modTally n fun t => { t with presented := addCounts t.presented w.transport.composition }).modTransport fun t =>
      { t with composition := Counts.zero, presentedTotal := raise32 t.presentedTotal w.transport.stackerCount })).frame
  refine ⟨(w.handed n).pages, (w.handed n).engine.loaded, ?_⟩
  unfold Wall.handed
  generalize Wall.modContext n _ _ = v at *
  rw [frame]
  rfl

theorem Wall.handed_loaded {w : Wall} {n : LaneId} {l : Loaded} (order : w.orderOf n .dispense = some l.slot) (loaded : w.engine.loaded = some l)
    (lane : l.lane = n) : (w.handed n).engine.loaded = some { l with context := l.context.delivered w.transport.stackerCount } :=
  Wall.modContext_loaded (w := (w.modTally n fun t => { t with presented := addCounts t.presented w.transport.composition }).modTransport fun t =>
    { t with composition := Counts.zero, presentedTotal := raise32 t.presentedTotal w.transport.stackerCount }) _ order loaded lane

/-- A bundle of a lane's order has been delivered, and its tenure has ended (R95). -/
structure Wall.Delivered (w u : Wall) (n : LaneId) (x : SlotId) (c : DispenseContext) (ty : Tally) : Prop where
  transport : u.transport =
    { w.transport with
        state := .idle, join := .none, composition := Counts.zero,
        presentedTotal := raise32 w.transport.presentedTotal w.transport.stackerCount }
  tally : u.tallyOf n = some { ty with presented := addCounts ty.presented w.transport.composition }
  unloaded : u.engine.loaded = none
  slot : u.slot (lanePage n) x = { w.slot (lanePage n) x with context := some (c.delivered w.transport.stackerCount) }
  lane : u.lanes.get n =
    { w.lanes.get n with itemSensor := true, bundle := { (w.lanes.get n).bundle with slot := some x, notes := w.transport.stackerCount } }
  gate : u.gate = { w.gate with acceptEnable := false }
  others : ∀ m, m ≠ n → u.lanes.get m = w.lanes.get m
  frame : u = { w with pages := u.pages, lanes := u.lanes, engine := u.engine, transport := u.transport, gate := u.gate }
  slots : ∀ p y, u.slot p y = { w.slot p y with context := (u.slot p y).context }

theorem Wall.deliver_spec {w : Wall} {l : Loaded} {n : LaneId} {x : SlotId} {ty : Tally} (order : w.orderOf n .dispense = some x)
    (loaded : w.engine.loaded = some l) (lane : l.lane = n) (slot : l.slot = x) (tally : w.tallyOf n = some ty) :
    w.Delivered (w.deliver n) n x l.context ty := by
  subst lane slot
  have presented := Wall.handed_loaded order loaded rfl
  have handed := w.handed_slot l.lane
  obtain ⟨pages, kept, frame⟩ := w.handed_frame l.lane
  rw [order] at frame
  rw [Wall.deliver_eq]
  have slots : ∀ p y, (w.handed l.lane).endTenure.slot p y = { w.slot p y with context := ((w.handed l.lane).endTenure.slot p y).context } :=
    fun p y => by rw [Wall.endTenure_slot, handed]
  rw [Wall.endTenure_tenure presented] at slots ⊢
  generalize w.handed l.lane = v at *
  refine ⟨?_, ?_, rfl, ?_, ?_, ?_, fun m e => ?_, ?_, slots⟩
  · rw [frame]
    rfl
  · rw [frame]
    exact (tabMod_get_same w.engine.tallies _ _).trans (congrArg (Option.map _) tally)
  · refine (Wall.modSlot_slot_same _ _ _ _).trans ?_
    rw [handed]
  · rw [frame]
    exact tabMod_get_same _ _ _
  · rw [frame]
    rfl
  · rw [frame]
    exact tabMod_get_other _ _ e
  · rw [frame]
    rfl

/-! ### The end of a delivery (R95, R101, R102) -/

theorem Wall.endDelivery_take {w : Wall} {n : LaneId} {c : DispenseContext} (context : w.contextOf n = some c) (cause : c.endCause = .none) :
    w.endDelivery n = (w.deliver n).transportGrant.startTake n := by
  simp only [Wall.endDelivery, context, Option.map_some, Option.getD_some, cause, if_true]

theorem Wall.endDelivery_held {w : Wall} {n : LaneId} {c : DispenseContext} (context : w.contextOf n = some c) (cause : c.endCause ≠ .none) :
    w.endDelivery n = (w.deliver n).transportGrant.takeHeld n := by
  simp only [Wall.endDelivery, context, Option.map_some, Option.getD_some, cause, if_false]

/-- The lane whose take cycle has ended at once, with the drawer HOLDING and the result LEFT (R101, R18). -/
def Lane.leftHeld (l : Lane) : Lane :=
  { l with cycle := .none, result := .left, late := false, shortTimer := false, ownerClose := none, drawer := .holding }

/-- The wall when the bundle of a DISPENSE is left in its drawer, before it requests its retract (R95, R101). -/
def Wall.bundleLeft (n : LaneId) (x : SlotId) (c : DispenseContext) (w : Wall) : Wall :=
  ((((w.modLane n Lane.leftHeld).unreserve c.outstanding).modSlot (lanePage n) x fun y =>
    { y with context := y.context.map fun c => { c with outstanding := Counts.zero } }).modTally n fun t =>
      { t with bundleLeft := true, remixWait := false }).modSlot (lanePage n) x fun y =>
        { y with context := y.context.map fun c => { c with phase := .retracting } }

/-- A DISPENSE whose take cycle may not open the drawer requests its retract (R101, R107, R108). -/
theorem Wall.takeHeld_requests {w : Wall} {n : LaneId} {x : SlotId} {c : DispenseContext} (order : w.orderOf n .dispense = some x)
    (owner : (w.lanes.get n).owner = some x) (unloaded : w.engine.loaded = none) (context : (w.slot (lanePage n) x).context = some c)
    (sound : w.transport.state ≠ .faulted) : w.takeHeld n = ((w.bundleLeft n x c).queueRetract n).transportGrant := by
  obtain ⟨-, kind⟩ := Wall.orderOf_some order
  have apart : w.engine.loaded.map Loaded.lane ≠ some n := by rw [unloaded]; simp
  have read : (w.modLane n Lane.leftHeld).contextOf n = some c := (Wall.contextOf_progress order apart).trans context
  have released := Wall.modContext_progress (w := (w.modLane n Lane.leftHeld).unreserve c.outstanding) (fun c => { c with outstanding := Counts.zero })
    order apart
  obtain ⟨order', -⟩ := Wall.modContext_contextOf (w := (w.modLane n Lane.leftHeld).unreserve c.outstanding) (fun c => { c with outstanding := Counts.zero })
    order
  rw [released] at order'
  have retracting := Wall.modContext_progress
    (w := (((w.modLane n Lane.leftHeld).unreserve c.outstanding).modSlot (lanePage n) x fun y =>
      { y with context := y.context.map fun c => { c with outstanding := Counts.zero } }).modTally n fun t =>
        { t with bundleLeft := true, remixWait := false })
    (fun c => { c with phase := .retracting }) order' apart
  have ended : w.takeHeld n = (w.modLane n Lane.leftHeld).dispenseCycleEnd n .left := by
    rw [Wall.takeHeld, Wall.cycleEnd]
    simp only [Wall.modLane_get_same, owner, Wall.modLane_kindAt, kind, Wall.modLane_modLane]
    rfl
  rw [ended, Wall.dispenseCycleEnd, read]
  simp only [if_true, Wall.releaseOutstanding, read, released, retracting]
  exact if_neg sound

/-- The only request is a lane's RETRACT request, and the retract bin has room for it (R89, R109). -/
theorem Wall.transportGrant_retract {w : Wall} {n : LaneId} (idle : w.transport.state = .idle) (free : w.held = false)
    (queue : w.transport.queue = [{ lane := n, kind := .retract }]) (room : (w.bins.get retractBin).full = false) :
    w.transportGrant = w.grantRetract n .retractBin := by
  unfold Wall.transportGrant
  rw [if_pos ⟨idle, free⟩]
  simp [queue, Wall.tryRetracts, Wall.retractDestination, room]

/-- A bundle left in the drawer, its retract requested with an empty queue and granted to the retract bin (R101, R109, R110). -/
theorem Wall.bundleLeft_granted {w : Wall} {n : LaneId} {x : SlotId} {c : DispenseContext} {ty : Tally}
    (context : (w.slot (lanePage n) x).context = some c) (tally : w.tallyOf n = some ty) (alone : w.transport.queue = []) :
    let t := ((w.bundleLeft n x c).queueRetract n).grantRetract n .retractBin
    t.transport =
        { w.transport with state := .granted, join := .retract n, queue := [], quiet := 0, sweepFound := .none, silentMs := 0 }
      ∧ t.lanes.get n =
        { (w.lanes.get n).leftHeld with
            bundle :=
              { (w.lanes.get n).bundle with
                  phase := .sweeping, dest := .retractBin, pieces := 0, retracted := 0, foreign := 0, toRetract := 0, toReject := 0,
                  stalled := none } }
      ∧ (∀ m, m ≠ n → t.lanes.get m = w.lanes.get m)
      ∧ t.slot (lanePage n) x =
        { w.slot (lanePage n) x with context := some { c with outstanding := Counts.zero, phase := .retracting } }
      ∧ t.tallyOf n = some { ty with bundleLeft := true, remixWait := false }
      ∧ ∀ k, (t.cassettes.get k).reserved = (w.cassettes.get k).reserved - c.outstanding.get k := by
  have queue : (w.transport.queue ++ [({ lane := n, kind := .retract } : Request)]).filter (fun r => !(r.lane == n && r.kind == .retract)) = [] := by
    simp [alone]
  have path : (((w.bundleLeft n x c).queueRetract n).grantRetract n .retractBin).transport =
      { w.transport with
          state := .granted, join := .retract n, quiet := 0, sweepFound := .none, silentMs := 0,
          queue := (w.transport.queue ++ [({ lane := n, kind := .retract } : Request)]).filter fun r => !(r.lane == n && r.kind == .retract) } := rfl
  have lanes : (((w.bundleLeft n x c).queueRetract n).grantRetract n .retractBin).lanes =
      tabMod (tabMod (tabMod w.lanes n Lane.leftHeld) n fun l => { l with bundle := { l.bundle with phase := .queued } }) n fun l =>
        { l with bundle :=
          { l.bundle with phase := .sweeping, dest := .retractBin, pieces := 0, retracted := 0, foreign := 0, toRetract := 0, toReject := 0,
                          stalled := none } } := rfl
  dsimp only
  refine ⟨path.trans (by rw [queue]), ?_, fun m e => ?_, ?_, ?_, fun k => ?_⟩
  · rw [lanes, tabMod_get_same, tabMod_get_same, tabMod_get_same]
    rfl
  · rw [lanes, tabMod_get_other _ _ e, tabMod_get_other _ _ e, tabMod_get_other _ _ e]
  · refine (Wall.modSlot_slot_same _ _ _ _).trans ?_
    have first := Wall.modSlot_slot_same (lanePage n) x (fun y => { y with context := y.context.map fun c => { c with outstanding := Counts.zero } })
      ((w.modLane n Lane.leftHeld).unreserve c.outstanding)
    refine (congrArg
      (fun z : Slot => ({ z with context := z.context.map fun k : DispenseContext => { k with phase := .retracting } } : Slot)) first).trans ?_
    have slot : ((w.modLane n Lane.leftHeld).unreserve c.outstanding).slot (lanePage n) x = w.slot (lanePage n) x := rfl
    rw [slot, context]
    rfl
  · exact (tabMod_get_same w.engine.tallies _ _).trans (congrArg (Option.map _) tally)
  · exact congrArg Cassette.reserved (tabMap_get w.cassettes (fun k y => { y with reserved := y.reserved - c.outstanding.get k }) k)

/-! ### The statement -/

/-- Settles O54: a delivery's commands, and its end by the cause that arrived in it. -/
theorem deliveries : Obligations.Deliveries := by
  unfold Obligations.Deliveries
  refine ⟨fun s on => ⟨s.wall.readyDelivery_iff, fun idle => ?notReady, s.wall.deliveringLane_iff, fun idle => ?idle⟩,
    fun s n x on order => ⟨fun ready => ?start, fun lane stands => ?stands, fun lane free seated l loaded same slot ty tally => ?ends,
      fun lane free seated l loaded same slot cause ty tally queue unlocked => ?take,
      fun lane free seated owner l loaded same slot cause ty tally queue room => ?held⟩⟩
  case notReady => exact State.onWall_idle (Wall.whenSome_none _ _ idle)
  case idle =>
    have stands : s.wall.runningDelivery = none := by rw [Wall.runningDelivery, idle]; rfl
    exact ⟨State.onWall_evaluated on (Wall.whenSome_none _ _ stands), fun item => State.onWall_evaluated on (Wall.whenSome_none _ _ stands)⟩
  case start =>
    obtain ⟨k, ty, -, context, -⟩ := (s.wall.readyDelivery_iff n).mp ready
    obtain ⟨-, changed⟩ := Wall.modContext_contextOf (fun c => { c with phase := .delivering }) order
    have frame := (Wall.modContext_moves n (fun c => { c with phase := .delivering }) s.wall).frame
    refine ⟨_, State.onWall_eq on (Wall.whenSome_some _ _ ready), ?_⟩
    have read : (s.wall.startDelivery n).contextOf n = (s.wall.modContext n fun c => { c with phase := .delivering }).contextOf n := rfl
    dsimp only
    rw [read, changed, context, Wall.startDelivery]
    generalize s.wall.modContext n (fun c => { c with phase := .delivering }) = v at *
    rw [frame]
    exact ⟨rfl, rfl, rfl, rfl, rfl⟩
  case stands => exact State.onWall_evaluated on (Wall.whenSome_none _ _ (Wall.runningDelivery_stands lane stands))
  case ends =>
    have context : s.wall.contextOf n = some l.context := by simp only [Wall.contextOf, loaded, same, if_true]
    have runs := Wall.whenSome_some Wall.endDelivery s.wall (Wall.runningDelivery_runs lane free seated)
    have handed := Wall.deliver_spec order loaded same slot tally
    refine ⟨_, rfl, fun cause => State.onWall_evaluated on (runs.trans (Wall.endDelivery_take context cause)),
      fun cause => State.onWall_evaluated on (runs.trans (Wall.endDelivery_held context cause)), handed.transport, handed.tally, handed.unloaded,
      handed.slot, handed.lane, handed.gate, handed.others, ?_, ?_⟩
    · rw [handed.frame]
    · rw [handed.frame]
  case take =>
    have context : s.wall.contextOf n = some l.context := by simp only [Wall.contextOf, loaded, same, if_true]
    have runs := Wall.whenSome_some Wall.endDelivery s.wall (Wall.runningDelivery_runs lane free seated)
    have handed := Wall.deliver_spec order loaded same slot tally
    refine ⟨_, rfl, State.onWall_evaluated on runs, ?_⟩
    dsimp only
    rw [Wall.endDelivery_take context cause]
    generalize s.wall.deliver n = u at *
    have still : u.transportGrant = u := Wall.transportGrant_empty (by rw [handed.transport]; exact queue)
    have open_ : u.lockdown = false := by rw [handed.frame]; exact unlocked
    have opened := Wall.startOpen_lane n (u.modLane n fun l =>
      { l with cycle := .take, result := .none, late := false, shortTimer := false, ownerClose := none })
    rw [Wall.modLane_get_same, handed.lane] at opened
    rw [still, Wall.startTake_open open_, opened]
    have path : ((u.modLane n fun l =>
        { l with cycle := .take, result := .none, late := false, shortTimer := false, ownerClose := none }).startOpen n).transport = _ := handed.transport
    rw [path]
    refine ⟨rfl, rfl, rfl, rfl, congrArg (Option.map Tally.presented) handed.tally, handed.unloaded, congrArg Slot.context handed.slot, rfl, rfl, rfl,
      rfl, rfl, rfl, congrArg Gate.acceptEnable handed.gate, fun m e => ?_, ?_, ?_⟩
    · rw [(Wall.startOpen_frame n _).1 m e, Wall.modLane_get_other _ _ e]
      exact handed.others m e
    · show u.cassettes = _
      rw [handed.frame]
    · show u.bins = _
      rw [handed.frame]
  case held =>
    have context : s.wall.contextOf n = some l.context := by simp only [Wall.contextOf, loaded, same, if_true]
    have runs := Wall.whenSome_some Wall.endDelivery s.wall (Wall.runningDelivery_runs lane free seated)
    have handed := Wall.deliver_spec order loaded same slot tally
    refine ⟨_, rfl, State.onWall_evaluated on runs, ?_⟩
    dsimp only
    rw [Wall.endDelivery_held context cause]
    generalize s.wall.deliver n = u at *
    have still : u.transportGrant = u := Wall.transportGrant_empty (by rw [handed.transport]; exact queue)
    have order' : u.orderOf n .dispense = some x :=
      (Wall.orderOf_congr (fun y _ => by rw [handed.slots]) fun y => Wall.kindAt_congr (by rw [handed.slots])).trans order
    have idle : u.transport.state = .idle := by rw [handed.transport]
    have alone : u.transport.queue = [] := by rw [handed.transport]; exact queue
    have bins : u.bins = s.wall.bins := by rw [handed.frame]
    have requested := Wall.takeHeld_requests order' (by rw [handed.lane]; exact owner) handed.unloaded (by rw [handed.slot])
      (by rw [idle]; decide)
    have free' : u.held = false := by rw [handed.frame]; exact free
    have granted : ((u.bundleLeft n x (l.context.delivered s.wall.transport.stackerCount)).queueRetract n).transportGrant =
        ((u.bundleLeft n x (l.context.delivered s.wall.transport.stackerCount)).queueRetract n).grantRetract n .retractBin :=
      Wall.transportGrant_retract idle free' (congrArg (· ++ _) alone) ((congrArg (fun b => (Vector.get b retractBin).full) bins).trans room)
    rw [still, requested, granted]
    obtain ⟨path, lane, others, slot, tallied, reserved⟩ :=
      Wall.bundleLeft_granted (x := x) (c := l.context.delivered s.wall.transport.stackerCount) (by rw [handed.slot]) handed.tally alone
    rw [path, lane, slot, handed.lane, handed.slot, handed.transport]
    refine ⟨rfl, rfl, rfl, rfl, rfl, tallied, handed.unloaded, rfl, fun k => ?_, rfl, rfl, rfl, owner, rfl, rfl, rfl, rfl, rfl,
      congrArg Gate.acceptEnable handed.gate, fun m e => (others m e).trans (handed.others m e), bins⟩
    rw [reserved k]
    have cassettes : u.cassettes = s.wall.cassettes := by rw [handed.frame]
    rw [cassettes]
    rfl

end Sys2Proof.Machine
end

section
/-! PROOF. A piece at an exit (O52): its credit by its route, and the tenure that the last piece ends. -/

namespace Sys2Proof.Machine

/-! ### The credit by the route (R90, R114) -/

/-- The bin that a piece is credited to which is not routed to the stacker (R90). -/
def Route.bin (r : Route) : BinId := if r = .retractBin then Machine.retractBin else Machine.rejectBin

/-- A retract's own piece is counted into its record (R114, R115; log 73). -/
def BundleRecord.counted (r : Route) (estimate : Nat) (b : BundleRecord) : BundleRecord :=
  { b with
      pieces := satAdd 65535 b.pieces estimate, toRetract := if r = .retractBin then satAdd 65535 b.toRetract estimate else b.toRetract,
      toReject := if r = .retractBin then b.toReject else satAdd 65535 b.toReject estimate }

section
variable {w : Wall} {estimate : Nat} {r : Route}

theorem Wall.creditExit_stacker (c : CassId) (estimate : Nat) (w : Wall) :
    w.creditExit (.cassette c) estimate .stacker =
      match w.transport.join with
      | .dispense n =>
        (w.modTransport fun t => { t with composition := tabMod t.composition c (· + 1) }).modTally n fun t => { t with accepted := t.accepted + 1 }
      | _ => w.modTransport fun t => { t with composition := tabMod t.composition c (· + 1) } := rfl

theorem Wall.creditExit_stray {src : Source} (h : ∀ c, src ≠ .cassette c) : w.creditExit src estimate .stacker = w := by
  cases src with
  | cassette c => exact absurd rfl (h c)
  | _ => rfl

/-- A retract's own piece is counted into its bin and its record. -/
theorem Wall.creditExit_own {n : LaneId} (route : r ≠ .stacker) (join : w.transport.join = .retract n) :
    w.creditExit (.retract n) estimate r = (w.creditBin r.bin estimate).modBundle n (BundleRecord.counted r estimate) := by
  cases r with
  | stacker => exact absurd rfl route
  | reject => exact if_pos join
  | retractBin => exact if_pos join

/-- Any other piece is counted into its bin alone. -/
theorem Wall.creditExit_other {src : Source} (route : r ≠ .stacker) (h : ∀ n, src = .retract n → w.transport.join ≠ .retract n) :
    w.creditExit src estimate r = w.creditBin r.bin estimate := by
  cases r with
  | stacker => exact absurd rfl route
  | reject =>
    cases src with
    | retract n => exact if_neg (h n rfl)
    | _ => rfl
  | retractBin =>
    cases src with
    | retract n => exact if_neg (h n rfl)
    | _ => rfl

/-- A credit to a bin changes the bins and the board alone, and where it is a retract's own piece the bundle record of its lane. -/
theorem Wall.creditExit_bin (src : Source) (route : r ≠ .stacker) :
    ∃ lanes, w.creditExit src estimate r =
      { w with bins := (w.creditBin r.bin estimate).bins, board := (w.creditBin r.bin estimate).board, lost := (w.creditBin r.bin estimate).lost,
               lanes := lanes } := by
  by_cases own : ∃ n, src = .retract n ∧ w.transport.join = .retract n
  · obtain ⟨n, rfl, join⟩ := own
    refine ⟨tabMod w.lanes n fun l => { l with bundle := l.bundle.counted r estimate }, ?_⟩
    rw [Wall.creditExit_own route join, Wall.creditBin_frame]
    rfl
  · refine ⟨w.lanes, ?_⟩
    rw [Wall.creditExit_other route fun n source join => own ⟨n, source, join⟩]
    exact Wall.creditBin_frame ..

/-- Whatever a credit counts, it leaves the pages, the gate and the cassettes, the engine but the tallies, and the transport but the stacker. -/
theorem Wall.creditExit_frame (src : Source) (estimate : Nat) (r : Route) (w : Wall) :
    ∃ bins board lost lanes tallies composition, w.creditExit src estimate r =
      { w with bins := bins, board := board, lost := lost, lanes := lanes, engine := { w.engine with tallies := tallies },
               transport := { w.transport with composition := composition } } := by
  by_cases route : r = .stacker
  · subst route
    by_cases piece : ∃ c, src = .cassette c
    · obtain ⟨c, rfl⟩ := piece
      rw [Wall.creditExit_stacker]
      split <;> exact ⟨_, _, _, _, _, _, rfl⟩
    · rw [Wall.creditExit_stray fun c source => piece ⟨c, source⟩]
      exact ⟨_, _, _, _, _, _, rfl⟩
  · obtain ⟨lanes, e⟩ := Wall.creditExit_bin (w := w) (estimate := estimate) src route
    rw [e]
    exact ⟨_, _, _, _, _, _, rfl⟩

end

theorem Counts.total_raised (v : Counts) (c : CassId) : 0 < Counts.total (tabMod v c (· + 1)) := by
  have raised : (tabMod v c (· + 1)).get c = v.get c + 1 := tabMod_get_same ..
  unfold Counts.total
  fin_cases c <;> simp only [Fin.zero_eta, Fin.mk_one, Fin.reduceFinMk] at raised ⊢ <;> omega

/-- A stacker that holds notes, or takes this piece, holds notes. -/
theorem Wall.creditExit_stackerCount {w : Wall} {src : Source} (estimate : Nat) {r : Route}
    (h : 0 < w.transport.stackerCount ∨ (r = .stacker ∧ ∃ k, src = .cassette k)) : 0 < (w.creditExit src estimate r).transport.stackerCount := by
  by_cases takes : r = .stacker ∧ ∃ k, src = .cassette k
  · obtain ⟨rfl, c, rfl⟩ := takes
    rw [Wall.creditExit_stacker]
    split <;> exact Counts.total_raised _ c
  · have notes := h.resolve_right takes
    by_cases route : r = .stacker
    · subst route
      rwa [Wall.creditExit_stray fun c source => takes ⟨rfl, c, source⟩]
    · obtain ⟨lanes, frame⟩ := Wall.creditExit_bin (w := w) (estimate := estimate) src route
      rw [frame]
      exact notes

/-! ### The tenure that the last piece ends (R94) -/

/-- What keeps a building tenure from its end (R94, R60): a piece on its way, another state of the path, or an order that goes on. -/
def Wall.tenureGoesOn (w : Wall) : Prop :=
  w.transport.watch ≠ [] ∨ w.transport.state ≠ .granted ∨ ∀ n c, w.transport.join = .dispense n → w.contextOf n = some c →
    c.phase ≠ .building ∨ (c.endCause = .none ∧ c.final = false) ∨ 0 < w.gate.pendingPicks ∨ 0 < w.transport.stackerCount

theorem Wall.checkEnding_goesOn {w : Wall} (h : w.tenureGoesOn) : w.checkEnding = w := by
  rcases h with watch | state | order
  · exact Wall.checkEnding_watching watch
  · exact Wall.checkEnding_ungranted state
  · unfold Wall.checkEnding
    split
    · next n join =>
      split
      · next c context =>
        rw [if_neg]
        rintro ⟨-, building, settled, empty, begun⟩
        rw [Wall.pathSettled, Bool.and_eq_true, beq_iff_eq] at settled
        rcases order n c join context with phase | ⟨cause, final⟩ | picks | notes
        · exact phase building
        · rcases begun with b | b
          · exact b cause
          · rw [final] at b
            cases b
        · omega
        · omega
      · rfl
    · rfl

/-- A building tenure ends once nothing is on its way and the stacker is empty, where the order's end has begun or the order is final (R94, R60). -/
theorem Wall.Dispensing.checkEnding_finishes {w : Wall} {n : LaneId} {x : SlotId} {c : DispenseContext} {ty : Tally} (h : w.Dispensing n x c ty)
    (join : w.transport.join = .dispense n) (granted : w.transport.state = .granted) (phase : c.phase = .building) (settled : w.pathSettled = true)
    (empty : w.transport.stackerCount = 0) (begun : c.endCause ≠ .none ∨ c.final = true) : w.checkEnding = (w.endEmpty n).transportGrant := by
  simp only [Wall.checkEnding, join, h.context]
  exact if_pos ⟨granted, phase, settled, empty, begun⟩

/-! ### The edge (R90, R99) -/

/-- The expected piece has left the watch, and a clearance has seen it (R90, R99). -/
def Wall.expected (rest : List WatchEntry) (w : Wall) : Wall :=
  w.modTransport fun t => { t with watch := rest, seen := if t.state = .clearing then satAdd 65535 t.seen 1 else t.seen }

theorem Wall.exitEdge_settled {w : Wall} {e : WatchEntry} {rest : List WatchEntry} {estimate : Nat} {route : Route}
    (watch : w.transport.watch = e :: rest) (settled : e.settled = some (estimate, route)) :
    w.exitEdge = ((w.expected rest).creditExit e.source estimate route).checkEnding := by
  simp only [Wall.exitEdge, watch, settled]
  rfl

theorem Wall.exitEdge_unsettled {w : Wall} {e : WatchEntry} {rest : List WatchEntry} (watch : w.transport.watch = e :: rest)
    (unsettled : e.settled = none) :
    w.exitEdge = ((w.expected rest).modTransport fun t => { t with exitedEarly := t.exitedEarly ++ [e.seq] }).checkEnding := by
  simp only [Wall.exitEdge, watch, unsettled]
  rfl

theorem Wall.exitEdge_unexpected {w : Wall} (watch : w.transport.watch = []) (clearing : w.transport.state = .clearing) :
    w.exitEdge = (w.modTransport fun t => { t with seen := satAdd 65535 t.seen 1 }).creditBin rejectBin 1 := by
  simp only [Wall.exitEdge, watch]
  exact if_pos clearing

/-- What keeps the tenure from its end keeps it where the expected piece's edge changed neither the engine's contexts nor the gate, and took no note out of the
stacker. -/
theorem Wall.expected_goesOn {w v : Wall} {rest : List WatchEntry} {credited : Prop}
    (goes : rest ≠ [] ∨ w.transport.state ≠ .granted ∨ ∀ n c, w.transport.join = .dispense n → w.contextOf n = some c →
      c.phase ≠ .building ∨ (c.endCause = .none ∧ c.final = false) ∨ 0 < w.gate.pendingPicks ∨ 0 < w.transport.stackerCount ∨ credited)
    (watch : v.transport.watch = rest) (state : v.transport.state = w.transport.state) (join : v.transport.join = w.transport.join)
    (context : ∀ n, v.contextOf n = w.contextOf n) (gate : v.gate = w.gate)
    (notes : 0 < w.transport.stackerCount ∨ credited → 0 < v.transport.stackerCount) : v.tenureGoesOn := by
  unfold Wall.tenureGoesOn
  rw [watch, state, join, gate]
  refine goes.imp_right (Or.imp_right fun order n c joined read => ?_)
  rw [context] at read
  exact (order n c joined read).imp_right (Or.imp_right (Or.imp_right notes))

/-- Settles O52, by what the watch expects at the exit. -/
theorem exitEdges : Obligations.ExitEdges := by
  unfold Obligations.ExitEdges
  intro s on
  refine ⟨fun e rest watch estimate route settled goes => ?credit, fun e rest watch unsettled goes => ?early,
    fun e watch estimate route settled other granted n x ty join order tally l loaded lane slot phase begun picks empty => ?last,
    fun watch clearing => ?unexpected⟩
  case credit =>
    obtain ⟨bins, board, lost, lanes, tallies, composition, frame⟩ := Wall.creditExit_frame e.source estimate route (s.wall.expected rest)
    have stays : ((s.wall.expected rest).creditExit e.source estimate route).tenureGoesOn := by
      have notes := Wall.creditExit_stackerCount (w := s.wall.expected rest) (src := e.source) estimate (r := route)
      rw [frame] at notes ⊢
      exact Wall.expected_goesOn goes rfl rfl rfl (fun _ => rfl) rfl notes
    have own {n : LaneId} := Wall.creditExit_own (w := s.wall.expected rest) (n := n) (estimate := estimate) (r := route)
    have inBin := Wall.creditExit_bin (w := s.wall.expected rest) (estimate := estimate) (r := route) e.source
    have inStacker (c : CassId) := Wall.creditExit_stacker c estimate (s.wall.expected rest)
    refine ⟨_, rfl, State.onWall_evaluated on rfl, ?_⟩
    dsimp only
    rw [Wall.exitEdge_settled watch settled, Wall.checkEnding_goesOn stays]
    refine ⟨by rw [frame]; rfl, by rw [frame]; rfl, fun c n stacker source join => ?_, fun reject => ?_, fun retract => ?_, fun n join source bin => ?_,
      by rw [frame]; rfl, by rw [frame]; rfl, by rw [frame]; rfl⟩
    · rw [stacker, source, inStacker c, show (s.wall.expected rest).transport.join = _ from join]
      exact ⟨rfl, rfl, tabMod_get_same ..⟩
    · obtain ⟨lanes, credited⟩ := inBin (by rw [reject]; decide)
      rw [credited, reject]
      exact ⟨Wall.creditBin_count .., fun k => Wall.creditBin_other estimate _, rfl⟩
    · obtain ⟨lanes, credited⟩ := inBin (by rw [retract]; decide)
      rw [credited, retract]
      exact ⟨Wall.creditBin_count .., fun k => Wall.creditBin_other estimate _, rfl⟩
    · rw [source, own bin join, Wall.modBundle_lanes, tabMod_get_same, Wall.creditBin_frame]
      exact ⟨rfl, rfl, rfl⟩
  case early =>
    refine State.onWall_evaluated on ?_
    rw [Wall.exitEdge_unsettled watch unsettled]
    exact Wall.checkEnding_goesOn goes
  case last =>
    have expected : s.wall.expected [] = s.wall.modTransport fun k => { k with watch := [] } := by
      have calm : s.wall.transport.state ≠ .clearing := by rw [granted]; decide
      simp only [Wall.expected, Wall.modTransport, calm, if_false]
    obtain ⟨lanes, frame⟩ := Wall.creditExit_bin (w := s.wall.modTransport fun k => { k with watch := [] }) (estimate := estimate) e.source other
    have holds : ((s.wall.modTransport fun k => { k with watch := [] }).creditExit e.source estimate route).Dispensing n x l.context ty := by
      rw [frame]
      exact ⟨order, by simp only [Wall.contextOf, loaded, lane, Wall.modTransport_engine, if_true], tally⟩
    have ended := holds.endEmpty (l := l) (by rw [frame]; exact loaded) lane slot
    have ends := holds.checkEnding_finishes (by rw [frame]; exact join) (by rw [frame]; exact granted) phase
      (by rw [frame, Wall.pathSettled, Bool.and_eq_true, beq_iff_eq]; exact ⟨picks, rfl⟩) (by rw [frame]; exact empty) begun
    refine ⟨_, rfl, _, rfl, State.onWall_evaluated on rfl, ?_⟩
    dsimp only
    rw [Wall.exitEdge_settled watch settled, expected, ends]
    generalize ((s.wall.modTransport fun k => { k with watch := [] }).creditExit e.source estimate route).endEmpty n = u at *
    have path := ended.transport
    have gate := ended.gate
    have reserved := ended.reserved
    have outcome := ended.outcome
    rw [frame] at path gate reserved outcome
    have inBins : u.bins = ((s.wall.modTransport fun k => { k with watch := [] }).creditBin route.bin estimate).bins := by rw [ended.frame, frame]
    refine ⟨rfl, path, gate, ended.unloaded, ended.tally, fun k => ?_, reserved, outcome, fun queue => ?_⟩
    · rw [inBins]
      show _ = if k = route.bin then _ else _
      split
      · next h =>
        subst h
        exact Wall.creditBin_count ..
      · next h => rw [Wall.creditBin_other _ _ h]; rfl
    · exact Wall.transportGrant_empty (by rw [path]; exact queue)
  case unexpected =>
    refine ⟨_, rfl, State.onWall_evaluated on rfl, ?_⟩
    dsimp only
    rw [Wall.exitEdge_unexpected watch clearing]
    refine ⟨?_, Wall.creditBin_count .., fun k => Wall.creditBin_other 1 _, ?_, ?_⟩ <;> rw [Wall.creditBin_frame] <;> rfl

end Sys2Proof.Machine
end

section
/-! PROOF. Picks and misses (O49): the listing, when a pick is released, and what a miss does to its cassette. -/

namespace Sys2Proof.Machine

/-! ### The listing of a pick (R57) -/

theorem mem_listingOf {denomination : CassId → Nat} {cs : List CassId} {c : CassId} : c ∈ listingOf denomination cs ↔ c ∈ cs := by
  simp [listingOf, mem_foldl_insertListing]

theorem listingOf_sorted {denomination : CassId → Nat} {cs : List CassId} (ascending : cs.Pairwise (· < ·)) :
    (listingOf denomination cs).Pairwise (listsBefore denomination) :=
  foldl_insertListing_sorted ascending (fun _ _ _ h => absurd h List.not_mem_nil) .nil

theorem Wall.mem_pickListing (w : Wall) (x : Slot) (c : CassId) :
    c ∈ w.pickListing x ↔ if x.param 0 = 0 then w.usable c = true else 0 < x.mixCounts.get c := by
  unfold Wall.pickListing
  split
  · exact Wall.mem_mixListing
  · simp [mem_listingOf, mem_cassIds]

theorem Wall.pickListing_sorted (w : Wall) (x : Slot) : (w.pickListing x).Pairwise (listsBefore w.denomination) := by
  unfold Wall.pickListing
  split
  · exact w.mixListing_sorted
  · exact listingOf_sorted (List.Pairwise.filter _ (by decide))

/-! ### When a pick is released (R93) -/

theorem Wall.paced_iff (w : Wall) :
    w.paced = true ↔ ∀ d, w.engine.lastRelease = some d → w.noteLength d + w.gapSettle d + 100 ≤ w.engine.sinceRelease := by
  unfold Wall.paced
  cases w.engine.lastRelease <;> simp

theorem Wall.endBegun_eq_false {w : Wall} {n : LaneId} {k : DispenseContext} {ty : Tally} (context : w.contextOf n = some k)
    (tally : w.tallyOf n = some ty) : w.endBegun n = false ↔ k.endCause = .none ∧ ty.faulted = false := by
  simp [Wall.endBegun, context, tally]

/-- The first cassette of the order's listing that is usable and owes the order more than is pending from it (R93). -/
theorem Wall.nextPick_iff {w : Wall} {n : LaneId} {k : DispenseContext} {c : CassId} :
    w.nextPick n k = some c ↔ ∃ x, w.orderOf n .dispense = some x
      ∧ ∃ earlier later, w.pickListing (w.slot (lanePage n) x) = earlier ++ c :: later
        ∧ w.usable c = true ∧ w.gate.pendingFrom c < k.outstanding.get c
        ∧ ∀ d ∈ earlier, w.usable d = false ∨ k.outstanding.get d ≤ w.gate.pendingFrom d := by
  unfold Wall.nextPick
  cases order : w.orderOf n .dispense with
  | none => simp
  | some x =>
    simp only [List.find?_eq_some_iff_append, Bool.and_eq_true, decide_eq_true_eq, Option.some.injEq, exists_eq_left']
    constructor
    · rintro ⟨⟨usable, owed⟩, earlier, later, listed, passed⟩
      exact ⟨earlier, later, listed, usable, owed, fun d hd => by simpa [or_iff_not_imp_left] using passed d hd⟩
    · rintro ⟨earlier, later, listed, usable, owed, passed⟩
      exact ⟨⟨usable, owed⟩, earlier, later, listed, fun d hd => by simpa [or_iff_not_imp_left] using passed d hd⟩

theorem Wall.readyPick_iff (w : Wall) (c : CassId) :
    w.readyPick = some c ↔
      ∃ n k ty x, w.transport.join = .dispense n ∧ w.contextOf n = some k ∧ w.tallyOf n = some ty
        ∧ w.orderOf n .dispense = some x ∧ w.transport.state = .granted ∧ w.held = false ∧ w.lockdown = false
        ∧ k.phase = .building ∧ k.endCause = .none ∧ ty.faulted = false ∧ ty.remixWait = false ∧ k.final = false
        ∧ w.engine.routedInBundle + (w.gate.openPicks.length + (w.gate.passages.filter Passage.fromPick).length) < k.target
        ∧ (∀ d, w.engine.lastRelease = some d → w.noteLength d + w.gapSettle d + 100 ≤ w.engine.sinceRelease)
        ∧ ∃ earlier later, w.pickListing (w.slot (lanePage n) x) = earlier ++ c :: later
          ∧ w.usable c = true ∧ w.gate.pendingFrom c < k.outstanding.get c
          ∧ ∀ d ∈ earlier, w.usable d = false ∨ k.outstanding.get d ≤ w.gate.pendingFrom d := by
  rw [← w.paced_iff]
  unfold Wall.readyPick
  constructor
  · intro ready
    split at ready
    · next n join =>
      split at ready
      · next k ty context tally =>
        obtain ⟨⟨granted, free, unlocked, building, goes, settled, more, below, paced⟩, next_⟩ := Option.ite_none_right_eq_some.mp ready
        obtain ⟨cause, sound⟩ := (Wall.endBegun_eq_false context tally).mp goes
        obtain ⟨x, order, listed⟩ := Wall.nextPick_iff.mp next_
        exact ⟨n, k, ty, x, join, context, tally, order, granted, free, unlocked, building, cause, sound, settled, more, below, paced, listed⟩
      · cases ready
    · cases ready
  · rintro ⟨n, k, ty, x, join, context, tally, order, granted, free, unlocked, building, cause, sound, settled, more, below, paced, listed⟩
    simp only [join, context, tally]
    rw [if_pos ⟨granted, free, unlocked, building, (Wall.endBegun_eq_false context tally).mpr ⟨cause, sound⟩, settled, more, below, paced⟩]
    exact Wall.nextPick_iff.mpr ⟨x, order, listed⟩

theorem Wall.readyPick_none {w : Wall} (h : w.lockdown = true ∨ w.held = true ∨ w.transport.state ≠ .granted) : w.readyPick = none := by
  cases ready : w.readyPick with
  | none => rfl
  | some c =>
    obtain ⟨n, k, ty, x, -, -, -, -, granted, free, unlocked, -⟩ := (w.readyPick_iff c).mp ready
    rcases h with locked | held | other
    · rw [unlocked] at locked
      cases locked
    · rw [free] at held
      cases held
    · exact absurd granted other

/-! ### A miss (R52, R53, R58) -/

/-- The third miss in a row of a cassette in use (R52; log 59). -/
def Cassette.runsDry (r : Cassette) : Bool := decide (2 ≤ r.misses) && (r.state == .inService || r.state == .low)

theorem Cassette.runsDry_iff (r : Cassette) : r.runsDry = true ↔ satAdd 3 r.misses 1 = 3 ∧ (r.state = .inService ∨ r.state = .low) := by
  have third : satAdd 3 r.misses 1 = 3 ↔ 2 ≤ r.misses := by unfold satAdd; omega
  simp [Cassette.runsDry, third]

theorem Wall.recordMiss_wet {w : Wall} {c : CassId} (h : (w.cassettes.get c).runsDry = false) :
    w.recordMiss c = w.modCassette c fun x => { x with misses := satAdd 3 x.misses 1 } := by
  have wet := mt (Cassette.runsDry_iff _).mpr (Bool.eq_false_iff.mp h)
  unfold Wall.recordMiss
  simp only [Wall.modCassette_cassettes, tabMod_get_same, wet, if_false]

theorem Wall.recordMiss_dry {w : Wall} {c : CassId} (h : (w.cassettes.get c).runsDry = true) :
    w.recordMiss c =
      ((w.modCassette c fun x => { x with misses := satAdd 3 x.misses 1, doubt := x.doubt || decide (0 < x.remaining), state := .empty }).post
        (.cassetteEmpty c) 2).triggerRemix c := by
  have dry := (Cassette.runsDry_iff _).mp h
  have used : (((w.modCassette c fun x => { x with misses := satAdd 3 x.misses 1 }).modCassette c fun x =>
      { x with doubt := x.doubt || decide (0 < x.remaining) }).cassettes.get c).state ≠ .empty := by
    simp only [Wall.modCassette_cassettes, tabMod_get_same]
    rcases dry.2 with state | state <;> rw [state] <;> decide
  unfold Wall.recordMiss
  simp only [Wall.modCassette_cassettes, tabMod_get_same, dry, if_true, and_self]
  rw [Wall.enterCassetteState_empty used]
  simp only [Wall.modCassette, tabMod_tabMod]
  rfl

theorem Wall.recordMiss_frame (c : CassId) (w : Wall) :
    w.recordMiss c =
      { w with cassettes := (w.recordMiss c).cassettes, board := (w.recordMiss c).board, lost := (w.recordMiss c).lost,
               engine := { w.engine with tallies := (w.recordMiss c).engine.tallies } } := by
  cases dry : (w.cassettes.get c).runsDry with
  | false => rw [Wall.recordMiss_wet dry]; rfl
  | true =>
    rw [Wall.recordMiss_dry dry]
    obtain ⟨ts, frame⟩ := Wall.triggerRemix_frame c
      ((w.modCassette c fun x => { x with misses := satAdd 3 x.misses 1, doubt := x.doubt || decide (0 < x.remaining), state := .empty }).post
        (.cassetteEmpty c) 2)
    rw [frame, Wall.post_frame]
    rfl

/-- What a miss does to its cassette and the orders it owes notes to, as O49 says it (R52, R53, R58). -/
theorem Wall.recordMiss_spec (c : CassId) (w : Wall) : w.missedPick (w.recordMiss c) c := by
  unfold Wall.missedPick
  dsimp only
  have runsDry : (decide (2 ≤ (w.cassettes.get c).misses) && ((w.cassettes.get c).state == .inService || (w.cassettes.get c).state == .low)) =
      (w.cassettes.get c).runsDry := rfl
  rw [runsDry]
  cases dry : (w.cassettes.get c).runsDry with
  | false =>
    rw [Wall.recordMiss_wet dry]
    refine ⟨?_, fun d => tabMod_get_other _ _, ?_, fun _ _ => rfl, fun n k ty _ tally => ?_⟩
    · rw [Wall.modCassette_cassettes, tabMod_get_same]
      simp [satAdd]
    · rintro e rfl
      exact ⟨rfl, rfl⟩
    · exact tally.trans (by simp)
  | true =>
    have news : ((w.modCassette c fun x => { x with misses := satAdd 3 x.misses 1, doubt := x.doubt || decide (0 < x.remaining), state := .empty }).post
        (.cassetteEmpty c) 2).SameNews (w.post (.cassetteEmpty c) 2) := by
      have same (f : Cassette → Cassette) : (w.modCassette c f).SameNews w := ⟨rfl, rfl, rfl⟩
      exact (same _).post _ _
    have frame := Wall.post_frame (.cassetteEmpty c) 2
      (w.modCassette c fun x => { x with misses := satAdd 3 x.misses 1, doubt := x.doubt || decide (0 < x.remaining), state := .empty })
    rw [Wall.recordMiss_dry dry]
    generalize Wall.post _ _ (Wall.modCassette _ _ w) = v at *
    obtain ⟨ts, triggered⟩ := v.triggerRemix_frame c
    have cassettes : (v.triggerRemix c).cassettes = v.cassettes := by rw [triggered]
    have owes (m : LaneId) : v.owes c m = w.owes c m := by rw [frame]; rfl
    have tallyOf (m : LaneId) : v.tallyOf m = w.tallyOf m := by rw [frame]; rfl
    refine ⟨?_, fun d other => ?_, (news.triggered c).shown, fun n none_ => ?_, fun n k ty context tally => ?_⟩
    · rw [cassettes, frame, Wall.modCassette_cassettes, tabMod_get_same]
      simp [satAdd]
    · rw [cassettes, frame]
      exact tabMod_get_other _ _ other
    · have unowed : w.owes c n = false := by simp [Wall.owes, none_]
      rw [Wall.triggerRemix_tallyOf, owes, unowed, tallyOf]
      simp
    · have owed : w.owes c n = (decide (0 < k.outstanding.get c) && !w.endBegun n) := by simp [Wall.owes, context]
      rw [Wall.triggerRemix_tallyOf, owes, owed, tallyOf, tally]
      simp

theorem Wall.SameNews.post_if {v w : Wall} (h : v.SameNews w) (b : Bool) (k : News) (d : Nat) :
    (if b then v.post k d else v).SameNews (if b then w.post k d else w) := by
  cases b
  · exact h
  · exact h.post k d

theorem Wall.declareMiss_eq {w : Wall} {p : OpenPick} {rest : List OpenPick} (picks : w.gate.openPicks = p :: rest) :
    w.declareMiss = (w.modGate fun g => { g with openPicks := rest }).recordMiss p.cassette := by
  simp only [Wall.declareMiss, picks]

theorem Wall.declareMiss_frame {w : Wall} {p : OpenPick} {rest : List OpenPick} (picks : w.gate.openPicks = p :: rest) :
    w.declareMiss =
      { w with gate := { w.gate with openPicks := rest }, cassettes := w.declareMiss.cassettes, board := w.declareMiss.board, lost := w.declareMiss.lost,
               engine := { w.engine with tallies := w.declareMiss.engine.tallies } } := by
  rw [Wall.declareMiss_eq picks, Wall.recordMiss_frame]
  rfl

/-- The oldest open pick's miss, in any wall that shows the same cassettes, board and tallies as the miss leaves. -/
theorem Wall.declareMiss_missedPick {w v : Wall} {p : OpenPick} {rest : List OpenPick} (picks : w.gate.openPicks = p :: rest)
    (cassettes : v.cassettes = w.declareMiss.cassettes) (board : v.board = w.declareMiss.board) (lost : v.lost = w.declareMiss.lost)
    (tallies : v.engine.tallies = w.declareMiss.engine.tallies) : w.missedPick v p.cassette := by
  obtain ⟨record, others, news, unowed, owed⟩ := Wall.recordMiss_spec p.cassette (w.modGate fun g => { g with openPicks := rest })
  rw [← Wall.declareMiss_eq picks] at record others news unowed owed
  have tallyOf (n : LaneId) : v.tallyOf n = w.declareMiss.tallyOf n := by rw [Wall.tallyOf, tallies]; rfl
  have same : (w.modGate fun g => { g with openPicks := rest }).SameNews w := ⟨rfl, rfl, rfl⟩
  refine ⟨cassettes ▸ record, cassettes ▸ others, ?_, fun n h => (tallyOf n).trans (unowed n h), fun n k ty context tally =>
    (tallyOf n).trans (owed n k ty context tally)⟩
  rintro e rfl
  obtain ⟨onBoard, gone⟩ := news _ rfl
  rw [board, lost, onBoard, gone]
  exact (same.post_if _ _ _).shown _ rfl

/-! ### The statement -/

/-- Settles O49: the listing, the release and the miss. -/
theorem picksAndMisses : Obligations.PicksAndMisses := by
  unfold Obligations.PicksAndMisses
  refine ⟨fun w x => ⟨w.mem_pickListing x, (w.pickListing_sorted x).imp fun before => before.imp_right fun ⟨same, lower⟩ => ⟨same.symm, lower⟩⟩,
    fun s on => ⟨s.wall.readyPick_iff, fun idle => ?idle, fun barred => ?barred, fun c ready => ⟨?usable, fun few => ?release, fun p rest picks many => ?full⟩,
      fun p rest picks far goes => ?miss, fun early => ?early⟩⟩
  case idle => exact State.onWall_idle (Wall.whenSome_none _ _ idle)
  case barred => exact State.onWall_idle (Wall.whenSome_none _ _ (Wall.readyPick_none barred))
  case usable =>
    obtain ⟨n, k, ty, x, -, -, -, -, -, -, -, -, -, -, -, -, -, -, earlier, later, -, usable, -⟩ := (s.wall.readyPick_iff c).mp ready
    exact usable
  case release =>
    have short : ¬4 ≤ s.wall.gate.openPicks.length := not_le.mpr few
    have released : s.wall.releasePick c = (s.wall.modGate fun g =>
        { g with openPicks := g.openPicks ++ [{ cassette := c, travel := 0 }], lastPick := some c }).modEngine fun e =>
        { e with lastRelease := some c, sinceRelease := 0 } := by
      simp only [Wall.releasePick, short, if_false]
    exact State.onWall_eq on ((Wall.whenSome_some _ _ ready).trans released)
  case full =>
    have released : s.wall.releasePick c = (s.wall.declareMiss.modGate fun g =>
        { g with openPicks := g.openPicks ++ [{ cassette := c, travel := 0 }], lastPick := some c }).modEngine fun e =>
        { e with lastRelease := some c, sinceRelease := 0 } := by
      simp only [Wall.releasePick, many, if_true]
    have frame := Wall.declareMiss_frame picks
    refine ⟨_, rfl, State.onWall_eq on (Wall.whenSome_some _ _ ready), ?_⟩
    dsimp only
    rw [released]
    refine ⟨Wall.declareMiss_missedPick picks rfl rfl rfl rfl, ?_, ?_, ?_⟩
    · rw [frame]
      rfl
    · rw [frame]
      rfl
    · rw [frame]
      rfl
  case miss =>
    have due : s.wall.gate.missDue = true := by simp [Gate.missDue, picks, far]
    have frame := Wall.declareMiss_frame picks
    have stays : s.wall.declareMiss.checkEnding = s.wall.declareMiss := by
      refine Wall.checkEnding_goesOn ?_
      rw [frame]
      rcases goes with watch | more | state | order
      · exact .inl watch
      · exact .inr (.inr fun n k _ _ => .inr (.inr (.inl (Nat.lt_of_lt_of_le (List.length_pos_of_ne_nil more) (Nat.le_add_right _ _)))))
      · exact .inr (.inl state)
      · refine .inr (.inr fun n k join context => ?_)
        rcases order n k join context with phase | notes | goes_on
        · exact .inl phase
        · exact .inr (.inr (.inr notes))
        · exact .inr (.inl goes_on)
    have missed : s.wall.missed = s.wall.declareMiss := by rw [Wall.missed, if_pos due, stays]
    refine ⟨_, rfl, State.onWall_evaluated on rfl, ?_⟩
    dsimp only
    rw [missed]
    refine ⟨Wall.declareMiss_missedPick picks rfl rfl rfl rfl, ?_, ?_, ?_⟩
    · rw [frame]
    · rw [frame]
    · rw [frame]
  case early =>
    exact State.onWall_evaluated on (if_neg (Bool.eq_false_iff.mp early))

end Sys2Proof.Machine
end

section
/-! PROOF. The transport's grant evaluation (O35, R89, R109): what it grants of a queue, whom it holds back, and a bundle that begins. -/

namespace Sys2Proof.Machine

/-! ### A RETRACT request is granted (R109, R110) -/

/-- What a granted retract leaves of its lane's bundle record (R110, R114; log 54). -/
def BundleRecord.sweeping (d : Destination) (b : BundleRecord) : BundleRecord :=
  { b with phase := .sweeping, dest := d, pieces := 0, retracted := 0, foreign := 0, toRetract := 0, toReject := 0, stalled := none }

theorem Wall.grantRetract_eq (n : LaneId) (d : Destination) (w : Wall) :
    w.grantRetract n d =
      { w with
          transport :=
            { w.transport with
                state := .granted, join := .retract n, quiet := 0, sweepFound := .none, silentMs := 0,
                queue := w.transport.queue.filter fun q => !(q.lane == n && q.kind == .retract) },
          gate := { w.gate with gapCounter := none, openPicks := [], lastPick := none },
          lanes := tabMod w.lanes n fun l => { l with bundle := l.bundle.sweeping d } } := rfl

/-- The destination of a retract where a bin has room: the retract bin, or else the reject bin (R109). -/
def Wall.retractGoal (w : Wall) : Destination := if (w.bins.get retractBin).full then .reject else .retractBin

/-- A granted RETRACT entry: its sweep begins, and a diversion is posted (R109). -/
def Wall.retractGranted (n : LaneId) (w : Wall) : Wall :=
  if (w.bins.get retractBin).full then (w.grantRetract n .reject).post (.retractDiverted n) (w.bins.get retractBin).count
  else w.grantRetract n .retractBin

theorem Wall.retractGranted_frame (n : LaneId) (w : Wall) :
    w.retractGranted n =
      { w.grantRetract n w.retractGoal with board := (w.retractGranted n).board, lost := (w.retractGranted n).lost } := by
  unfold Wall.retractGranted Wall.retractGoal
  split
  · exact Wall.post_frame ..
  · rfl

theorem Wall.retractGranted_news (n : LaneId) (w : Wall) :
    (w.retractGranted n).SameNews
      (if (w.bins.get retractBin).full then w.post (.retractDiverted n) (w.bins.get retractBin).count else w) := by
  unfold Wall.retractGranted
  split
  · have same : (w.grantRetract n .reject).SameNews w := ⟨rfl, rfl, rfl⟩
    exact same.post _ _
  · exact ⟨rfl, rfl, rfl⟩

theorem Wall.tryRetracts_bundle (r : Request) (rest : List Request) (w : Wall) (h : r.kind = .bundle) :
    Wall.tryRetracts (r :: rest) w = Wall.tryRetracts rest w := by
  simp only [Wall.tryRetracts, h]

/-- Where a bin has room, the oldest RETRACT request is granted (R89, R109). -/
theorem Wall.tryRetracts_granted {w : Wall} {q : List Request} {r : Request} (first : q.find? (fun q => q.kind == .retract) = some r)
    (room : (w.bins.get retractBin).full = false ∨ (w.bins.get rejectBin).full = false) :
    Wall.tryRetracts q w = (w.retractGranted r.lane, true) := by
  induction q with
  | nil => cases first
  | cons a rest ih =>
    rw [List.find?_cons] at first
    cases kind : a.kind with
    | bundle =>
      rw [kind] at first
      rw [Wall.tryRetracts_bundle a rest w kind]
      exact ih first
    | retract =>
      rw [kind, beq_self_eq_true, Option.some.injEq] at first
      subst first
      unfold Wall.retractGranted
      cases full : (w.bins.get retractBin).full with
      | false => simp [Wall.tryRetracts, kind, Wall.retractDestination, full]
      | true =>
        have other : (w.bins.get rejectBin).full = false := room.resolve_left (by rw [full]; decide)
        simp [Wall.tryRetracts, kind, Wall.retractDestination, full, other]

/-! ### The RETRACT requests that are held back (R109) -/

/-- A RETRACT request is held back, with its post (R109). -/
def Wall.holdBack (n : LaneId) (w : Wall) : Wall :=
  (w.modBundle n fun b => { b with phase := .heldBack }).post (.binFull retractBin) (w.bins.get retractBin).count

/-- All the RETRACT requests of a queue are held back, oldest first (R109). -/
def Wall.holdBackAll (q : List Request) (w : Wall) : Wall := (q.filter fun r => r.kind == .retract).foldl (fun v r => v.holdBack r.lane) w

theorem Wall.holdBack_frame (n : LaneId) (w : Wall) :
    w.holdBack n =
      { w with lanes := tabMod w.lanes n (fun l => { l with bundle := { l.bundle with phase := .heldBack } }), board := (w.holdBack n).board,
               lost := (w.holdBack n).lost } := by
  rw [Wall.holdBack, Wall.post_frame]
  rfl

/-- With both bins full no RETRACT request is granted, and each is held back (R109). -/
theorem Wall.tryRetracts_full {w : Wall} (q : List Request) (full : (w.bins.get retractBin).full = true) (other : (w.bins.get rejectBin).full = true) :
    Wall.tryRetracts q w = (w.holdBackAll q, false) := by
  induction q generalizing w with
  | nil => rfl
  | cons r rest ih =>
    cases kind : r.kind with
    | bundle =>
      rw [Wall.tryRetracts_bundle r rest w kind, ih full other]
      simp [Wall.holdBackAll, kind]
    | retract =>
      have bins : (w.holdBack r.lane).bins = w.bins := by rw [Wall.holdBack_frame]
      have step : Wall.tryRetracts (r :: rest) w = Wall.tryRetracts rest (w.holdBack r.lane) := by
        simp [Wall.tryRetracts, kind, Wall.retractDestination, full, other, Wall.holdBack]
      rw [step, ih (bins ▸ full) (bins ▸ other)]
      simp [Wall.holdBackAll, kind]

theorem Wall.tryRetracts_bundles {w : Wall} {q : List Request} (h : ∀ r ∈ q, r.kind = .bundle) : Wall.tryRetracts q w = (w, false) := by
  induction q with
  | nil => rfl
  | cons r rest ih =>
    rw [Wall.tryRetracts_bundle r rest w (h r List.mem_cons_self)]
    exact ih fun a ha => h a (List.mem_cons_of_mem r ha)

/-- Where nothing is granted of the RETRACT requests, they are held back (R89, R109). -/
theorem Wall.tryRetracts_none {w : Wall} {q : List Request}
    (h : (∀ r ∈ q, r.kind = .bundle) ∨ ((w.bins.get retractBin).full = true ∧ (w.bins.get rejectBin).full = true)) :
    Wall.tryRetracts q w = (w.holdBackAll q, false) := by
  rcases h with bundles | ⟨full, other⟩
  · have no_retract : q.filter (fun r => r.kind == .retract) = [] := by
      rw [List.filter_eq_nil_iff]
      intro r hr
      rw [bundles r hr]
      decide
    rw [Wall.tryRetracts_bundles bundles, Wall.holdBackAll, no_retract]
    rfl
  · exact Wall.tryRetracts_full q full other

theorem mem_retracts {q : List Request} {n : LaneId} :
    n ∈ (q.filter fun r => r.kind == .retract).map Request.lane ↔ ({ lane := n, kind := .retract } : Request) ∈ q := by
  simp only [List.mem_map, List.mem_filter, beq_iff_eq]
  constructor
  · rintro ⟨⟨lane, kind⟩, ⟨member, rfl⟩, rfl⟩
    exact member
  · exact fun member => ⟨_, ⟨member, rfl⟩, rfl⟩

/-- What the held-back requests leave: their bundle records, and a post for each (R109). -/
theorem Wall.holdBacks_spec {w : Wall} (rs : List Request) {v u : Wall} (bins : v.bins = w.bins) (news : v.SameNews u) :
    let t := rs.foldl (fun v r => v.holdBack r.lane) v
    t = { v with lanes := t.lanes, board := t.board, lost := t.lost }
      ∧ (∀ n, t.lanes.get n =
        if n ∈ rs.map Request.lane then { v.lanes.get n with bundle := { (v.lanes.get n).bundle with phase := .heldBack } } else v.lanes.get n)
      ∧ t.SameNews (rs.foldl (fun v _ => v.post (.binFull retractBin) (w.bins.get retractBin).count) u) := by
  induction rs generalizing v u with
  | nil => exact ⟨rfl, fun n => by simp, news⟩
  | cons r rs ih =>
    have frame := v.holdBack_frame r.lane
    have posted : (v.holdBack r.lane).SameNews (u.post (.binFull retractBin) (w.bins.get retractBin).count) := by
      have same : (v.modBundle r.lane fun b => { b with phase := .heldBack }).SameNews u := ⟨news.board, news.lost, news.port⟩
      rw [Wall.holdBack, bins]
      exact same.post _ _
    obtain ⟨rest, lanes, shown⟩ := ih (by rw [frame]; exact bins) posted
    refine ⟨?_, fun n => ?_, shown⟩
    · rw [List.foldl_cons, rest, frame]
    · have lane : (v.holdBack r.lane).lanes.get n = _ := (congrArg (Vector.get · n) (congrArg Wall.lanes frame)).trans (tabMod_get _ _ _ _)
      rw [List.foldl_cons, lanes n, lane, List.map_cons]
      by_cases own : n = r.lane <;> by_cases later : n ∈ rs.map Request.lane <;> simp [own, later]

theorem Wall.holdBackAll_spec (q : List Request) (w : Wall) :
    w.holdBackAll q = { w with lanes := (w.holdBackAll q).lanes, board := (w.holdBackAll q).board, lost := (w.holdBackAll q).lost }
      ∧ (∀ n, (w.holdBackAll q).lanes.get n =
        if ({ lane := n, kind := .retract } : Request) ∈ q then { w.lanes.get n with bundle := { (w.lanes.get n).bundle with phase := .heldBack } }
        else w.lanes.get n)
      ∧ (w.holdBackAll q).SameNews
        ((q.filter fun r => r.kind == .retract).foldl (fun v _ => v.post (.binFull retractBin) (w.bins.get retractBin).count) w) := by
  simp only [← mem_retracts]
  exact Wall.holdBacks_spec _ rfl ⟨rfl, rfl, rfl⟩

/-! ### A BUNDLE request is granted (R89, R91, R92) -/

theorem Wall.grantBundle_eq {w : Wall} {n : LaneId} {x : SlotId} {c : DispenseContext} (order : w.orderOf n .dispense = some x)
    (context : (w.slot (lanePage n) x).context = some c) :
    w.grantBundle n =
      if (w.slot (lanePage n) x).state = .accepted then (w.bundleLoaded n x c).startWork (lanePage n) x else w.bundleLoaded n x c := by
  unfold Wall.grantBundle
  dsimp only
  split
  · next none_found => exact absurd (order.symm.trans none_found) (by simp)
  · next y found =>
    obtain rfl : x = y := Option.some.inj (order.symm.trans found)
    split
    · next no_context => exact absurd (context.symm.trans no_context) (by simp)
    · next d found_context =>
      obtain rfl : c = d := Option.some.inj (context.symm.trans found_context)
      rfl

/-- A granted BUNDLE request changes the pages, the transport, the gate and the engine alone. -/
theorem Wall.grantBundle_frame (n : LaneId) (w : Wall) :
    w.grantBundle n =
      { w with pages := (w.grantBundle n).pages, transport := (w.grantBundle n).transport, gate := (w.grantBundle n).gate,
               engine := (w.grantBundle n).engine } := by
  unfold Wall.grantBundle
  dsimp only
  split
  · rfl
  split
  · rfl
  split <;> rfl

/-- So does what the evaluation makes of the BUNDLE requests. -/
theorem Wall.bundleGrant_frame (locked : Bool) (o : Option Request) (v : Wall) :
    let t := if locked then v else o.elim v fun r => v.grantBundle r.lane
    t = { v with pages := t.pages, transport := t.transport, gate := t.gate, engine := t.engine } := by
  cases locked
  · cases o with
    | none => rfl
    | some r => exact Wall.grantBundle_frame r.lane v
  · rfl

/-- A bundle's work starts in the slot alone, RUNNING where its order was ACCEPTED (R31, R89). -/
theorem Wall.grantBundle_begun {w : Wall} {n : LaneId} {x : SlotId} {c : DispenseContext} (order : w.orderOf n .dispense = some x)
    (context : (w.slot (lanePage n) x).context = some c) (free : w.held = false) :
    w.grantBundle n = { w.bundleLoaded n x c with pages := (w.grantBundle n).pages }
      ∧ (w.grantBundle n).slot (lanePage n) x =
        { w.slot (lanePage n) x with
            state := if (w.slot (lanePage n) x).state = .accepted then .running else (w.slot (lanePage n) x).state }
      ∧ ∀ p y, (p, y) ≠ (lanePage n, x) → (w.grantBundle n).slot p y = w.slot p y := by
  have works : (w.bundleLoaded n x c).workState = .running := by
    have free' : (w.bundleLoaded n x c).held = false := free
    rw [Wall.workState, free']
    rfl
  rw [Wall.grantBundle_eq order context]
  split
  · next accepted =>
    have listed : ((w.bundleLoaded n x c).slot (lanePage n) x).state.listed = true := congrArg SlotState.listed accepted
    refine ⟨rfl, ?_, fun p y other => Wall.modSlot_slot_other _ _ other⟩
    rw [Wall.startWork_listed listed, works]
    rfl
  · exact ⟨rfl, rfl, fun _ _ _ => rfl⟩

/-! ### The evaluation (R89) -/

section
variable {w : Wall} (idle : w.transport.state = .idle) (free : w.held = false)
include idle free

/-- Where a bin has room, the evaluation grants the oldest RETRACT request (R89, R109). -/
theorem Wall.transportGrant_granted {r : Request} (first : w.transport.queue.find? (fun q => q.kind == .retract) = some r)
    (room : (w.bins.get retractBin).full = false ∨ (w.bins.get rejectBin).full = false) : w.transportGrant = w.retractGranted r.lane := by
  unfold Wall.transportGrant
  rw [if_pos ⟨idle, free⟩]
  simp [Wall.tryRetracts_granted first room]

/-- Where no RETRACT request is granted, the evaluation goes on to the BUNDLE requests of the wall that holds the others back (R89). -/
theorem Wall.transportGrant_bundles {v : Wall} (none_granted : Wall.tryRetracts w.transport.queue w = (v, false)) :
    w.transportGrant =
      if w.lockdown then v
      else (v.transport.queue.find? fun r => r.kind == .bundle).elim v fun r => v.grantBundle r.lane := by
  unfold Wall.transportGrant
  rw [if_pos ⟨idle, free⟩]
  simp only [none_granted, Bool.false_or]
  cases v.transport.queue.find? fun r => r.kind == .bundle <;> rfl

end

/-! ### A RETRACT of a HOLDING drawer (R107, R108, R11) -/

/-- A RETRACT that joins the waiting list of a HOLDING drawer without an owner is granted it next, where none of those before it could be (R11). -/
theorem Wall.nextGrant_retract {u v : Wall} {n : LaneId} {x : SlotId} (none_before : u.nextGrant n = none) (ownerless : (u.lanes.get n).owner = none)
    (holding : (u.lanes.get n).drawer = .holding) (unforced : (u.lanes.get n).forced = false)
    (lane : v.lanes.get n = { u.lanes.get n with waiting := (u.lanes.get n).waiting ++ [x] })
    (kinds : ∀ y, v.kindAt (lanePage n) y = u.kindAt (lanePage n) y) (kind : u.kindAt (lanePage n) x = some .retract) : v.nextGrant n = some x := by
  have same (y : SlotId) : v.grantable n y = u.grantable n y :=
    Wall.grantable_congr (by rw [lane]) (by rw [lane]) (kinds y)
  have older := none_before
  rw [Wall.nextGrant, if_neg (by simp [ownerless]), List.find?_eq_none] at older
  have now : v.grantable n x = true := by
    rw [same]
    simp [Wall.grantable, unforced, kind, holding]
  have skipped : (u.lanes.get n).waiting.find? (v.grantable n) = none := by
    rw [List.find?_eq_none]
    intro y hy
    rw [same]
    exact older y hy
  rw [Wall.nextGrant, lane, if_neg (by simp [ownerless]), List.find?_append, skipped]
  simp [now]

/-- The wall when a RETRACT just placed has been given its drawer and has its request in the queue (R11, R108). -/
def Wall.retractQueued (n : LaneId) (x : SlotId) (tag : Word) (w : Wall) : Wall :=
  ((((((w.posted (lanePage n) x .retract tag []).acceptSlot (lanePage n) x).requestDrawer n x).giveDrawer n x).startWork (lanePage n) x).queueRetract n)

section
variable {s : State} {n : LaneId} {x : SlotId} (tag : Word)

/-- The RETRACT is taken, and next granted its drawer (R108, R11). -/
theorem State.retract_granted (on : s.supply = true) (h : s.wall.TakesNow (lanePage n) x .retract) (holding : (s.wall.lanes.get n).drawer = .holding)
    (ownerless : (s.wall.lanes.get n).owner = none) (unforced : (s.wall.lanes.get n).forced = false) (sound : s.wall.transport.state ≠ .faulted) :
    ((s.wall.posted (lanePage n) x .retract tag []).take (lanePage n) x).grantDrawer n x = (s.wall.retractQueued n x tag).transportGrant
      ∧ exec (.retract n x tag) s = .next
        (State.evaluatedFor 78
          { s with latch := none, wall := ((s.wall.posted (lanePage n) x .retract tag []).take (lanePage n) x).grantDrawer n x }) := by
  have kind := s.wall.posted_kindAt n x .retract tag [] (by decide)
  have placed := State.place_takes on h tag [] kind rfl
  have nothing := h.posted_nextGrant tag []
  have settled := h.posted_settles tag []
  have queued : s.wall.retractQueued n x tag =
    (((((s.wall.posted (lanePage n) x .retract tag []).acceptSlot (lanePage n) x).requestDrawer n x).giveDrawer n x).startWork (lanePage n) x).queueRetract n := rfl
  have checks : (s.wall.posted (lanePage n) x .retract tag []).refusal (lanePage n) x = none := by
    rw [Wall.posted_refusal n x tag [] _ (by decide), Wall.checkLane_retract]
    simp [holding, ownerless]
  have lanes : (s.wall.posted (lanePage n) x .retract tag []).lanes = s.wall.lanes := rfl
  have path : (s.wall.posted (lanePage n) x .retract tag []).transport = s.wall.transport := rfl
  rw [Wall.take_lane kind checks, Wall.acceptLane] at placed ⊢
  generalize s.wall.posted (lanePage n) x .retract tag [] = u at *
  have accepted := Wall.acceptSlot_slot (lanePage n) x u
  have slots (p : PageId) (y : SlotId) (e : (p, y) ≠ (lanePage n, x)) := Wall.acceptSlot_other u e
  have kinds (p : PageId) (y : SlotId) : ((u.acceptSlot (lanePage n) x).requestDrawer n x).kindAt p y = u.kindAt p y := by
    refine Wall.kindAt_congr ?_
    by_cases e : (p, y) = (lanePage n, x)
    · obtain ⟨rfl, rfl⟩ := Prod.mk.inj e
      exact (congrArg Slot.body accepted).trans rfl
    · exact congrArg Slot.body (slots p y e)
  have granted : ((u.acceptSlot (lanePage n) x).requestDrawer n x).evaluateOnce =
      some (((u.acceptSlot (lanePage n) x).requestDrawer n x).grantDrawer n x) := by
    refine Wall.evaluateOnce_grant (fun m => ?_) (Wall.nextDrawer_single ?_ fun m e => ?_)
    · refine Wall.settles_mono ?_ (fun y running other => ⟨?_, by rwa [kinds]⟩) (settled m)
      · by_cases e : m = n
        · subst e
          rw [Wall.requestDrawer_lane]
          rfl
        · exact congrArg Lane.state (Wall.modLane_get_other _ _ e)
      · by_cases e : (lanePage m, y) = (lanePage n, x)
        · rw [(Prod.mk.inj e).1, (Prod.mk.inj e).2]
          exact congrArg (fun z : Slot => z.state.inProgress) accepted
        · exact (congrArg (fun z : Slot => z.state.inProgress) (slots _ y e)).trans running
    · exact Wall.nextGrant_retract (nothing n) (lanes ▸ ownerless) (lanes ▸ holding) (lanes ▸ unforced) (Wall.requestDrawer_lane ..)
        (fun y => kinds _ y) kind
    · exact Wall.nextGrant_congr (w := u) (Wall.modLane_get_other _ _ e) (fun y _ => kinds _ y) (nothing m)
  refine ⟨?_, placed.trans ?_⟩
  · rw [queued]
    simp only [Wall.grantDrawer, kinds, kind]
    exact if_neg (path ▸ sound)
  · exact congrArg Host.Outcome.next (State.evaluatedFor_some
      (s := { s with latch := none, wall := (u.acceptSlot (lanePage n) x).requestDrawer n x }) granted 78)

theorem Wall.retractQueued_spec (n : LaneId) (x : SlotId) (tag : Word) (w : Wall) :
    let t := w.retractQueued n x tag
    t.transport = { w.transport with queue := w.transport.queue ++ [{ lane := n, kind := .retract }] }
      ∧ (t.lanes.get n).owner = some x ∧ (t.lanes.get n).drawer = (w.lanes.get n).drawer
      ∧ (t.lanes.get n).bundle = { (w.lanes.get n).bundle with phase := .queued } ∧ (∀ m, m ≠ n → t.lanes.get m = w.lanes.get m)
      ∧ (t.slot (lanePage n) x).state = w.workState ∧ t.SameNews w ∧ t.bins = w.bins := by
  have lanes : (w.retractQueued n x tag).lanes =
      tabMod (tabMod (tabMod w.lanes n fun l => { l with waiting := l.waiting ++ [x] }) n fun l =>
        { l with owner := some x, ownerClose := none, waiting := l.waiting.filter fun y => y ≠ x }) n fun l =>
          { l with bundle := { l.bundle with phase := .queued } } := rfl
  dsimp only
  refine ⟨rfl, ?_, ?_, ?_, fun m e => ?_, ?_, ⟨rfl, rfl, rfl⟩, rfl⟩
  · rw [lanes, tabMod_get_same, tabMod_get_same]
  · rw [lanes, tabMod_get_same, tabMod_get_same, tabMod_get_same]
  · rw [lanes, tabMod_get_same, tabMod_get_same, tabMod_get_same]
  · rw [lanes, tabMod_get_other _ _ e, tabMod_get_other _ _ e, tabMod_get_other _ _ e]
  · have accepted := Wall.acceptSlot_slot (lanePage n) x (w.posted (lanePage n) x .retract tag [])
    have started := Wall.giveDrawer_startWork (w := ((w.posted (lanePage n) x .retract tag []).acceptSlot (lanePage n) x).requestDrawer n x)
      (congrArg Slot.state accepted)
    exact congrArg Slot.state started

end

/-- The only request in the queue, a RETRACT, is granted (R109, R110). -/
theorem Wall.retractGranted_alone {g : Wall} {n : LaneId} (queue : g.transport.queue = [{ lane := n, kind := .retract }]) :
    let t := g.retractGranted n
    t.transport.state = .granted ∧ t.transport.join = .retract n ∧ t.transport.queue = [] ∧ t.transport.quiet = 0
      ∧ t.lanes.get n = { g.lanes.get n with bundle := (g.lanes.get n).bundle.sweeping g.retractGoal }
      ∧ (∀ m, m ≠ n → t.lanes.get m = g.lanes.get m) ∧ ∀ p y, t.slot p y = g.slot p y := by
  have frame := g.retractGranted_frame n
  rw [Wall.grantRetract_eq] at frame
  dsimp only
  generalize g.retractGranted n = t at *
  rw [frame]
  refine ⟨rfl, rfl, ?_, rfl, tabMod_get_same .., fun m e => tabMod_get_other _ _ e, fun _ _ => rfl⟩
  show g.transport.queue.filter (fun q => !(q.lane == n && q.kind == .retract)) = []
  rw [queue]
  simp

/-- Settles O35: the evaluation by the first request it can grant, and a RETRACT by what the evaluation after its request does. -/
theorem retractBegins : Obligations.RetractBegins := by
  unfold Obligations.RetractBegins
  refine ⟨fun w => ⟨Wall.transportGrant_busy, fun idle free => ⟨fun bundles still => ?still, fun r first room => ?granted, fun full other => ?heldBack,
      fun unlocked barred r first x c order context => ?bundle⟩⟩, fun s n x tag on takes drawer ownerless unforced sound => ?order⟩
  case still =>
    rcases still with locked | empty
    · rw [Wall.transportGrant_bundles idle free (Wall.tryRetracts_bundles bundles), if_pos locked]
    · exact Wall.transportGrant_empty empty
  case granted =>
    refine ⟨_, rfl, ?_⟩
    have frame := w.retractGranted_frame r.lane
    have news := w.retractGranted_news r.lane
    rw [Wall.grantRetract_eq] at frame
    rw [Wall.transportGrant_granted idle free first room]
    generalize w.retractGranted r.lane = t at *
    refine ⟨by rw [frame], by rw [frame], ?_, fun m other => ?_, fun empty => ?_, fun full => ?_, ?_⟩
    · rw [frame]
      exact tabMod_get_same ..
    · rw [frame]
      exact tabMod_get_other _ _ other
    · rw [empty] at news
      exact news.shown _ rfl
    · rw [full] at news
      exact news.shown
    · rw [frame]
  case heldBack =>
    refine ⟨_, rfl, ?_⟩
    have none_granted := Wall.tryRetracts_none (w := w) (q := w.transport.queue) (.inr ⟨full, other⟩)
    rw [Wall.transportGrant_bundles idle free none_granted]
    obtain ⟨frame, lanes, news⟩ := w.holdBackAll_spec w.transport.queue
    generalize w.holdBackAll w.transport.queue = v at *
    have queue : v.transport.queue = w.transport.queue := by rw [frame]
    have whole := Wall.bundleGrant_frame w.lockdown (v.transport.queue.find? fun r => r.kind == .bundle) v
    have alone : w.lockdown = true ∨ (∀ q ∈ w.transport.queue, q.kind = .retract) →
        (if w.lockdown then v else (v.transport.queue.find? fun r => r.kind == .bundle).elim v fun r => v.grantBundle r.lane) = v := by
      rintro (locked | retracts)
      · exact if_pos locked
      · have no_bundle : w.transport.queue.find? (fun r => r.kind == .bundle) = none := by
          rw [List.find?_eq_none]
          intro q hq
          rw [retracts q hq]
          decide
        rw [queue, no_bundle, Option.elim_none, ite_self]
    generalize (if w.lockdown then v else Option.elim _ v _) = t at *
    refine ⟨fun n => ?_, fun e shown => ?_, ?_, ?_, fun still => ?_⟩
    · rw [congrArg Wall.lanes whole]
      exact lanes n
    · rw [congrArg Wall.board whole, congrArg Wall.lost whole]
      exact news.shown e shown
    · rw [congrArg Wall.bins whole, frame]
    · rw [congrArg Wall.cassettes whole, frame]
    · rw [alone still]
      exact frame
  case bundle =>
    refine ⟨_, rfl, ?_⟩
    obtain ⟨frame, -, -⟩ := w.holdBackAll_spec w.transport.queue
    rw [Wall.transportGrant_bundles idle free (Wall.tryRetracts_none barred), if_neg (Bool.eq_false_iff.mp unlocked)]
    generalize w.holdBackAll w.transport.queue = v at *
    have queue : v.transport.queue = w.transport.queue := by rw [frame]
    obtain ⟨begun, slot, others⟩ := Wall.grantBundle_begun (w := v) (n := r.lane) (x := x) (c := c) (by rw [frame]; exact order)
      (by rw [frame]; exact context) (by rw [frame]; exact free)
    rw [queue, first, Option.elim_some]
    generalize v.grantBundle r.lane = t at *
    refine ⟨?_, ?_, ?_, ?_, fun p y other => ?_, ?_, ?_⟩
    · rw [begun, frame]
      rfl
    · rw [begun, frame]
      rfl
    · rw [begun, frame]
      rfl
    · rw [slot, frame]
      rfl
    · rw [others p y other, frame]
      rfl
    · rw [begun, frame]
      rfl
    · rw [begun, frame]
      rfl
  case order =>
    obtain ⟨requested, answer⟩ := State.retract_granted tag on (Wall.takesNow_iff.mp takes) drawer ownerless unforced sound
    obtain ⟨path, owner, stays, bundle, others, state, news, bins⟩ := s.wall.retractQueued_spec n x tag
    have held : (s.wall.retractQueued n x tag).held = s.wall.held := by rw [Wall.held, news.port, Wall.held]
    refine ⟨answer, fun busy => ⟨_, rfl, answer, ?_⟩, fun idle free queue room => ⟨_, rfl, answer, ?_⟩,
      fun idle free queue full room => ⟨_, rfl, answer, ?_⟩, fun idle free queue full other => ⟨_, rfl, answer, ?_⟩⟩
    all_goals
      dsimp only
      rw [requested]
      generalize s.wall.retractQueued n x tag = g at *
    case refine_1 =>
      rw [Wall.transportGrant_busy (by rw [path, held]; exact busy)]
      exact ⟨owner, state, stays.trans drawer, bundle, path, others⟩
    all_goals
      have alone : g.transport.queue = [{ lane := n, kind := .retract }] := by rw [path, queue]; rfl
      have first : g.transport.queue.find? (fun q => q.kind == .retract) = some { lane := n, kind := .retract } := by rw [alone]; rfl
      have idle' : g.transport.state = .idle := by rw [path]; exact idle
      have running : s.wall.workState = .running := by rw [Wall.workState, free]; rfl
      rw [running] at state
    case refine_2 =>
      obtain ⟨granted, join, empty, quiet, lane, rest, slots⟩ := Wall.retractGranted_alone alone
      have posted := g.retractGranted_news n
      rw [bins, room] at posted
      rw [Wall.transportGrant_granted idle' (held.trans free) first (.inl (bins ▸ room)), lane, slots, Wall.retractGoal, bins, room]
      exact ⟨owner, state, granted, join, empty, quiet, rfl, rfl, rfl, posted.board.trans news.board, posted.lost.trans news.lost,
        fun m e => (rest m e).trans (others m e)⟩
    case refine_3 =>
      obtain ⟨granted, join, empty, quiet, lane, rest, slots⟩ := Wall.retractGranted_alone alone
      have posted := g.retractGranted_news n
      rw [bins, full] at posted
      rw [Wall.transportGrant_granted idle' (held.trans free) first (.inr (bins ▸ room)), lane, slots, Wall.retractGoal, bins, full]
      have diverted := (news.post (.retractDiverted n) (s.wall.bins.get retractBin).count)
      exact ⟨owner, state, granted, join, empty, quiet, rfl, rfl, rfl,
        fun e shown => ⟨posted.board.trans (diverted.shown e shown).1, posted.lost.trans (diverted.shown e shown).2⟩,
        fun m e => (rest m e).trans (others m e)⟩
    case refine_4 =>
      have no_bundle : g.transport.queue.find? (fun q => q.kind == .bundle) = none := by rw [alone]; rfl
      obtain ⟨frame, lanes, posted⟩ := g.holdBackAll_spec g.transport.queue
      have goes := Wall.transportGrant_bundles idle' (held.trans free) (Wall.tryRetracts_full g.transport.queue (bins ▸ full) (bins ▸ other))
      have same : (g.holdBackAll g.transport.queue).transport = g.transport := by rw [frame]
      rw [same, no_bundle, Option.elim_none, ite_self] at goes
      rw [goes]
      generalize g.holdBackAll g.transport.queue = t at *
      rw [alone, bins] at posted
      have held_back := news.post (.binFull retractBin) (s.wall.bins.get retractBin).count
      have own := lanes n
      rw [alone, if_pos (List.mem_singleton.mpr rfl)] at own
      rw [own, bundle, same, path, queue]
      refine ⟨owner, ?_, stays.trans drawer, rfl, rfl, fun e shown => ?_, fun m e => ?_⟩
      · rw [frame]
        exact state
      · exact ⟨posted.board.trans (held_back.shown e shown).1, posted.lost.trans (held_back.shown e shown).2⟩
      · have apart : ({ lane := m, kind := .retract } : Request) ∉ g.transport.queue := by
          rw [alone, List.mem_singleton]
          exact fun both => e (Request.mk.inj both).1
        rw [lanes m, if_neg apart]
        exact others m e

end Sys2Proof.Machine
end

section
/-! SUPPORT. An internal point goes ACTIVE (R141, R142, R144, R147, R148, R149, R154): what its zone makes of that before lockdown reaches the lanes, and what
stands of it afterwards. -/

namespace Sys2Proof.Machine

/-- The entry of lockdown before it reaches the lanes (R154). -/
def Wall.lockCall (z : ZoneId) (w : Wall) : Wall :=
  (w.modAlarm fun a => { a with lockdown := true, lockdownZone := some z, lockdownStart := w.port.seconds }).post .lockdownOn z.val

theorem Wall.lockCall_only (z : ZoneId) (w : Wall) : w.AlarmOnly (w.lockCall z) := ((Wall.AlarmOnly.refl w).modAlarm _).post _ _

theorem Wall.lockCall_alarm (z : ZoneId) (w : Wall) :
    (w.lockCall z).alarm = { w.alarm with lockdown := true, lockdownZone := some z, lockdownStart := w.port.seconds } := Wall.post_alarm _ _ _

theorem Wall.lockCall_zones (z : ZoneId) (w : Wall) : (w.lockCall z).zones = w.zones := Wall.post_zones _ _ _

/-- The wall once an internal point has gone ACTIVE, before a lockdown that its zone enters reaches the lanes (R142, R144, R149, R154). -/
def Wall.pointMet (p : PointId) (w : Wall) : Wall :=
  let z := (w.points.get p).zone
  let v := w.modPoint p (Point.change true)
  if (w.points.get p).live = true then w
  else if w.pointAlarms p = true then
    if w.pointLocks p = true then (v.alarmCall z p).lockCall z else v.alarmCall z p
  else v.modZone z fun _ => w.zoneMet p

/-- A change of a zone is the change it makes of that zone. -/
theorem Wall.modZone_congr {z : ZoneId} {f g : Zone → Zone} {w : Wall} (h : f (w.zones.get z) = g (w.zones.get z)) : w.modZone z f = w.modZone z g := by
  simp only [Wall.modZone, tabMod, h]

section
variable {p : PointId} {w : Wall}

theorem Wall.pointLocks_alarms (h : w.pointLocks p = true) : w.pointAlarms p = true := by
  simp only [Wall.pointLocks, Bool.and_eq_true] at h
  exact h.1.1

/-- A zone that a member point puts into ALARM calls for lockdown exactly where its flag is set (R154, R155). -/
theorem Wall.pointAlarms_lockdownAlarm (h : w.pointAlarms p = true) :
    ((w.zones.get (w.points.get p).zone).raised p).lockdownAlarm = (w.zones.get (w.points.get p).zone).lockdownFlag := by
  simp only [Wall.pointAlarms, Bool.and_eq_true] at h
  cases mode : (w.zones.get (w.points.get p).zone).mode <;>
    simp_all [Zone.alarmedBy, Zone.lockdownAlarm, Zone.calls, Zone.raised]

/-- An internal point that a block makes ACTIVE: what its zone makes of that, and then lockdown at the lanes where the zone has entered it. -/
theorem Wall.setInternal_active (hp : 12 ≤ p.val) (w : Wall) :
    w.setInternal p true = if w.pointLocks p = true then (w.pointMet p).eachLane Wall.lockdownLane else w.pointMet p := by
  have h0 : p ≠ 0 := by rintro rfl; exact absurd hp (by decide)
  have h2 : p ≠ 2 := by rintro rfl; exact absurd hp (by decide)
  by_cases live : (w.points.get p).live = true
  · have silent : w.pointAlarms p = false := by simp [Wall.pointAlarms, live]
    have free : w.pointLocks p = false := by simp [Wall.pointLocks, silent]
    rw [Wall.setInternal_same w live, Wall.pointMet, if_pos live, free]
    rfl
  · have still : (w.points.get p).live = false := by simpa using live
    have entry : ((w.modPoint p (Point.change true)).points.get p).entryDelay = (w.points.get p).entryDelay := by
      rw [Wall.modPoint_points, tabMod_get_same]
      rfl
    have met : w.setInternal p true = (w.modPoint p (Point.change true)).zoneReact (w.points.get p).zone p := by
      rw [Wall.setInternal, if_neg live, Wall.changeLive, if_pos rfl]
      simp only [Wall.markDoors, h0, h2, if_false]
    have alarms : w.pointAlarms p = (w.zones.get (w.points.get p).zone).alarmedBy (w.points.get p).entryDelay := by
      simp [Wall.pointAlarms, still]
    rw [met, Wall.zoneReact_eq, entry, Wall.modPoint_zones, ← alarms, Wall.pointMet, if_neg live]
    by_cases alarm : w.pointAlarms p = true
    · have unfolded (v : Wall) (z : ZoneId) : v.zoneAlarm z p =
          if ((v.alarmCall z p).zones.get z).lockdownAlarm then (v.alarmCall z p).enterLockdown z else v.alarmCall z p := rfl
      have in_force (v : Wall) (z : ZoneId) : (v.alarmCall z p).lockdown = v.lockdown := (Wall.alarmCall_alarm z p v).1
      have free : (w.modPoint p (Point.change true)).lockdown = w.lockdown := rfl
      rw [if_pos alarm, if_pos alarm, unfolded, Wall.alarmCall_zones, tabMod_get_same, Wall.modPoint_zones, Wall.pointAlarms_lockdownAlarm alarm]
      cases flag : (w.zones.get (w.points.get p).zone).lockdownFlag
      · simp [Wall.pointLocks, flag]
      · cases lock : w.lockdown
        · have locks : w.pointLocks p = true := by simp [Wall.pointLocks, alarm, flag, lock]
          rw [if_pos rfl, if_pos locks, if_pos locks, Wall.enterLockdown_eq _ ((in_force _ _).trans (free.trans lock))]
          rfl
        · have locks : w.pointLocks p = false := by simp [Wall.pointLocks, lock]
          rw [if_pos rfl, locks, Wall.enterLockdown_inForce _ ((in_force _ _).trans (free.trans lock))]
          rfl
    · have free : ¬w.pointLocks p = true := fun locks => alarm (Wall.pointLocks_alarms locks)
      rw [if_neg alarm, if_neg alarm, if_neg free]
      unfold Wall.zoneMet
      rw [if_neg alarm]
      by_cases delay : (w.zones.get (w.points.get p).zone).mode = .armable ∧ (w.zones.get (w.points.get p).zone).state = .armed
      · rw [if_pos delay, if_pos ⟨still, delay⟩]
        exact Wall.modZone_congr rfl
      · rw [if_neg delay, if_neg fun h => delay h.2]
        unfold Wall.modZone
        rw [tabMod_same]
        rfl

/-- Before lockdown reaches the lanes the points, the zones, the alarm status and the board have changed alone. -/
theorem Wall.pointMet_frame (p : PointId) (w : Wall) :
    w.pointMet p =
      { w with points := (w.pointMet p).points, zones := (w.pointMet p).zones, alarm := (w.pointMet p).alarm, board := (w.pointMet p).board,
               lost := (w.pointMet p).lost } := by
  have called := Wall.alarmCall_only (w.points.get p).zone p (w.modPoint p (Point.change true))
  have locked := called.trans (Wall.lockCall_only (w.points.get p).zone _)
  unfold Wall.pointMet
  dsimp only
  split
  · rfl
  · split
    · split
      · rw [locked]
        rfl
      · rw [called]
        rfl
    · rfl

/-- What the point's going ACTIVE posts (R149, R154). -/
theorem Wall.pointMet_news (p : PointId) (w : Wall) : (w.pointMet p).SameNews (w.pointNews p) := by
  have called : ((w.modPoint p (Point.change true)).alarmCall (w.points.get p).zone p).SameNews (w.post (.zoneAlarm (w.points.get p).zone) p.val) := by
    have same : ((w.modPoint p (Point.change true)).modZone (w.points.get p).zone (Zone.raised p)).SameNews w := ⟨rfl, rfl, rfl⟩
    have posted := same.post (.zoneAlarm (w.points.get p).zone) p.val
    exact ⟨posted.board, posted.lost, posted.port⟩
  unfold Wall.pointMet Wall.pointNews
  dsimp only
  split
  · next live =>
    have silent : w.pointAlarms p = false := by simp [Wall.pointAlarms, live]
    have free : w.pointLocks p = false := by simp [Wall.pointLocks, silent]
    rw [if_neg (by simp [free]), if_neg (by simp [silent])]
    exact ⟨rfl, rfl, rfl⟩
  · split
    · split
      · have moved : (((w.modPoint p (Point.change true)).alarmCall (w.points.get p).zone p).modAlarm fun a =>
            { a with lockdown := true, lockdownZone := some (w.points.get p).zone, lockdownStart := w.port.seconds }).SameNews
            (w.post (.zoneAlarm (w.points.get p).zone) p.val) := ⟨called.board, called.lost, called.port⟩
        have seconds : ((w.modPoint p (Point.change true)).alarmCall (w.points.get p).zone p).port.seconds = w.port.seconds := by
          rw [Wall.alarmCall_only (w.points.get p).zone p (w.modPoint p (Point.change true))]
          rfl
        rw [Wall.lockCall, seconds]
        exact moved.post _ _
      · exact called
    · next silent =>
      have free : w.pointLocks p ≠ true := fun locks => silent (Wall.pointLocks_alarms locks)
      rw [if_neg free]
      exact ⟨rfl, rfl, rfl⟩

theorem Wall.pointMet_points (p : PointId) (w : Wall) :
    (w.pointMet p).points = if (w.points.get p).live = true then w.points else tabMod w.points p (Point.change true) := by
  have called : ((w.modPoint p (Point.change true)).alarmCall (w.points.get p).zone p).points = tabMod w.points p (Point.change true) := by
    rw [Wall.alarmCall_only (w.points.get p).zone p (w.modPoint p (Point.change true))]
    rfl
  unfold Wall.pointMet
  dsimp only
  split
  · rfl
  · split
    · split
      · rw [Wall.lockCall_only (w.points.get p).zone ((w.modPoint p (Point.change true)).alarmCall (w.points.get p).zone p)]
        exact called
      · exact called
    · rfl

theorem Wall.pointMet_zones (p : PointId) (w : Wall) :
    (w.pointMet p).zones = tabMod w.zones (w.points.get p).zone fun _ => w.zoneMet p := by
  have called : ((w.modPoint p (Point.change true)).alarmCall (w.points.get p).zone p).zones =
      tabMod w.zones (w.points.get p).zone (Zone.raised p) := Wall.alarmCall_zones ..
  have raised (alarm : w.pointAlarms p = true) : tabMod w.zones (w.points.get p).zone (Zone.raised p) =
      tabMod w.zones (w.points.get p).zone fun _ => w.zoneMet p := by
    simp only [tabMod, Wall.zoneMet, if_pos alarm]
    rfl
  unfold Wall.pointMet
  dsimp only
  split
  · next live =>
    have silent : w.pointAlarms p = false := by simp [Wall.pointAlarms, live]
    rw [tabMod_same]
    simp [Wall.zoneMet, silent, live]
  · split
    · next alarm =>
      split
      · rw [Wall.lockCall_zones, called, raised alarm]
      · rw [called, raised alarm]
    · rfl

/-- The outputs follow the zones as they stand (R150). -/
theorem Wall.outputs_congr {v w : Wall} (h : v.zones = w.zones) :
    v.sirenCalled = w.sirenCalled ∧ v.strobeCalled = w.strobeCalled ∧ v.silentCalled = w.silentCalled := by
  simp only [Wall.sirenCalled, Wall.strobeCalled, Wall.silentCalled, h]
  trivial

/-- The alarm status as the point's zone leaves it (R150, R154). -/
theorem Wall.pointMet_alarm (p : PointId) (w : Wall) :
    (w.pointAlarms p = false → (w.pointMet p).alarm = w.alarm)
      ∧ (w.pointAlarms p = true → (w.pointMet p).alarm.siren = (w.pointMet p).sirenCalled
        ∧ (w.pointMet p).alarm.strobe = (w.pointMet p).strobeCalled ∧ (w.pointMet p).alarm.silent = (w.pointMet p).silentCalled)
      ∧ (w.pointMet p).alarm.lockdown = (w.alarm.lockdown || w.pointLocks p)
      ∧ (w.pointMet p).alarm.lockdownZone = (if w.pointLocks p then some (w.points.get p).zone else w.alarm.lockdownZone)
      ∧ (w.pointMet p).alarm.lockdownStart = (if w.pointLocks p then w.port.seconds else w.alarm.lockdownStart) := by
  by_cases alarm : w.pointAlarms p = true
  · have still : (w.points.get p).live ≠ true := by
      intro live
      simp [Wall.pointAlarms, live] at alarm
    obtain ⟨lockdown, zone, start⟩ := Wall.alarmCall_alarm (w.points.get p).zone p (w.modPoint p (Point.change true))
    have seconds : ((w.modPoint p (Point.change true)).alarmCall (w.points.get p).zone p).port.seconds = w.port.seconds := by
      rw [Wall.alarmCall_only (w.points.get p).zone p (w.modPoint p (Point.change true))]
      rfl
    refine ⟨fun silent => absurd alarm (by simp [silent]), fun _ => ?_, ?_⟩
    all_goals
      rw [Wall.pointMet]
      rw [if_neg still, if_pos alarm]
      split
    · obtain ⟨siren, strobe, silent⟩ := Wall.outputs_congr
        (Wall.lockCall_zones (w.points.get p).zone ((w.modPoint p (Point.change true)).alarmCall (w.points.get p).zone p))
      rw [Wall.lockCall_alarm, siren, strobe, silent]
      exact ⟨rfl, rfl, rfl⟩
    · exact ⟨rfl, rfl, rfl⟩
    · next locks =>
      rw [Wall.lockCall_alarm, seconds]
      simp [locks]
    · next free =>
      simp [free, lockdown, zone, start]
  · have free : w.pointLocks p ≠ true := fun locks => alarm (Wall.pointLocks_alarms locks)
    have same : (w.pointMet p).alarm = w.alarm := by
      rw [Wall.pointMet]
      split
      · rfl
      · rfl
    exact ⟨fun _ => same, fun h => absurd h alarm, by simp [same, free], by simp [same, free], by simp [same, free]⟩

/-- The wall has met the point as `Wall.madeActive` says where its points, zones and alarm status are those that the zone has left, and no lane is OPEN after an
entry of lockdown. -/
theorem Wall.madeActive_of_pointMet {v : Wall} (points : v.points = (w.pointMet p).points) (zones : v.zones = (w.pointMet p).zones)
    (alarm : v.alarm = (w.pointMet p).alarm) (shut : w.pointLocks p = true → ∀ n, (v.lanes.get n).state ≠ .opened) : w.madeActive v p := by
  obtain ⟨silent, outputs, lockdown, zone, start⟩ := w.pointMet_alarm p
  obtain ⟨siren, strobe, quiet⟩ := Wall.outputs_congr zones
  refine ⟨?_, fun q hq => ?_, fun z => ?_, ?_, ?_, ?_, ?_, ?_, shut⟩
  · rw [points, Wall.pointMet_points]
    split
    · rfl
    · rw [tabMod_get_same, Point.change]
      simp only [satAdd]
      cases (w.points.get p).known <;> cases (w.points.get p).alert <;> rfl
  · rw [points, Wall.pointMet_points]
    split
    · rfl
    · exact tabMod_get_other _ _ hq
  · rw [zones, Wall.pointMet_zones, tabMod_get]
  · rwa [alarm]
  · rwa [alarm, siren, strobe, quiet]
  · rwa [alarm]
  · rwa [alarm]
  · rwa [alarm]

/-- After lockdown has reached the lanes none of them is OPEN, and the points, the zones and the alarm status are as the zone left them (R18). -/
theorem Wall.eachLockdown_alarm (w : Wall) :
    (w.eachLane Wall.lockdownLane).points = w.points ∧ (w.eachLane Wall.lockdownLane).zones = w.zones
      ∧ (w.eachLane Wall.lockdownLane).alarm = w.alarm ∧ ∀ n, ((w.eachLane Wall.lockdownLane).lanes.get n).state ≠ .opened := by
  have moved := Wall.eachLockdown_spec w
  refine ⟨by rw [moved.frame], by rw [moved.frame], by rw [moved.frame], fun n => ?_⟩
  rw [(moved.lane n).1, tabMap_get]
  dsimp only
  split
  · simp
  · next h => exact h

/-- A block makes an internal point ACTIVE (R141, R144, R149, R154). -/
theorem Wall.setInternal_madeActive (hp : 12 ≤ p.val) (w : Wall) : w.madeActive (w.setInternal p true) p := by
  rw [Wall.setInternal_active hp]
  obtain ⟨points, zones, alarm, shut⟩ := Wall.eachLockdown_alarm (w.pointMet p)
  split
  · exact Wall.madeActive_of_pointMet points zones alarm fun _ => shut
  · next free => exact Wall.madeActive_of_pointMet rfl rfl rfl fun locks => absurd locks free

end

end Sys2Proof.Machine
end

section
/-! SUPPORT. Orders of one lane end (R32, R98, R102, R105): what stands of the orders of the other lanes, of the transport and of the rest of the wall. -/

namespace Sys2Proof.Machine

/-! ### A lane's part of the engine and the transport -/

/-- The engine's loaded copy where it is the lane's (R91). -/
def Wall.loadedIn (w : Wall) (n : LaneId) : Option Loaded := w.engine.loaded.filter fun l => l.lane == n

/-- The lane's requests in the queue (R88). -/
def Wall.requestsOf (w : Wall) (n : LaneId) : List Request := w.transport.queue.filter fun r => r.lane == n

theorem Wall.loadedIn_eq_none {w : Wall} {n : LaneId} : w.loadedIn n = none ↔ w.engine.loaded.map Loaded.lane ≠ some n := by
  cases h : w.engine.loaded <;> simp [Wall.loadedIn, h]

theorem Wall.mem_requestsOf {w : Wall} {n : LaneId} {r : Request} : r ∈ w.requestsOf n ↔ r ∈ w.transport.queue ∧ r.lane = n := by
  simp [Wall.requestsOf, List.mem_filter]

/-- The context of the lane's DISPENSE is the loaded one, or else that of its progress area (R91). -/
theorem Wall.contextOf_eq (w : Wall) (n : LaneId) :
    w.contextOf n = (w.loadedIn n).elim ((w.orderOf n .dispense).bind fun x => (w.slot (lanePage n) x).context) fun l => some l.context := by
  unfold Wall.contextOf Wall.loadedIn
  cases w.engine.loaded with
  | none => rfl
  | some l => by_cases h : l.lane = n <;> simp [Option.filter, h]

/-- A tally but for its re-mix mark. -/
def Tally.unmarked (t : Tally) : Tally := { t with remixWait := false }

/-! ### Orders of a lane end -/

/-- Between two walls orders of a lane have ended: other lanes, their pages, tallies and requests stand, and so do the gate, the board and the transport but its
queue. -/
structure Wall.LaneEnds (n : LaneId) (w v : Wall) : Prop where
  ends : w.EndsInLane n v
  page : w.OnlyPage n v
  tally : ∀ m, m ≠ n → v.tallyOf m = w.tallyOf m
  loaded : ∀ m, m ≠ n → v.loadedIn m = w.loadedIn m
  transport : v.transport = { w.transport with queue := v.transport.queue }
  queue : ∀ r ∈ v.transport.queue, r ∈ w.transport.queue
  requests : ∀ m, m ≠ n → v.requestsOf m = w.requestsOf m

namespace Wall.LaneEnds
variable {n : LaneId} {u v w : Wall}

theorem refl (n : LaneId) (w : Wall) : w.LaneEnds n w :=
  ⟨.refl n w, .of_pages n rfl, fun _ _ => rfl, fun _ _ => rfl, rfl, fun _ => id, fun _ _ => rfl⟩

theorem trans (h : u.LaneEnds n v) (h' : v.LaneEnds n w) : u.LaneEnds n w where
  ends := h.ends.trans h'.ends
  page := h.page.trans h'.page
  tally m hm := (h'.tally m hm).trans (h.tally m hm)
  loaded m hm := (h'.loaded m hm).trans (h.loaded m hm)
  transport := by
    have e := h'.transport
    rw [h.transport] at e
    exact e
  queue r hr := h.queue r (h'.queue r hr)
  requests m hm := (h'.requests m hm).trans (h.requests m hm)

/-- The lane and its page change alone, with the transport as it was. -/
theorem of_page (ends : w.EndsInLane n v) (page : w.OnlyPage n v) (engine : v.engine = w.engine) (path : v.transport = w.transport) : w.LaneEnds n v :=
  ⟨ends, page, fun _ _ => by simp only [Wall.tallyOf, engine], fun _ _ => by simp only [Wall.loadedIn, engine], by rw [path], by rw [path]; exact fun _ => id,
    fun _ _ => by simp only [Wall.requestsOf, path]⟩

theorem modTally (n : LaneId) (f : Tally → Tally) (w : Wall) : w.LaneEnds n (w.modTally n f) where
  ends := .of_stores rfl
  page := .of_pages n rfl
  tally _ hm := tabMod_get_other _ _ hm
  loaded _ _ := rfl
  transport := rfl
  queue _ := id
  requests _ _ := rfl

theorem dropRequest (n : LaneId) (k : RequestKind) (w : Wall) : w.LaneEnds n (w.dropRequest n k) where
  ends := .of_stores rfl
  page := .of_pages n rfl
  tally _ _ := rfl
  loaded _ _ := rfl
  transport := rfl
  queue _ hr := (List.mem_filter.mp hr).1
  requests m hm := by
    show (w.transport.queue.filter _).filter _ = w.transport.queue.filter _
    rw [List.filter_filter]
    refine List.filter_congr fun r _ => ?_
    by_cases h : r.lane = m
    · simp [h, hm]
    · simp [h]

theorem modBundle (n : LaneId) (f : BundleRecord → BundleRecord) (w : Wall) : w.LaneEnds n (w.modBundle n f) :=
  .of_page (.of_modLane (fun _ _ h => h) fun _ => rfl) (.of_pages n rfl) rfl rfl

theorem finishAt (t : DWord) (n : LaneId) (x : SlotId) (e : OrderEnd) (fields : List Word) (w : Wall) :
    w.LaneEnds n (w.finishAt t (lanePage n) x e fields) :=
  .of_page (Wall.finishAt_ends t n x e fields w) (Wall.finishAt_onlyPage t n x e fields w) (by rw [Wall.finishAt_frame]) (by rw [Wall.finishAt_frame])

/-- The context of the lane's DISPENSE moves, and the loaded copy of another lane stands. -/
theorem of_moves (h : w.ContextMoves n v) (loaded : ∀ m, m ≠ n → v.loadedIn m = w.loadedIn m) : w.LaneEnds n v where
  ends := h.ends
  page := h.onlyPage
  tally _ _ := by rw [h.frame]; rfl
  loaded := loaded
  transport := by rw [h.frame]
  queue r := by rw [h.frame]; exact id
  requests _ _ := by rw [h.frame]; rfl

theorem modContext (n : LaneId) (f : DispenseContext → DispenseContext) (w : Wall) : w.LaneEnds n (w.modContext n f) := by
  refine of_moves (Wall.modContext_moves n f w) fun m hm => ?_
  cases order : w.orderOf n .dispense with
  | none =>
    have still : w.modContext n f = w := by simp only [Wall.modContext, order]
    rw [still]
  | some x =>
    cases loaded : w.engine.loaded with
    | none => rw [Wall.modContext_progress f order (by simp [loaded])]; rfl
    | some l =>
      by_cases same : l.lane = n
      · have elsewhere : w.loadedIn m = none := Wall.loadedIn_eq_none.mpr (by simp [loaded, same, Ne.symm hm])
        rw [elsewhere, Wall.loadedIn_eq_none, Wall.modContext_loaded f order loaded same]
        simp [same, Ne.symm hm]
      · rw [Wall.modContext_progress f order (by simp [loaded, same])]
        rfl

/-- The loaded context of the lane is written back. -/
theorem writeBack (h : w.engine.loaded.map Loaded.lane = some n) : w.LaneEnds n w.writeBack := by
  refine of_moves (Wall.writeBack_moves h) fun m hm => ?_
  have elsewhere : w.loadedIn m = none := Wall.loadedIn_eq_none.mpr (by rw [h]; simpa using Ne.symm hm)
  have unloaded : w.writeBack.engine.loaded = none := Wall.reservationLaw.writeBack_loaded w
  rw [elsewhere, Wall.loadedIn, unloaded]
  rfl

theorem of_stores (n : LaneId) (h : v = { w with cassettes := v.cassettes }) : w.LaneEnds n v := by
  rw [h]
  exact ⟨.of_stores rfl, .of_pages n rfl, fun _ _ => rfl, fun _ _ => rfl, rfl, fun _ => id, fun _ _ => rfl⟩

theorem dropStores (n : LaneId) (b : Bool) (w : Wall) : w.LaneEnds n (w.dropStores n b) where
  ends := Wall.dropStores_ends n b w
  page := .of_pages n rfl
  tally _ hm := tabSet_get_other _ _ hm
  loaded _ _ := rfl
  transport := rfl
  queue _ := id
  requests _ _ := rfl

theorem releaseOutstanding (n : LaneId) (w : Wall) : w.LaneEnds n (w.releaseOutstanding n) := by
  unfold Wall.releaseOutstanding
  split
  · exact (of_stores n rfl).trans (modContext n _ _)
  · exact refl n w

/-- A DISPENSE of the lane finishes (R105). -/
theorem finishDispenseAt (d : Decision) (n : LaneId) (jammed : Bool) (w : Wall) : w.LaneEnds n (w.finishDispenseAt d n jammed) := by
  rcases Wall.finishDispenseAt_cases d n jammed w with ⟨x, c, t, order, context, tally⟩ | idle
  · have released := releaseOutstanding n w
    have finished (v : Wall) (e : OrderEnd) (fields : List Word) :
        v.LaneEnds n ((v.finishAt d.seconds (lanePage n) x e fields).dropStores n d.duress) := (finishAt ..).trans (dropStores ..)
    simp only [Wall.finishDispenseAt, order, context, tally]
    split
    · next loaded => exact (released.trans (writeBack loaded)).trans (finished _ _ _)
    · exact released.trans (finished _ _ _)
  · rw [idle]
    exact refl n w

theorem finishDispense (n : LaneId) (jammed : Bool) (w : Wall) : w.LaneEnds n (w.finishDispense n jammed) := finishDispenseAt ..

end Wall.LaneEnds

/-! ### The orders of another lane -/

/-- Between two walls nothing of a lane's orders has changed but a re-mix mark: its page, its drawer and its records, its part of the engine and its requests. -/
structure Wall.Aside (n : LaneId) (w v : Wall) : Prop where
  slot : ∀ y, v.slot (lanePage n) y = w.slot (lanePage n) y
  lane : v.lanes.get n = w.lanes.get n
  tally : (v.tallyOf n).map Tally.unmarked = (w.tallyOf n).map Tally.unmarked
  loaded : v.loadedIn n = w.loadedIn n
  requests : v.requestsOf n = w.requestsOf n

namespace Wall.Aside
variable {n m : LaneId} {u v w : Wall}

theorem refl (n : LaneId) (w : Wall) : w.Aside n w := ⟨fun _ => rfl, rfl, rfl, rfl, rfl⟩

theorem trans (h : u.Aside n v) (h' : v.Aside n w) : u.Aside n w where
  slot y := (h'.slot y).trans (h.slot y)
  lane := h'.lane.trans h.lane
  tally := h'.tally.trans h.tally
  loaded := h'.loaded.trans h.loaded
  requests := h'.requests.trans h.requests

theorem of_ends (e : w.LaneEnds m v) (other : n ≠ m) : w.Aside n v where
  slot y := e.page _ y fun same => other (lanePage_injective same)
  lane := e.ends.otherLane n other
  tally := by rw [e.tally n other]
  loaded := e.loaded n other
  requests := e.requests n other

/-- What a step changes that touches no lane, no tally and no request. -/
theorem of_stores (pages : ∀ y, v.slot (lanePage n) y = w.slot (lanePage n) y) (lanes : v.lanes = w.lanes) (engine : v.engine = w.engine)
    (queue : v.transport.queue = w.transport.queue) : w.Aside n v :=
  ⟨pages, by rw [lanes], by simp only [Wall.tallyOf, engine], by simp only [Wall.loadedIn, engine], by simp only [Wall.requestsOf, queue]⟩

theorem modLane (f : Lane → Lane) (w : Wall) (other : n ≠ m) : w.Aside n (w.modLane m f) :=
  ⟨fun _ => rfl, Wall.modLane_get_other _ _ other, rfl, rfl, rfl⟩

theorem kindAt (h : w.Aside n v) (y : SlotId) : v.kindAt (lanePage n) y = w.kindAt (lanePage n) y := Wall.kindAt_congr (by rw [h.slot])

theorem orderOf (h : w.Aside n v) (k : Kind) : v.orderOf n k = w.orderOf n k := Wall.orderOf_congr (fun x _ => by rw [h.slot]) h.kindAt

theorem contextOf (h : w.Aside n v) : v.contextOf n = w.contextOf n := by
  simp only [Wall.contextOf_eq, h.loaded, h.orderOf, h.slot]

theorem tally_some (h : w.Aside n v) {t : Tally} (tally : w.tallyOf n = some t) : ∃ t', v.tallyOf n = some t' ∧ t'.unmarked = t.unmarked := by
  have same := h.tally
  rw [tally] at same
  exact Option.map_eq_some_iff.mp same

theorem tally_none (h : w.Aside n v) (tally : w.tallyOf n = none) : v.tallyOf n = none := by
  have same := h.tally
  rw [tally] at same
  exact Option.map_eq_none_iff.mp same

end Wall.Aside

end Sys2Proof.Machine
end

section
/-! SUPPORT. What stands while a transport fault ends the tenure and the orders of the path (R98, R80, R154): the transport is FAULTED, so that no grant and no end
of a tenure follows, and no other block changes than those that hold the orders. -/

namespace Sys2Proof.Machine

/-! ### The records of the cassettes (R51, R58) -/

/-- Besides the cassettes, the board and the re-mix marks no passage's record changes anything (R51, R53, R58). -/
structure Wall.Recorded (w v : Wall) : Prop where
  frame : v = { w with cassettes := v.cassettes, board := v.board, lost := v.lost, engine := { w.engine with tallies := v.engine.tallies } }
  tally : ∀ m, (v.tallyOf m).map Tally.unmarked = (w.tallyOf m).map Tally.unmarked

namespace Wall.Recorded
variable {u v w : Wall}

theorem refl (w : Wall) : w.Recorded w := ⟨rfl, fun _ => rfl⟩

theorem trans (h : u.Recorded v) (h' : v.Recorded w) : u.Recorded w where
  frame := by
    have e := h'.frame
    rw [h.frame] at e
    exact e
  tally m := (h'.tally m).trans (h.tally m)

theorem ite {b : Prop} [Decidable b] (hv : u.Recorded v) (hw : u.Recorded w) : u.Recorded (if b then v else w) := by
  split
  · exact hv
  · exact hw

theorem modCassette (c : CassId) (f : Cassette → Cassette) (w : Wall) : w.Recorded (w.modCassette c f) := ⟨rfl, fun _ => rfl⟩

theorem post (k : News) (d : Nat) (w : Wall) : w.Recorded (w.post k d) := by
  rw [Wall.post_frame]
  exact ⟨rfl, fun _ => rfl⟩

theorem triggerRemix (c : CassId) (w : Wall) : w.Recorded (w.triggerRemix c) where
  frame := by
    obtain ⟨ts, e⟩ := w.triggerRemix_frame c
    rw [e]
  tally m := by
    rw [Wall.triggerRemix_tallyOf, Option.map_map]
    rfl

theorem enterCassetteState (c : CassId) (new : CassetteState) (how : Nat) (w : Wall) : w.Recorded (w.enterCassetteState c new how) := by
  have entered := modCassette c (fun x => { x with state := new }) w
  unfold Wall.enterCassetteState
  dsimp only
  split
  · exact refl w
  · split
    · exact entered.trans (post ..)
    · exact (entered.trans (post ..)).trans (triggerRemix ..)
    · exact (entered.trans (post ..)).trans (triggerRemix ..)
    · exact (entered.trans (post ..)).trans (triggerRemix ..)
    · exact entered

theorem recordPassage (c : CassId) (cls : PieceClass) (estimate : Nat) (w : Wall) : w.Recorded (w.recordPassage c cls estimate) := by
  have tested (v : Wall) : v.Recorded (v.remainingTest c) := by
    unfold Wall.remainingTest
    dsimp only
    split
    · exact enterCassetteState ..
    · exact refl v
  have counted := ((modCassette c (fun x => Cassette.doubtTest { x with drawn := satAdd 65535 x.drawn estimate }) w).trans (tested _)).trans
    (modCassette c (fun x => { x with passages := satAdd 65535 x.passages 1, misses := 0,
                                      rejects := if cls = .single then 0 else satAdd 255 x.rejects 1 }) _)
  exact ite (counted.trans (enterCassetteState c .suspect 0 _)) counted

end Wall.Recorded

/-! ### The wall about a fault -/

/-- The lists that a fault empties, and the loss mark (R79, R80). -/
def Gate.lists (g : Gate) : Bool × List Passage × List OpenPick × Option (Route × Nat) × Bool × Bool :=
  (g.inPassage, g.passages, g.openPicks, g.latch, g.flapStacker, g.loss)

/-- On a FAULTED path pieces have settled and orders have ended: the alarm unit, the conveyor, the port and the profile stand, the lanes keep their levels
and none opens, the gate keeps its lists, and the transport all but what waits and what is expected of the exit watch. -/
structure Wall.FaultMove (u w : Wall) : Prop where
  faulted : u.transport.state = .faulted
  frame : w =
    { u with pages := w.pages, flags := w.flags, lanes := w.lanes, engine := w.engine, cassettes := w.cassettes, gate := w.gate,
             transport := w.transport, bins := w.bins, board := w.board, lost := w.lost }
  shut : ∀ m, (w.lanes.get m).state = .opened → (u.lanes.get m).state = .opened
  senses : u.SensesKept w
  transport : w.transport =
    { u.transport with queue := w.transport.queue, watch := w.transport.watch, exitedEarly := w.transport.exitedEarly }
  queue : ∀ r ∈ w.transport.queue, r ∈ u.transport.queue
  watch : w.transport.watch.map WatchEntry.seq = u.transport.watch.map WatchEntry.seq
  lists : w.gate.lists = u.gate.lists

namespace Wall.FaultMove
variable {u v w : Wall}

theorem refl (h : w.transport.state = .faulted) : w.FaultMove w := ⟨h, rfl, fun _ => id, .refl w, rfl, fun _ h => h, rfl, rfl⟩

theorem trans (h : u.FaultMove v) (h' : v.FaultMove w) : u.FaultMove w where
  faulted := h.faulted
  frame := by
    have e := h'.frame
    rw [h.frame] at e
    exact e
  shut m open' := h.shut m (h'.shut m open')
  senses := h.senses.trans h'.senses
  transport := by
    have e := h'.transport
    rw [h.transport] at e
    exact e
  queue r hr := h.queue r (h'.queue r hr)
  watch := h'.watch.trans h.watch
  lists := h'.lists.trans h.lists

theorem ite {b : Prop} [Decidable b] (hv : u.FaultMove v) (hw : u.FaultMove w) : u.FaultMove (if b then v else w) := by
  split
  · exact hv
  · exact hw

theorem stays (h : u.FaultMove w) : w.transport.state = .faulted := by
  rw [h.transport]
  exact h.faulted

theorem watch_nil (h : u.FaultMove w) (empty : u.transport.watch = []) : w.transport.watch = [] := by
  have same := h.watch
  rw [empty] at same
  exact List.map_eq_nil_iff.mp same

/-- What a step changes that keeps to the fields named. -/
theorem of_stores (h : u.FaultMove w)
    (e : v = { w with pages := v.pages, flags := v.flags, engine := v.engine, cassettes := v.cassettes, bins := v.bins, board := v.board,
                      lost := v.lost }) : u.FaultMove v := by
  refine h.trans ?_
  rw [e]
  exact ⟨h.stays, rfl, fun _ => id, .of_lanes rfl, rfl, fun _ h => h, rfl, rfl⟩

theorem modLane {n : LaneId} {f : Lane → Lane} (h : u.FaultMove w)
    (hf : ((f (w.lanes.get n)).state = .opened → (w.lanes.get n).state = .opened) ∧ (f (w.lanes.get n)).senses = (w.lanes.get n).senses) :
    u.FaultMove (w.modLane n f) := by
  refine h.trans ⟨h.stays, rfl, fun m => ?_, fun m => ?_, rfl, fun _ h => h, rfl, rfl⟩
  all_goals
    rw [Wall.modLane_lanes, tabMod_get]
    split
  · next same => subst same; exact hf.1
  · exact id
  · next same => subst same; exact hf.2
  · rfl

theorem modBundle {n : LaneId} {f : BundleRecord → BundleRecord} (h : u.FaultMove w) : u.FaultMove (w.modBundle n f) :=
  h.modLane ⟨id, rfl⟩

theorem modGate {f : Gate → Gate} (h : u.FaultMove w) (hf : ∀ g, (f g).lists = g.lists) : u.FaultMove (w.modGate f) :=
  h.trans ⟨h.stays, rfl, fun _ => id, .of_lanes rfl, rfl, fun _ h => h, rfl, hf _⟩

theorem post {k : News} {d : Nat} (h : u.FaultMove w) : u.FaultMove (w.post k d) := h.of_stores (by rw [Wall.post_frame])

theorem recorded (h : u.FaultMove w) (r : w.Recorded v) : u.FaultMove v := h.of_stores (by rw [r.frame])

/-- Orders of a lane end. -/
theorem laneEnds {n : LaneId} (h : u.FaultMove w) (e : w.LaneEnds n v) : u.FaultMove v := by
  refine h.trans ⟨h.stays, ?_, fun m => ?_, .of_ends e.ends, ?_, e.queue, ?_, ?_⟩
  · rw [e.ends.frame]
  · by_cases hm : m = n
    · subst hm
      rw [e.ends.lane]
      exact id
    · rw [e.ends.otherLane m hm]
      exact id
  · rw [e.transport]
  · rw [e.transport]
  · rw [e.ends.frame]

end Wall.FaultMove

/-! ### Lockdown on a FAULTED path (R18, R102, R127) -/

/-- A lane as lockdown can leave it: it has not opened, its levels stand, and its drawer stands or closes from OFFERED or OPENING (R18). -/
structure Lane.Follows (l k : Lane) : Prop where
  shut : k.state = .opened → l.state = .opened
  senses : k.senses = l.senses
  drawer : k.drawer = l.drawer ∨ ((l.drawer = .offered ∨ l.drawer = .opening) ∧ k.drawer = .closing)

theorem Lane.Follows.refl (l : Lane) : l.Follows l := ⟨id, rfl, .inl rfl⟩

theorem Lane.Follows.trans {k l m : Lane} (h : k.Follows l) (h' : l.Follows m) : k.Follows m where
  shut opened := h.shut (h'.shut opened)
  senses := h'.senses.trans h.senses
  drawer := by
    rcases h.drawer with same | ⟨was, closes⟩
    · rcases h'.drawer with same' | ⟨was, closes⟩
      · exact .inl (same'.trans same)
      · exact .inr ⟨by rwa [same] at was, closes⟩
    · rcases h'.drawer with same' | ⟨was', -⟩
      · exact .inr ⟨was, same'.trans closes⟩
      · rw [closes] at was'
        simp at was'

theorem Lane.Follows.of_ends {n : LaneId} {w v : Wall} (e : w.EndsInLane n v) : (w.lanes.get n).Follows (v.lanes.get n) := by
  rw [e.lane]
  exact ⟨id, rfl, .inl rfl⟩

/-- From one wall to the next orders of a lane have ended, its drawer and its state have moved as in lockdown, and accept enable has been set. -/
inductive Wall.LaneSteps (n : LaneId) (u : Wall) : Wall → Prop
  | refl : LaneSteps n u u
  | ends {v w : Wall} (h : LaneSteps n u v) (e : v.LaneEnds n w) : LaneSteps n u w
  | accept {v : Wall} (h : LaneSteps n u v) (b : Bool) : LaneSteps n u (v.modGate fun g => { g with acceptEnable := b })
  | lane {v : Wall} (h : LaneSteps n u v) (f : Lane → Lane) (hf : (v.lanes.get n).Follows (f (v.lanes.get n))) : LaneSteps n u (v.modLane n f)

namespace Wall.LaneSteps
variable {n m : LaneId} {u v w : Wall}

theorem trans (h : u.LaneSteps n v) (h' : v.LaneSteps n w) : u.LaneSteps n w := by
  induction h' with
  | refl => exact h
  | ends _ e ih => exact ih.ends e
  | accept _ b ih => exact ih.accept b
  | lane _ f hf ih => exact ih.lane f hf

theorem move (h : u.LaneSteps n v) (faulted : u.transport.state = .faulted) : u.FaultMove v := by
  induction h with
  | refl => exact .refl faulted
  | ends _ e ih => exact ih.laneEnds e
  | accept _ b ih => exact ih.modGate fun _ => rfl
  | lane _ f hf ih => exact ih.modLane ⟨hf.shut, hf.senses⟩

theorem aside (h : u.LaneSteps n v) (other : m ≠ n) : u.Aside m v := by
  induction h with
  | refl => exact .refl m u
  | ends _ e ih => exact ih.trans (.of_ends e other)
  | accept _ b ih => exact ih.trans (.of_stores (fun _ => rfl) rfl rfl rfl)
  | lane _ f hf ih => exact ih.trans (.modLane f _ other)

theorem follows (h : u.LaneSteps n v) : (u.lanes.get n).Follows (v.lanes.get n) := by
  induction h with
  | refl => exact .refl _
  | ends _ e ih => exact ih.trans (.of_ends e.ends)
  | accept _ b ih => exact ih
  | lane _ f hf ih =>
    rw [Wall.modLane_get_same]
    exact ih.trans hf

theorem news (h : u.LaneSteps n v) : v.SameNews u := by
  induction h with
  | refl => exact ⟨rfl, rfl, rfl⟩
  | ends _ e ih => exact ⟨e.ends.board.trans ih.board, e.ends.lost.trans ih.lost, e.ends.port.trans ih.port⟩
  | accept _ b ih => exact ⟨ih.board, ih.lost, ih.port⟩
  | lane _ f hf ih => exact ⟨ih.board, ih.lost, ih.port⟩

end Wall.LaneSteps

/-- The end of an order that begins on a FAULTED path: no end of a tenure follows it (R94). -/
theorem Wall.beginEnd_faulted {w : Wall} (n : LaneId) (cause : EndCause) (h : w.transport.state = .faulted) :
    ∃ b, w.beginEnd n cause = (w.markEnd n cause).modGate fun g => { g with acceptEnable := b } := by
  have path : (w.markEnd n cause).transport = w.transport := by
    unfold Wall.markEnd
    rw [(Wall.modContext_moves n (fun c => { c with endCause := cause }) w).frame]
    rfl
  have ungranted : (w.markEnd n cause).transport.state ≠ .granted := by rw [path, h]; simp
  unfold Wall.beginEnd
  rw [← Wall.markEnd]
  dsimp only
  split
  · split
    · exact ⟨false, Wall.checkEnding_ungranted ungranted⟩
    · exact ⟨_, rfl⟩
  · exact ⟨_, rfl⟩

theorem Wall.markEnd_ends (n : LaneId) (cause : EndCause) (w : Wall) : w.LaneEnds n (w.markEnd n cause) :=
  (Wall.LaneEnds.modContext ..).trans (.modTally ..)

theorem Wall.LaneSteps.beginEnd (n : LaneId) (cause : EndCause) {w : Wall} (h : w.transport.state = .faulted) : w.LaneSteps n (w.beginEnd n cause) := by
  obtain ⟨b, e⟩ := Wall.beginEnd_faulted n cause h
  rw [e]
  exact (Wall.LaneSteps.refl.ends (w.markEnd_ends n cause)).accept b

theorem Wall.LaneSteps.lockdownDispense (n : LaneId) {w : Wall} (h : w.transport.state = .faulted) : w.LaneSteps n (w.lockdownDispense n) := by
  have begun := Wall.LaneSteps.beginEnd n .lockdown h
  unfold Wall.lockdownDispense
  split
  · exact .refl
  · split
    · exact .refl
    · split
      · exact begun.ends (.finishDispense ..)
      · exact (begun.ends (.dropRequest n .bundle _)).ends (.finishDispense ..)
      · exact begun
      · exact begun
      · exact begun
      · exact begun
      · exact .refl

theorem Wall.LaneEnds.modSlot (n : LaneId) (x : SlotId) (f : Slot → Slot) (w : Wall) (hf : ∀ y, (f y).body = y.body) :
    w.LaneEnds n (w.modSlot (lanePage n) x f) := by
  refine .of_page ⟨rfl, fun _ _ => rfl, rfl, fun _ h => h, fun p y => ?_⟩ (fun p y hp => ?_) rfl rfl
  · by_cases here : (p, y) = (lanePage n, x)
    · obtain ⟨rfl, rfl⟩ := Prod.mk.inj here
      rw [Wall.modSlot_slot_same]
      exact hf _
    · rw [Wall.modSlot_slot_other _ _ here]
  · exact Wall.modSlot_slot_other _ _ fun here => hp (Prod.mk.inj here).1

theorem Wall.LaneEnds.lockdownDeposit (n : LaneId) (w : Wall) : w.LaneEnds n (w.lockdownDeposit n) := by
  unfold Wall.lockdownDeposit
  split
  · exact .refl n w
  · dsimp only
    split
    · exact .modSlot _ _ _ _ fun _ => rfl
    · exact .finishAt ..

theorem Wall.LaneSteps.startClose (cause : CloseCause) {n : LaneId} {w : Wall} (h : (w.lanes.get n).drawer = .offered ∨ (w.lanes.get n).drawer = .opening) :
    w.LaneSteps n (w.startClose n cause) := refl.lane _ ⟨id, rfl, .inr ⟨h, rfl⟩⟩

theorem Wall.LaneSteps.closeByLockdown (n : LaneId) (w : Wall) : w.LaneSteps n (w.closeByLockdown n) := by
  rcases Wall.closeByLockdown_cases n w with ⟨-, -, e⟩ | ⟨offered, e⟩ | e <;> rw [e]
  · rcases Wall.closeByOwner_cases n .lockdown w with ⟨offered, e⟩ | ⟨-, e⟩ | ⟨-, e⟩ <;> rw [e]
    · exact (startClose .lockdown offered).lane _ ⟨id, rfl, .inl rfl⟩
    · exact refl.lane _ ⟨id, rfl, .inl rfl⟩
    · exact refl
  · exact startClose .lockdown offered
  · exact refl

/-- The lane's state as lockdown finds it (R18). -/
def Wall.laneShut (n : LaneId) (w : Wall) : Wall :=
  w.modLane n fun l => { l with state := if l.state = .opened then .closing else l.state }

theorem Wall.LaneSteps.laneShut (n : LaneId) (w : Wall) : w.LaneSteps n (w.laneShut n) := by
  refine refl.lane _ ⟨fun opened => ?_, rfl, .inl rfl⟩
  dsimp only at opened
  split at opened
  · cases opened
  · exact opened

theorem Wall.lockdownLane_eq (n : LaneId) (w : Wall) : w.lockdownLane n = (((w.laneShut n).lockdownDispense n).lockdownDeposit n).closeByLockdown n := rfl

theorem Wall.LaneSteps.lockdownLane (n : LaneId) {w : Wall} (h : w.transport.state = .faulted) : w.LaneSteps n (w.lockdownLane n) :=
  (((laneShut n w).trans (.lockdownDispense n h)).ends (.lockdownDeposit ..)).trans (.closeByLockdown n _)

namespace Wall.FaultMove
variable {u v w : Wall}

theorem laneSteps {n : LaneId} (h : u.FaultMove w) (s : w.LaneSteps n v) : u.FaultMove v := h.trans (s.move h.stays)

theorem foldl {α : Type} {f : Wall → α → Wall} (hf : ∀ w a, u.FaultMove w → u.FaultMove (f w a)) (l : List α) (h : u.FaultMove w) :
    u.FaultMove (l.foldl f w) := by
  induction l generalizing w with
  | nil => exact h
  | cons a l ih => exact ih (hf w a h)

theorem eachLockdown (h : u.FaultMove w) : u.FaultMove (w.eachLane Wall.lockdownLane) :=
  foldl (fun _ n h => h.laneSteps (.lockdownLane n h.stays)) laneIds h

/-! ### The gate closes (R80) -/

theorem creditExit {src : Source} {estimate : Nat} {r : Route} (route : r ≠ .stacker) (h : u.FaultMove w) :
    u.FaultMove (w.creditExit src estimate r) := by
  have credited : u.FaultMove (w.creditBin r.bin estimate) := h.of_stores (by rw [Wall.creditBin_frame])
  by_cases own : ∃ n, src = .retract n ∧ w.transport.join = .retract n
  · obtain ⟨n, rfl, join⟩ := own
    rw [Wall.creditExit_own route join]
    exact credited.modBundle
  · rw [Wall.creditExit_other route fun n source join => own ⟨n, source, join⟩]
    exact credited

theorem reportSettled {x : Passage} {m : Measure} (route : m.route ≠ .stacker) (h : u.FaultMove w) : u.FaultMove (w.reportSettled x m) := by
  unfold Wall.reportSettled
  split
  · have dropped : u.FaultMove (w.modTransport fun t => { t with exitedEarly := t.exitedEarly.filter fun q => q ≠ x.seq }) :=
      h.trans ⟨h.stays, rfl, fun _ => id, .of_lanes rfl, rfl, fun _ h => h, rfl, rfl⟩
    exact dropped.creditExit route
  · refine h.trans ⟨h.stays, rfl, fun _ => id, .of_lanes rfl, rfl, fun _ h => h, ?_, rfl⟩
    rw [Wall.modTransport_transport, List.map_map]
    refine List.map_congr_left fun e _ => ?_
    dsimp only [Function.comp]
    split <;> rfl

end Wall.FaultMove

/-- A settled piece that counts against the order that holds the path changes that lane's orders alone (R94). -/
theorem Wall.countReject_steps (m : Measure) {w : Wall} (h : w.transport.state = .faulted) :
    w.countReject m = w ∨ ∃ n, w.transport.join = .dispense n ∧ w.LaneSteps n (w.countReject m) := by
  unfold Wall.countReject
  split
  · next n join =>
    refine .inr ⟨n, join, ?_⟩
    have counted : w.LaneSteps n (if m.route = .reject then w.modTally n fun t => { t with rejected := t.rejected + m.estimate } else w) := by
      split
      · exact .ends .refl (.modTally ..)
      · exact .refl
    dsimp only
    generalize (if m.route = .reject then w.modTally n fun t => { t with rejected := t.rejected + m.estimate } else w) = v at *
    split
    · exact counted
    · have rejected := counted.ends (.modContext n (fun x => { x with rejects := satAdd 255 x.rejects 1 }) v)
      split
      · split
        · exact rejected.trans (.beginEnd n .rejectLimit (rejected.move h).stays)
        · exact rejected
      · exact rejected
  · exact .inl rfl

namespace Wall.FaultMove
variable {u v w : Wall}

theorem countReject {m : Measure} (h : u.FaultMove w) : u.FaultMove (w.countReject m) := by
  rcases Wall.countReject_steps m h.stays with same | ⟨n, -, steps⟩
  · rwa [same]
  · exact h.laneSteps steps

/-- A piece settles that does not go to the stacker (R76). -/
theorem settle {x : Passage} {m : Measure} {cut : Bool} (route : m.route ≠ .stacker) (h : u.FaultMove w) : u.FaultMove (w.settle x m cut) := by
  have reported : u.FaultMove ((w.modGate (Gate.trace1 x m cut)).reportSettled x m) := (h.modGate (f := Gate.trace1 x m cut) fun _ => rfl).reportSettled route
  unfold Wall.settle
  dsimp only
  split
  · rw [if_neg route, if_neg route]
    exact (reported.recorded (Wall.Recorded.recordPassage ..)).countReject
  · exact reported

theorem settleCut (l : List Passage) (h : u.FaultMove w) : u.FaultMove (Machine.settleCut l w) := by
  induction l generalizing w with
  | nil => exact h
  | cons x rest ih => exact ih (h.settle (by simp))

/-- The gate changes in the same way before a move and after it. -/
theorem modGate_both {g : Gate → Gate} (h : u.FaultMove w) (hg : ∀ a b : Gate, a.lists = b.lists → (g a).lists = (g b).lists) :
    (u.modGate g).FaultMove (w.modGate g) where
  faulted := h.faulted
  frame := by
    have e := h.frame
    generalize w.pages = pages, w.flags = flags, w.lanes = lanes, w.engine = engine, w.cassettes = cassettes, w.gate = gate, w.bins = bins,
      w.board = board, w.lost = lost, w.transport = transport at e
    rw [e]
    rfl
  shut := h.shut
  senses := h.senses
  transport := h.transport
  queue := h.queue
  watch := h.watch
  lists := hg _ _ h.lists

end Wall.FaultMove

/-- The estimate of a piece that a fault or a loss closes in the gate (R72, R73). -/
theorem Wall.measurePassage_unmeasured (src : Source) (gap l t : Nat) (w : Wall) : (w.measurePassage src true gap l t).estimate = 1 := by
  cases src <;> simp [Wall.measurePassage, Wall.classifyPick, Wall.classifyOther]

/-- What a fault does with the piece in the gate: there is none, or it settles unmeasured as one that has reached the diverter, or it stands measured in the
in-flight list (R79, R80). -/
theorem Wall.closePassage_fault (w : Wall) :
    (w.gate.current = none ∧ w.closePassage true false = w)
      ∨ ∃ older x younger m, w.gate.current = some (older, x, younger) ∧ m.route = .reject ∧ m.estimate = 1
        ∧ ((x.reached = true ∧ w.closePassage true false =
            (w.modGate fun g => { g with inPassage := false, passages := older ++ younger }).settle x m false)
          ∨ (x.reached = false ∧ w.closePassage true false =
            w.modGate fun g => { g with inPassage := false, passages := older ++ { x with measure := some m } :: younger })) := by
  unfold Wall.closePassage
  cases current : w.gate.current with
  | none => exact .inl ⟨rfl, rfl⟩
  | some r =>
    obtain ⟨older, x, younger⟩ := r
    refine .inr ⟨older, x, younger,
      { w.measurePassage x.source true x.gap w.gate.runLength w.gate.runPeak with route := .reject }, rfl, rfl,
      Wall.measurePassage_unmeasured .., ?_⟩
    cases reached : x.reached
    · refine .inr ⟨rfl, ?_⟩
      simp [reached]
      rfl
    · refine .inl ⟨rfl, ?_⟩
      simp [reached]
      rfl

/-- The gate's lists once a fault has dropped its picks and taken the pieces in flight (R80). -/
def Gate.dropped (g : Gate) : Gate := { g with passages := [], openPicks := [] }

/-- The gate shut by a fault (R80). -/
def Gate.shut (g : Gate) : Gate := { g with inPassage := false, latch := none, flapStacker := false }

theorem Wall.closeGate_eq (w : Wall) :
    w.closeGate = (settleCut (w.closePassage true false).gate.inFlight ((w.closePassage true false).modGate Gate.dropped)).modGate Gate.shut := rfl

/-- The gate closes its lists: pieces have settled, and the lists are empty (R80). -/
theorem Wall.closeGate_move {w : Wall} (h : w.transport.state = .faulted) :
    ∃ f : Gate → Gate, (w.modGate f).FaultMove w.closeGate ∧ (f w.gate).lists = (false, [], [], none, false, w.gate.loss) := by
  have closed : ∃ f : Gate → Gate, (w.modGate f).FaultMove (w.closePassage true false) ∧ (f w.gate).loss = w.gate.loss := by
    rcases w.closePassage_fault with ⟨-, e⟩ | ⟨older, x, younger, m, -, route, -, ⟨-, e⟩ | ⟨-, e⟩⟩ <;> rw [e]
    · exact ⟨id, .refl h, rfl⟩
    · exact ⟨_, Wall.FaultMove.settle (by simp [route]) (.refl h), rfl⟩
    · exact ⟨_, .refl h, rfl⟩
  obtain ⟨f, closed, loss⟩ := closed
  refine ⟨fun g => (f g).dropped.shut, ?_, ?_⟩
  · refine (((closed.modGate_both (g := Gate.dropped) ?_).settleCut _).modGate_both (g := Gate.shut) ?_)
    all_goals
      intro a b same
      simp only [Gate.lists, Prod.mk.injEq] at same
      obtain ⟨inPassage, passages, picks, latch, flap, loss⟩ := same
      simp [Gate.lists, Gate.dropped, Gate.shut, inPassage, passages, picks, latch, flap, loss]
  · simp [Gate.lists, Gate.dropped, Gate.shut, loss]

/-! ### The alarm unit about a fault (R141, R144, R154) -/

/-- Between two walls the points, the zones, the alarm status and the second stand, and no lane has opened. -/
structure Wall.AlarmStands (u w : Wall) : Prop where
  points : w.points = u.points
  zones : w.zones = u.zones
  alarm : w.alarm = u.alarm
  seconds : w.port.seconds = u.port.seconds
  shut : ∀ m, (w.lanes.get m).state = .opened → (u.lanes.get m).state = .opened

theorem Wall.AlarmStands.trans {u v w : Wall} (h : u.AlarmStands v) (h' : v.AlarmStands w) : u.AlarmStands w where
  points := h'.points.trans h.points
  zones := h'.zones.trans h.zones
  alarm := h'.alarm.trans h.alarm
  seconds := h'.seconds.trans h.seconds
  shut m open' := h.shut m (h'.shut m open')

theorem Wall.FaultMove.alarmStands {u w : Wall} (h : u.FaultMove w) : u.AlarmStands w := by
  refine ⟨?_, ?_, ?_, ?_, h.shut⟩ <;> rw [h.frame]

theorem Wall.AlarmStands.duressAlarm {u w : Wall} (h : u.AlarmStands w) : w.duressAlarm = u.duressAlarm := by
  simp only [Wall.duressAlarm, h.zones]

/-- What a point's going ACTIVE means to the alarm unit depends on the points, the zones, the alarm status and the second. -/
theorem Wall.AlarmStands.pointAlarms {u w : Wall} (h : u.AlarmStands w) (p : PointId) :
    w.pointAlarms p = u.pointAlarms p ∧ w.pointLocks p = u.pointLocks p ∧ w.zoneMet p = u.zoneMet p := by
  simp only [Wall.pointAlarms, Wall.pointLocks, Wall.zoneMet, Wall.lockdown, h.points, h.zones, h.alarm]
  trivial

theorem Wall.AlarmStands.madeActive_before {u v w : Wall} {p : PointId} (h : u.AlarmStands v) (active : v.madeActive w p) : u.madeActive w p := by
  obtain ⟨alarms, locks, met⟩ := h.pointAlarms p
  unfold Wall.madeActive at *
  simpa only [h.points, h.zones, h.alarm, h.seconds, alarms, locks, met] using active

theorem Wall.AlarmStands.madeActive_after {u v w : Wall} {p : PointId} (h : v.AlarmStands w) (active : u.madeActive v p) : u.madeActive w p := by
  obtain ⟨siren, strobe, silent⟩ := Wall.outputs_congr h.zones
  obtain ⟨point, others, zones, quiet, outputs, lockdown, zone, start, shut⟩ := active
  unfold Wall.madeActive
  rw [h.points, h.zones, h.alarm, siren, strobe, silent]
  exact ⟨point, others, zones, quiet, outputs, lockdown, zone, start, fun locks n opened => shut locks n (h.shut n opened)⟩

/-- On a FAULTED path the point goes ACTIVE and lockdown reaches the lanes as orders end (R102). -/
theorem Wall.setInternal_move {w : Wall} {p : PointId} (hp : 12 ≤ p.val) (h : w.transport.state = .faulted) :
    (w.pointMet p).FaultMove (w.setInternal p true) := by
  have met : (w.pointMet p).FaultMove (w.pointMet p) := .refl (by rw [w.pointMet_frame p]; exact h)
  rw [Wall.setInternal_active hp]
  exact .ite met.eachLockdown met

end Sys2Proof.Machine
end

section
/-! SUPPORT. What stands of the note orders of a lane while a fault stops the path (R80, R94, R102, R154): their slots but for the progress areas, their contexts but for
the end cause and the reject count, their tallies as far as `f` reads them, their requests and the bundle record. -/

namespace Sys2Proof.Machine

/-- A context but for its end cause and its reject count. -/
def DispenseContext.core (c : DispenseContext) : DispenseContext := { c with endCause := .none, rejects := 0 }

/-- What is read of a tally tells whether a fault has reached the order, and not whether a re-mix waits. -/
structure Tally.Reads {α : Type} (f : Tally → α) : Prop where
  unmarked : ∀ t, f t.unmarked = f t
  faulted : ∀ s t, f s = f t → s.faulted = t.faulted

theorem Tally.reads_faulted : Tally.Reads Tally.faulted := ⟨fun _ => rfl, fun _ _ => id⟩

theorem Tally.reads_unmarked : Tally.Reads Tally.unmarked := ⟨fun _ => rfl, fun _ _ h => (congrArg Tally.faulted h :)⟩

theorem Tally.Reads.remixWait {α : Type} {f : Tally → α} (hf : Tally.Reads f) (t : Tally) (b : Bool) : f { t with remixWait := b } = f t :=
  (hf.unmarked { t with remixWait := b }).symm.trans (hf.unmarked t)

/-- What stands of a lane's note orders. -/
structure Wall.NotesStand {α : Type} (f : Tally → α) (n : LaneId) (w v : Wall) : Prop where
  kind : ∀ y, v.kindAt (lanePage n) y = w.kindAt (lanePage n) y
  note : ∀ y, (w.kindAt (lanePage n) y).map Kind.track = some .note → w.SlotKept n y v
  context : (v.contextOf n).map DispenseContext.core = (w.contextOf n).map DispenseContext.core
  tally : (v.tallyOf n).map f = (w.tallyOf n).map f
  loaded : (v.loadedIn n).map Loaded.slot = (w.loadedIn n).map Loaded.slot
  requests : ∀ r ∈ w.requestsOf n, r.kind = .retract → r ∈ v.requestsOf n
  bundle : (v.lanes.get n).bundle = (w.lanes.get n).bundle

namespace Wall.NotesStand
variable {α : Type} {f : Tally → α} {n m : LaneId} {u v w : Wall}

theorem refl (f : Tally → α) (n : LaneId) (w : Wall) : w.NotesStand f n w :=
  ⟨fun _ => rfl, fun _ _ => .of_eq rfl, rfl, rfl, rfl, fun _ h _ => h, rfl⟩

theorem trans (h : u.NotesStand f n v) (h' : v.NotesStand f n w) : u.NotesStand f n w where
  kind y := (h'.kind y).trans (h.kind y)
  note y hy := (h.note y hy).trans (h'.note y (by rwa [h.kind]))
  context := h'.context.trans h.context
  tally := h'.tally.trans h.tally
  loaded := h'.loaded.trans h.loaded
  requests r hr kind := h'.requests r (h.requests r hr kind) kind
  bundle := h'.bundle.trans h.bundle

/-- The note orders in progress are the same. -/
theorem orderOf (h : w.NotesStand f n v) {k : Kind} (note : k.track = .note) : v.orderOf n k = w.orderOf n k :=
  Wall.orderOf_congr (fun y hy => by rw [(h.note y (by rw [hy, Option.map_some, note])).state]) h.kind

theorem of_aside (h : w.Aside n v) (hf : Tally.Reads f) : w.NotesStand f n v where
  kind := h.kindAt
  note y _ := .of_eq (h.slot y)
  context := by rw [h.contextOf]
  tally := by
    have same : ∀ o : Option Tally, o.map f = (o.map Tally.unmarked).map f := fun o => by
      rw [Option.map_map]
      exact Option.map_congr fun t _ => (hf.unmarked t).symm
    rw [same, h.tally, ← same]
  loaded := by rw [h.loaded]
  requests := by rw [h.requests]; exact fun _ hr _ => hr
  bundle := by rw [h.lane]

theorem modTally {g : Tally → Tally} (hg : ∀ t, f (g t) = f t) (w : Wall) : w.NotesStand f n (w.modTally n g) where
  kind _ := rfl
  note _ _ := .of_eq rfl
  context := rfl
  tally := by
    show ((tabMod w.engine.tallies n (Option.map g)).get n).map f = (w.engine.tallies.get n).map f
    rw [tabMod_get_same, Option.map_map]
    exact Option.map_congr fun t _ => hg t
  loaded := rfl
  requests _ hr _ := hr
  bundle := rfl

theorem modGate (f : Tally → α) (n : LaneId) (g : Gate → Gate) (w : Wall) : w.NotesStand f n (w.modGate g) :=
  ⟨fun _ => rfl, fun _ _ => .of_eq rfl, rfl, rfl, rfl, fun _ h _ => h, rfl⟩

theorem modContext (f : Tally → α) {g : DispenseContext → DispenseContext} (hg : ∀ c, (g c).core = c.core) (w : Wall) :
    w.NotesStand f n (w.modContext n g) := by
  have moves := Wall.modContext_moves n g w
  cases order : w.orderOf n .dispense with
  | none =>
    have still : w.modContext n g = w := by simp only [Wall.modContext, order]
    rw [still]
    exact refl f n w
  | some x =>
    have lanes : (w.modContext n g).lanes = w.lanes := by rw [moves.frame]
    refine ⟨fun y => moves.ends.kindAt _ y, fun y _ => moves.slot _ y, ?_, by rw [moves.frame]; rfl, ?_,
      by rw [moves.frame]; exact fun _ hr _ => hr, by rw [lanes]⟩
    · rw [(Wall.modContext_contextOf g order).2, Option.map_map]
      exact Option.map_congr fun c _ => hg c
    · cases loaded : w.engine.loaded with
      | none => rw [Wall.modContext_progress g order (by simp [loaded])]; rfl
      | some l =>
        by_cases same : l.lane = n
        · simp [Wall.loadedIn, Wall.modContext_loaded g order loaded same, loaded, Option.filter, same]
        · rw [Wall.modContext_progress g order (by simp [loaded, same])]
          rfl

theorem markEnd (hf : Tally.Reads f) (cause : EndCause) (w : Wall) : w.NotesStand f n (w.markEnd n cause) :=
  (modContext f (g := fun c => { c with endCause := cause }) (fun _ => rfl) w).trans (modTally (fun t => hf.remixWait t false) _)

theorem beginEnd (hf : Tally.Reads f) (cause : EndCause) (faulted : w.transport.state = .faulted) :
    w.NotesStand f n (w.beginEnd n cause) := by
  obtain ⟨b, e⟩ := Wall.beginEnd_faulted n cause faulted
  rw [e]
  exact (markEnd hf cause w).trans (modGate ..)

end Wall.NotesStand

/-- Lockdown does not end the lane's DISPENSE: there is none, a fault has reached it, or it waits neither for the drawer nor for the path (R102). -/
def Wall.outlastsLockdown (w : Wall) (n : LaneId) : Prop :=
  w.orderOf n .dispense = none ∨ (w.tallyOf n).map Tally.faulted = some true ∨ ∀ c, w.contextOf n = some c → c.phase ≠ .drawerWait ∧ c.phase ≠ .bundleWait

namespace Wall.NotesStand
variable {α : Type} {f : Tally → α} {n m : LaneId} {u v w : Wall}

theorem dropBundle (f : Tally → α) (n : LaneId) (w : Wall) : w.NotesStand f n (w.dropRequest n .bundle) where
  kind _ := rfl
  note _ _ := .of_eq rfl
  context := rfl
  tally := rfl
  loaded := rfl
  requests r hr kind := by
    obtain ⟨waits, lane⟩ := Wall.mem_requestsOf.mp hr
    exact Wall.mem_requestsOf.mpr ⟨List.mem_filter.mpr ⟨waits, by simp [kind]⟩, lane⟩
  bundle := rfl

/-- Lockdown leaves the lane's note orders where it ends none of them. -/
theorem lockdownDispense (hf : Tally.Reads f) (faulted : w.transport.state = .faulted) (outlasts : w.outlastsLockdown n) :
    w.NotesStand f n (w.lockdownDispense n) := by
  have begun := beginEnd (n := n) hf .lockdown faulted
  have idle (v : Wall) (h : v.orderOf n .dispense = none) : v.finishDispense n false = v := Wall.finishDispenseAt_none _ _ (.inl h)
  have order := begun.orderOf (k := .dispense) rfl
  unfold Wall.lockdownDispense
  split
  · exact refl f n w
  · next c context =>
    split
    · exact refl f n w
    · next open' =>
      rcases outlasts with orderless | ended | phases
      · rw [orderless] at order
        split
        · rwa [idle _ order]
        · have dropped : ((w.beginEnd n .lockdown).dropRequest n .bundle).orderOf n .dispense = none := order
          rw [idle _ dropped]
          exact begun.trans (dropBundle ..)
        · exact begun
        · exact begun
        · exact begun
        · exact begun
        · exact refl f n w
      · exact absurd (by simp [Wall.endBegun, ended]) open'
      · obtain ⟨drawer, bundle⟩ := phases c context
        split
        · next phase => exact absurd phase drawer
        · next phase => exact absurd phase bundle
        · exact begun
        · exact begun
        · exact begun
        · exact begun
        · exact refl f n w

/-- What leaves the lane's notes as they are: its page but for other orders, its engine part and its requests. -/
theorem of_page (f : Tally → α) (kind : ∀ y, v.kindAt (lanePage n) y = w.kindAt (lanePage n) y)
    (note : ∀ y, (w.kindAt (lanePage n) y).map Kind.track = some .note → v.slot (lanePage n) y = w.slot (lanePage n) y) (engine : v.engine = w.engine)
    (path : v.transport = w.transport) (bundle : (v.lanes.get n).bundle = (w.lanes.get n).bundle) : w.NotesStand f n v := by
  have loaded : v.loadedIn n = w.loadedIn n := by simp only [Wall.loadedIn, engine]
  have order : v.orderOf n .dispense = w.orderOf n .dispense :=
    Wall.orderOf_congr (fun y hy => by rw [note y (by rw [hy]; rfl)]) kind
  refine ⟨kind, fun y hy => .of_eq (note y hy), ?_, by simp only [Wall.tallyOf, engine], by rw [loaded], ?_, bundle⟩
  swap
  · simp only [Wall.requestsOf, path]
    exact fun _ hr _ => hr
  have context : v.contextOf n = w.contextOf n := by
    rw [Wall.contextOf_eq, Wall.contextOf_eq, loaded, order]
    cases e : w.orderOf n .dispense with
    | none => rfl
    | some x => rw [Option.bind_some, Option.bind_some, note x (by rw [(Wall.orderOf_some e).2]; rfl)]
  rw [context]

theorem modLane (f : Tally → α) (g : Lane → Lane) (w : Wall) (hg : ∀ l : Lane, (g l).bundle = l.bundle) : w.NotesStand f n (w.modLane n g) :=
  of_page f (fun _ => rfl) (fun _ _ => rfl) rfl rfl (by rw [Wall.modLane_get_same]; exact hg _)

theorem lockdownDeposit (f : Tally → α) (n : LaneId) (w : Wall) : w.NotesStand f n (w.lockdownDeposit n) := by
  unfold Wall.lockdownDeposit
  split
  · exact refl f n w
  · next s deposit =>
    have kind := (Wall.orderOf_some deposit).2
    have apart : ∀ y, (w.kindAt (lanePage n) y).map Kind.track = some .note → y ≠ s := by
      rintro y note rfl
      rw [kind] at note
      cases note
    dsimp only
    split
    · refine of_page f (fun y => ?_) (fun y note => ?_) rfl rfl rfl
      · exact (Wall.LaneEnds.modSlot n s (fun x => { x with lockdownMark := true }) w fun _ => rfl).ends.kindAt _ y
      · exact Wall.modSlot_slot_other _ _ fun here => apart y note (Prod.mk.inj here).2
    · refine of_page f (fun y => (Wall.finishAt_ends ..).kindAt _ y) (fun y note => ?_) (by rw [Wall.finish_frame]) (by rw [Wall.finish_frame]) ?_
      · exact Wall.finishAt_other _ _ _ _ fun here => apart y note (Prod.mk.inj here).2
      · rw [Wall.finish, Wall.finishAt_lanes, tabMod_get_same]
        rfl

theorem closeByLockdown (f : Tally → α) (n : LaneId) (w : Wall) : w.NotesStand f n (w.closeByLockdown n) := by
  have close : w.NotesStand f n (w.startClose n .lockdown) := modLane f _ w fun _ => rfl
  rcases Wall.closeByLockdown_cases n w with ⟨-, -, e⟩ | ⟨-, e⟩ | e <;> rw [e]
  · rcases Wall.closeByOwner_cases n .lockdown w with ⟨-, e⟩ | ⟨-, e⟩ | ⟨-, e⟩ <;> rw [e]
    · exact close.trans (modLane f _ _ fun _ => rfl)
    · exact modLane f _ w fun _ => rfl
    · exact refl f n w
  · exact close
  · exact refl f n w

theorem lockdownLane (hf : Tally.Reads f) (faulted : w.transport.state = .faulted) (outlasts : w.outlastsLockdown n) :
    w.NotesStand f n (w.lockdownLane n) := by
  have shut : w.NotesStand f n (w.laneShut n) := modLane f _ w fun _ => rfl
  rw [Wall.lockdownLane_eq]
  exact ((shut.trans (lockdownDispense hf faulted outlasts)).trans (lockdownDeposit ..)).trans (closeByLockdown ..)

end Wall.NotesStand

/-! ### Lockdown at all the lanes -/

theorem laneIds_split (n : LaneId) : ∃ s t, laneIds = s ++ n :: t ∧ n ∉ s ∧ n ∉ t := by
  obtain ⟨s, t, e⟩ := List.append_of_mem (mem_laneIds n)
  have nodup : laneIds.Nodup := by decide
  rw [e, List.nodup_append, List.nodup_cons] at nodup
  obtain ⟨-, ⟨after, -⟩, before⟩ := nodup
  exact ⟨s, t, e, fun h => before n h n List.mem_cons_self rfl, after⟩

/-- Lockdown at other lanes leaves a lane aside. -/
theorem Wall.Aside.lockdownLanes {n : LaneId} {l : List LaneId} (others : n ∉ l) {w : Wall} (faulted : w.transport.state = .faulted) :
    w.Aside n (l.foldl (fun w m => w.lockdownLane m) w) ∧ w.FaultMove (l.foldl (fun w m => w.lockdownLane m) w) := by
  induction l generalizing w with
  | nil => exact ⟨.refl n w, .refl faulted⟩
  | cons m l ih =>
    obtain ⟨other, others⟩ := List.ne_and_not_mem_of_not_mem_cons others
    have steps := Wall.LaneSteps.lockdownLane m faulted
    have moved := steps.move faulted
    obtain ⟨aside, move⟩ := ih others moved.stays
    exact ⟨(steps.aside other).trans aside, moved.trans move⟩

/-- Lockdown at all the lanes is, for one of them, its own lockdown, with the others before and after. -/
theorem Wall.eachLockdown_at (n : LaneId) {w : Wall} (faulted : w.transport.state = .faulted) :
    ∃ u, w.Aside n u ∧ w.FaultMove u ∧ (u.lockdownLane n).Aside n (w.eachLane Wall.lockdownLane)
      ∧ (u.lockdownLane n).FaultMove (w.eachLane Wall.lockdownLane) := by
  obtain ⟨s, t, lanes, before, after⟩ := laneIds_split n
  obtain ⟨aside, move⟩ := Wall.Aside.lockdownLanes before faulted
  have own := (Wall.LaneSteps.lockdownLane n move.stays).move move.stays
  obtain ⟨aside', move'⟩ := Wall.Aside.lockdownLanes after own.stays
  have split : w.eachLane Wall.lockdownLane = t.foldl (fun w m => w.lockdownLane m) ((s.foldl (fun w m => w.lockdownLane m) w).lockdownLane n) := by
    rw [Wall.eachLane, lanes, List.foldl_append, List.foldl_cons]
  rw [split]
  exact ⟨_, aside, move, aside', move'⟩

theorem Wall.Aside.outlastsLockdown {n : LaneId} {w v : Wall} (h : w.Aside n v) (outlasts : w.outlastsLockdown n) : v.outlastsLockdown n := by
  have faulted : ∀ o : Option Tally, o.map Tally.faulted = (o.map Tally.unmarked).map Tally.faulted := fun o => by
    rw [Option.map_map]
    rfl
  unfold Wall.outlastsLockdown
  rwa [h.orderOf, faulted, h.tally, ← faulted, h.contextOf]

theorem Wall.NotesStand.outlastsLockdown {α : Type} {f : Tally → α} {n : LaneId} {w v : Wall} (h : w.NotesStand f n v) (hf : Tally.Reads f)
    (outlasts : w.outlastsLockdown n) : v.outlastsLockdown n := by
  rcases outlasts with orderless | faulted | phases
  · exact .inl (by rwa [h.orderOf rfl])
  · obtain ⟨t, tally, marked⟩ := Option.map_eq_some_iff.mp faulted
    have same := h.tally
    rw [tally] at same
    obtain ⟨t', tally', reads⟩ := Option.map_eq_some_iff.mp same
    refine .inr (.inl ?_)
    rw [tally', Option.map_some, hf.faulted t' t reads, marked]
  · refine .inr (.inr fun c' context' => ?_)
    have same := h.context
    rw [context'] at same
    obtain ⟨c, context, core⟩ := Option.map_eq_some_iff.mp same.symm
    have phase : c'.phase = c.phase := (congrArg DispenseContext.phase core).symm
    rw [phase]
    exact phases c context

/-- A point that goes ACTIVE leaves every lane aside before lockdown reaches it. -/
theorem Wall.Aside.pointMet (n : LaneId) (p : PointId) (w : Wall) : w.Aside n (w.pointMet p) := by
  rw [w.pointMet_frame p]
  exact .of_stores (fun _ => rfl) rfl rfl rfl

/-- A point of a fault goes ACTIVE: where its zone enters no lockdown nothing of the orders changes. -/
theorem Wall.Aside.setInternal (n : LaneId) {p : PointId} (hp : 12 ≤ p.val) {w : Wall} (free : w.pointLocks p = false) : w.Aside n (w.setInternal p true) := by
  rw [Wall.setInternal_active hp, free]
  exact .pointMet n p w

namespace Wall.NotesStand
variable {α : Type} {f : Tally → α} {n : LaneId} {w : Wall}

/-- A point of a fault goes ACTIVE: the lane's note orders stand where a lockdown does not end them. -/
theorem setInternal (hf : Tally.Reads f) {p : PointId} (hp : 12 ≤ p.val)
    (faulted : w.transport.state = .faulted) (outlasts : w.pointLocks p = false ∨ w.outlastsLockdown n) :
    w.NotesStand f n (w.setInternal p true) := by
  cases locks : w.pointLocks p with
  | false => exact of_aside (.setInternal n hp locks) hf
  | true =>
    have met := Wall.Aside.pointMet n p w
    have state : (w.pointMet p).transport.state = .faulted := by rw [w.pointMet_frame p]; exact faulted
    obtain ⟨u, before, move, after, -⟩ := Wall.eachLockdown_at n state
    have outlasts := (met.trans before).outlastsLockdown (outlasts.resolve_left (by simp [locks]))
    rw [Wall.setInternal_active hp, if_pos locks]
    exact ((of_aside (met.trans before) hf).trans (lockdownLane hf move.stays outlasts)).trans (of_aside after hf)

end Wall.NotesStand

/-- The drawer of every lane follows through a fault point's going ACTIVE (R18). -/
theorem Wall.setInternal_follows (n : LaneId) {p : PointId} (hp : 12 ≤ p.val) {w : Wall} (faulted : w.transport.state = .faulted) :
    (w.lanes.get n).Follows ((w.setInternal p true).lanes.get n) := by
  have met : (w.pointMet p).lanes = w.lanes := by rw [w.pointMet_frame p]
  have state : (w.pointMet p).transport.state = .faulted := by rw [w.pointMet_frame p]; exact faulted
  rw [Wall.setInternal_active hp]
  split
  · obtain ⟨u, before, move, after, -⟩ := Wall.eachLockdown_at n state
    have own := (Wall.LaneSteps.lockdownLane n move.stays).follows
    rwa [before.lane, met, ← after.lane] at own
  · rw [met]
    exact .refl _

end Sys2Proof.Machine
end

section
/-! SUPPORT. What the closing of the gate at a fault leaves of the orders (R80): of those that wait nothing but a re-mix mark is touched, and of the order that holds the
path its reject counts. -/

namespace Sys2Proof.Machine

theorem Wall.Aside.recorded {n : LaneId} {w v : Wall} (r : w.Recorded v) : w.Aside n v where
  slot y := by rw [r.frame]; rfl
  lane := by rw [r.frame]
  tally := r.tally n
  loaded := by rw [r.frame]; rfl
  requests := by rw [r.frame]; rfl

section
variable {n : LaneId} {w : Wall} {x : Passage} {m : Measure}

/-- A piece is reported that is not a retract's own of this lane (R76, R90). -/
theorem Wall.Aside.reportSettled (route : m.route ≠ .stacker) (other : w.transport.join ≠ .retract n) : w.Aside n (w.reportSettled x m) := by
  unfold Wall.reportSettled
  split
  · have dropped : w.Aside n (w.modTransport fun t => { t with exitedEarly := t.exitedEarly.filter fun q => q ≠ x.seq }) :=
      .of_stores (fun _ => rfl) rfl rfl rfl
    refine dropped.trans ?_
    have join : (w.modTransport fun t => { t with exitedEarly := t.exitedEarly.filter fun q => q ≠ x.seq }).transport.join = w.transport.join := rfl
    generalize (w.modTransport fun t => { t with exitedEarly := t.exitedEarly.filter fun q => q ≠ x.seq }) = v at *
    have credited : v.Aside n (v.creditBin m.route.bin m.estimate) := by
      rw [Wall.creditBin_frame]
      exact .of_stores (fun _ => rfl) rfl rfl rfl
    by_cases own : ∃ k, x.source = .retract k ∧ v.transport.join = .retract k
    · obtain ⟨k, source, held⟩ := own
      rw [source, Wall.creditExit_own route held]
      exact credited.trans (.modLane _ _ fun same => other (by rw [← join, held, same]))
    · rw [Wall.creditExit_other route fun k source held => own ⟨k, source, held⟩]
      exact credited
  · exact .of_stores (fun _ => rfl) rfl rfl rfl

/-- A piece has been reported and recorded, before it counts against the order that holds the path (R76). -/
def Wall.settledBefore (x : Passage) (m : Measure) (cut : Bool) (w : Wall) : Wall :=
  let v := (w.modGate (Gate.trace1 x m cut)).reportSettled x m
  match x.source with
  | .cassette c => v.recordPassage c m.cls m.estimate
  | _ => v

/-- A piece that does not go to the stacker settles: it is reported and recorded, and a pick counts against the order that holds the path (R76). -/
theorem Wall.settle_eq (route : m.route ≠ .stacker) (cut : Bool) (w : Wall) :
    w.settle x m cut = w.settledBefore x m cut ∨ w.settle x m cut = (w.settledBefore x m cut).countReject m := by
  unfold Wall.settle Wall.settledBefore
  dsimp only
  cases x.source with
  | cassette c =>
    right
    simp only [if_neg route]
  | retract n => exact .inl rfl
  | clearance => exact .inl rfl

theorem Wall.settledBefore_move (x : Passage) (route : m.route ≠ .stacker) (cut : Bool) (faulted : w.transport.state = .faulted) :
    w.FaultMove (w.settledBefore x m cut) := by
  have reported : w.FaultMove ((w.modGate (Gate.trace1 x m cut)).reportSettled x m) :=
    ((Wall.FaultMove.refl faulted).modGate (f := Gate.trace1 x m cut) fun _ => rfl).reportSettled route
  unfold Wall.settledBefore
  dsimp only
  split
  · exact reported.recorded (.recordPassage ..)
  · exact reported

theorem Wall.Aside.settledBefore (x : Passage) (route : m.route ≠ .stacker) (cut : Bool) (other : w.transport.join ≠ .retract n) :
    w.Aside n (w.settledBefore x m cut) := by
  have traced : w.Aside n (w.modGate (Gate.trace1 x m cut)) := .of_stores (fun _ => rfl) rfl rfl rfl
  have reported : w.Aside n ((w.modGate (Gate.trace1 x m cut)).reportSettled x m) := traced.trans (.reportSettled route other)
  unfold Wall.settledBefore
  dsimp only
  split
  · exact reported.trans (.recorded (.recordPassage ..))
  · exact reported

/-- A piece settles while another order holds the path. -/
theorem Wall.Aside.settle (route : m.route ≠ .stacker) (cut : Bool) (faulted : w.transport.state = .faulted)
    (other : w.transport.join ≠ .retract n) (other' : w.transport.join ≠ .dispense n) : w.Aside n (w.settle x m cut) := by
  have aside := Wall.Aside.settledBefore x route cut other
  have moved := Wall.settledBefore_move x route cut faulted
  have join : (w.settledBefore x m cut).transport.join = w.transport.join := by rw [moved.transport]
  rcases Wall.settle_eq (x := x) route cut w with e | e <;> rw [e]
  · exact aside
  · rcases Wall.countReject_steps m moved.stays with same | ⟨k, held, steps⟩
    · rwa [same]
    · refine aside.trans (steps.aside fun same => other' ?_)
      rw [← join, held, same]

end

namespace Wall.NotesStand
variable {α : Type} {f : Tally → α} {n : LaneId} {w : Wall} {x : Passage} {m : Measure}

/-- A piece counts against the order of the lane, or of another one (R94). -/
theorem countReject (hf : Tally.Reads f) (hr : ∀ t k, f { t with rejected := k } = f t)
    (faulted : w.transport.state = .faulted) : w.NotesStand f n (w.countReject m) := by
  rcases Wall.countReject_steps m faulted with same | ⟨k, held, steps⟩
  · rw [same]
    exact refl f n w
  · by_cases other : n = k
    · subst other
      clear steps
      unfold Wall.countReject
      simp only [held]
      have counted : w.NotesStand f n (if m.route = .reject then w.modTally n fun t => { t with rejected := t.rejected + m.estimate } else w)
          ∧ w.FaultMove (if m.route = .reject then w.modTally n fun t => { t with rejected := t.rejected + m.estimate } else w) := by
        split
        · exact ⟨modTally (fun t => hr t _) w, (Wall.FaultMove.refl faulted).laneEnds (.modTally ..)⟩
        · exact ⟨refl f n w, .refl faulted⟩
      generalize (if m.route = .reject then w.modTally n fun t => { t with rejected := t.rejected + m.estimate } else w) = v at *
      obtain ⟨counted, moved⟩ := counted
      split
      · exact counted
      · have rejected := counted.trans (modContext f (g := fun x => { x with rejects := satAdd 255 x.rejects 1 }) (fun _ => rfl) v)
        have moved := moved.laneEnds (.modContext n (fun x => { x with rejects := satAdd 255 x.rejects 1 }) v)
        split
        · split
          · exact rejected.trans (beginEnd hf .rejectLimit moved.stays)
          · exact rejected
        · exact rejected
    · exact of_aside (steps.aside other) hf

theorem settle (hf : Tally.Reads f) (hr : ∀ t k, f { t with rejected := k } = f t)
    (route : m.route ≠ .stacker) (cut : Bool) (faulted : w.transport.state = .faulted) (other : w.transport.join ≠ .retract n) :
    w.NotesStand f n (w.settle x m cut) := by
  have aside := Wall.Aside.settledBefore x route cut other
  have moved := Wall.settledBefore_move x route cut faulted
  rcases Wall.settle_eq (x := x) route cut w with e | e <;> rw [e]
  · exact of_aside aside hf
  · exact (of_aside aside hf).trans (countReject hf hr moved.stays)

end Wall.NotesStand

/-! ### The gate closes -/

/-- The gate closes: what holds through every change of the gate and every settlement on the FAULTED path that goes to the reject bin holds through it. -/
theorem Wall.closeGate_induction {P : Wall → Prop} {w : Wall} (hw : P w) (faulted : w.transport.state = .faulted) (gate : ∀ v g, P v → P (v.modGate g))
    (settle : ∀ (v : Wall) x m cut, v.transport.state = .faulted → v.transport.join = w.transport.join → m.route = .reject → P v → P (v.settle x m cut)) :
    P w.closeGate := by
  have settled (v : Wall) (x : Passage) (m : Measure) (cut : Bool) (state : v.transport.state = .faulted) (join : v.transport.join = w.transport.join)
      (route : m.route = .reject) : (v.settle x m cut).transport.state = .faulted ∧ (v.settle x m cut).transport.join = w.transport.join := by
    have move := (Wall.FaultMove.refl state).settle (x := x) (m := m) (cut := cut) (by simp [route])
    refine ⟨move.stays, ?_⟩
    rw [move.transport]
    exact join
  have cuts (l : List Passage) (v : Wall) (state : v.transport.state = .faulted) (join : v.transport.join = w.transport.join) (hv : P v) :
      P (settleCut l v) := by
    induction l generalizing v with
    | nil => exact hv
    | cons x l ih =>
      obtain ⟨state', join'⟩ := settled v x { x.measure.getD _ with route := .reject } true state join rfl
      exact ih _ state' join' (settle _ _ _ _ state join rfl hv)
  have closed : P (w.closePassage true false) ∧ (w.closePassage true false).transport.state = .faulted
      ∧ (w.closePassage true false).transport.join = w.transport.join := by
    rcases w.closePassage_fault with ⟨-, e⟩ | ⟨older, x, younger, m, -, route, -, ⟨-, e⟩ | ⟨-, e⟩⟩ <;> rw [e]
    · exact ⟨hw, faulted, rfl⟩
    · exact ⟨settle _ _ _ _ faulted rfl route (gate _ _ hw), settled _ _ _ _ faulted rfl route⟩
    · exact ⟨gate _ _ hw, faulted, rfl⟩
  obtain ⟨hv, state, join⟩ := closed
  rw [Wall.closeGate_eq]
  exact gate _ _ (cuts _ _ state join (gate _ _ hv))

theorem Wall.Aside.modGate (n : LaneId) (g : Gate → Gate) (w : Wall) : w.Aside n (w.modGate g) := .of_stores (fun _ => rfl) rfl rfl rfl

theorem Wall.Aside.closeGate {n : LaneId} {w : Wall} (faulted : w.transport.state = .faulted) (other : w.transport.join ≠ .retract n)
    (other' : w.transport.join ≠ .dispense n) : w.Aside n w.closeGate :=
  Wall.closeGate_induction (.refl n w) faulted (fun _ _ h => h.trans (.modGate ..)) fun v _ _ _ state join route h =>
    h.trans (.settle (by simp [route]) _ state (join ▸ other) (join ▸ other'))

theorem Wall.NotesStand.closeGate {α : Type} {f : Tally → α} {n : LaneId} {w : Wall} (hf : Tally.Reads f)
    (hr : ∀ t k, f { t with rejected := k } = f t) (faulted : w.transport.state = .faulted)
    (other : w.transport.join ≠ .retract n) : w.NotesStand f n w.closeGate :=
  Wall.closeGate_induction (.refl f n w) faulted (fun _ _ h => h.trans (.modGate ..)) fun v _ _ _ state join route h =>
    h.trans (.settle hf hr (by simp [route]) _ state (join ▸ other))

/-- With nothing in the gate and nothing in flight the gate closes without a settlement. -/
theorem Wall.closeGate_idle {w : Wall} (idle : w.gate.inPassage = false) (empty : w.gate.passages = []) :
    w.closeGate = w.modGate fun g => g.dropped.shut := by
  have none : w.gate.current = none := by simp [Gate.current, idle]
  have closed : w.closePassage true false = w := by simp [Wall.closePassage, none]
  have flying : w.gate.inFlight = [] := by simp [Gate.inFlight, empty]
  rw [Wall.closeGate_eq, closed, flying]
  rfl

end Sys2Proof.Machine
end

section
/-! PROOF. The transport faults (O50): the steps of a fault in the order of R98, and what holds after them. -/

namespace Sys2Proof.Machine

/-! ### The steps of a fault (R98, R79, R80) -/

/-- The transport is FAULTED, and the order that holds the path knows it. -/
def Wall.faultMarked (w : Wall) : Wall :=
  match w.transport.join with
  | .dispense n =>
    (w.modTransport fun t => { t with state := .faulted, clearPulses := 0 }).modTally n fun t => { t with faulted := true, remixWait := false }
  | _ => w.modTransport fun t => { t with state := .faulted, clearPulses := 0 }

/-- The exit watch is emptied, its estimates unaccounted (R98). -/
def Wall.watchDropped (w : Wall) : Wall :=
  w.modTransport fun t =>
    { t with unaccounted := satAdd 65535 t.unaccounted (watchEstimates (fun _ => 0) t.watch), watch := [], exitedEarly := [] }

/-- An encoder loss: the gate's loss mark and point 15 (R79). -/
def Wall.lossSet (w : Wall) : Wall := (w.modGate fun g => { g with loss := true }).setInternal 15 true

/-- The path has stopped: the gate is closed, the watch empty, the point ACTIVE, the fault posted. -/
def Wall.faultStopped (jam : Bool) (w : Wall) : Wall :=
  if jam then (w.faultMarked.closeGate.watchDropped.setInternal 12 true).post .transportFault w.transport.join.faultCode
  else w.faultMarked.lossSet.closeGate.watchDropped.post .encoderLoss w.faultMarked.lossSet.gate.openPicks.length

/-- The fault has reached the delivery of the order that holds the path (R95). -/
def Wall.faultReached (jam : Bool) (w : Wall) : Wall :=
  match w.transport.join with
  | .dispense n => (w.faultStopped jam).faultDelivery n
  | _ => w.faultStopped jam

/-- The join is none, and the stacker's dump is the fault's. -/
def Wall.faultParted (jam : Bool) (w : Wall) : Wall :=
  (w.faultReached jam).modTransport fun t => { t with dump := dumpAtFault w.transport.join.dispenseLane t, join := .none }

/-- The holder of the join has ended. -/
def Wall.faultEnded (jam : Bool) (w : Wall) : Wall := (w.faultParted jam).faultHolder w.transport.join

theorem Wall.transportFault_eq (jam : Bool) (w : Wall) :
    w.transportFault jam = (w.faultEnded jam).transport.queue.foldl (fun w r => w.faultRequest r) (w.faultEnded jam) := by
  cases jam <;> rfl

/-- The internal point of a fault: the jam's or the encoder loss's (R141). -/
def faultPoint (jam : Bool) : PointId := if jam = true then 12 else 15

theorem faultPoint_internal (jam : Bool) : 12 ≤ (faultPoint jam).val := by cases jam <;> decide

/-- While a fault stops the path no other block changes than those that hold its pieces and its orders and the alarm unit, and the transport keeps its stacker, its
join and its dump. -/
structure Wall.FaultSteps (u w : Wall) : Prop where
  frame : w =
    { u with pages := w.pages, flags := w.flags, lanes := w.lanes, engine := w.engine, cassettes := w.cassettes, gate := w.gate,
             transport := w.transport, bins := w.bins, points := w.points, zones := w.zones, alarm := w.alarm, board := w.board, lost := w.lost }
  senses : u.SensesKept w
  transport : w.transport =
    { u.transport with queue := w.transport.queue, watch := w.transport.watch, exitedEarly := w.transport.exitedEarly,
                       unaccounted := w.transport.unaccounted }
  queue : ∀ r ∈ w.transport.queue, r ∈ u.transport.queue

namespace Wall.FaultSteps
variable {u v w : Wall}

theorem trans (h : u.FaultSteps v) (h' : v.FaultSteps w) : u.FaultSteps w where
  frame := by
    have e := h'.frame
    rw [h.frame] at e
    exact e
  senses := h.senses.trans h'.senses
  transport := by
    have e := h'.transport
    rw [h.transport] at e
    exact e
  queue r hr := h.queue r (h'.queue r hr)

theorem of_move (h : u.FaultMove w) : u.FaultSteps w where
  frame := by rw [h.frame]
  senses := h.senses
  transport := by rw [h.transport]
  queue := h.queue

theorem modGate (f : Gate → Gate) (w : Wall) : w.FaultSteps (w.modGate f) := ⟨rfl, .of_lanes rfl, rfl, fun _ => id⟩

theorem pointMet (p : PointId) (w : Wall) : w.FaultSteps (w.pointMet p) := by
  rw [w.pointMet_frame p]
  exact ⟨rfl, .of_lanes rfl, rfl, fun _ => id⟩

theorem setInternal {p : PointId} (hp : 12 ≤ p.val) (h : w.transport.state = .faulted) : w.FaultSteps (w.setInternal p true) :=
  (pointMet p w).trans (of_move (Wall.setInternal_move hp h))

theorem closeGate (h : w.transport.state = .faulted) : w.FaultSteps w.closeGate := by
  obtain ⟨f, closed, -⟩ := Wall.closeGate_move h
  exact (modGate f w).trans (of_move closed)

theorem watchDropped (w : Wall) : w.FaultSteps w.watchDropped := ⟨rfl, .of_lanes rfl, rfl, fun _ => id⟩

theorem post (k : News) (d : Nat) (w : Wall) : w.FaultSteps (w.post k d) := by
  rw [Wall.post_frame]
  exact ⟨rfl, .of_lanes rfl, rfl, fun _ => id⟩

theorem stays (h : u.FaultSteps w) (faulted : u.transport.state = .faulted) : w.transport.state = .faulted := by
  rw [h.transport]
  exact faulted

end Wall.FaultSteps

/-- A fault has stopped the path: its point is ACTIVE, and the exit watch and the gate's lists are empty. -/
structure Wall.Stopped (jam : Bool) (w v : Wall) : Prop where
  active : w.madeActive v (faultPoint jam)
  steps : w.faultMarked.FaultSteps v
  watch : v.transport.watch = []
  lists : v.gate.lists = (false, [], [], none, false, w.gate.loss || !jam)

theorem Wall.faultMarked_frame (w : Wall) :
    w.faultMarked = { w with transport := { w.transport with state := .faulted, clearPulses := 0 },
                             engine := { w.engine with tallies := w.faultMarked.engine.tallies } } := by
  unfold Wall.faultMarked
  split <;> rfl

theorem Wall.faultMarked_stands (w : Wall) : w.AlarmStands w.faultMarked := by
  rw [w.faultMarked_frame]
  exact ⟨rfl, rfl, rfl, rfl, fun _ => id⟩

theorem Wall.closeGate_stands {w : Wall} (h : w.transport.state = .faulted) : w.AlarmStands w.closeGate := by
  obtain ⟨f, closed, -⟩ := Wall.closeGate_move h
  obtain ⟨points, zones, alarm, seconds, shut⟩ := closed.alarmStands
  exact ⟨points, zones, alarm, seconds, shut⟩

theorem Wall.closeGate_lists {w : Wall} (h : w.transport.state = .faulted) : w.closeGate.gate.lists = (false, [], [], none, false, w.gate.loss) := by
  obtain ⟨f, closed, lists⟩ := Wall.closeGate_move h
  exact closed.lists.trans lists

theorem Wall.post_stands (k : News) (d : Nat) (w : Wall) : w.AlarmStands (w.post k d) := by
  rw [Wall.post_frame]
  exact ⟨rfl, rfl, rfl, rfl, fun _ => id⟩

theorem Wall.setInternal_lists {p : PointId} (hp : 12 ≤ p.val) {w : Wall} (h : w.transport.state = .faulted) :
    (w.setInternal p true).gate.lists = w.gate.lists := by
  refine (Wall.setInternal_move hp h).lists.trans ?_
  rw [w.pointMet_frame p]

theorem Wall.setInternal_watch {p : PointId} (hp : 12 ≤ p.val) {w : Wall} (h : w.transport.state = .faulted) (empty : w.transport.watch = []) :
    (w.setInternal p true).transport.watch = [] := by
  refine (Wall.setInternal_move hp h).watch_nil ?_
  rw [w.pointMet_frame p]
  exact empty

theorem Wall.faultStopped_spec (jam : Bool) (w : Wall) : w.Stopped jam (w.faultStopped jam) := by
  have faulted : w.faultMarked.transport.state = .faulted := by rw [w.faultMarked_frame]
  have gate : w.faultMarked.gate = w.gate := by rw [w.faultMarked_frame]
  have dropped (v : Wall) : v.AlarmStands v.watchDropped := ⟨rfl, rfl, rfl, rfl, fun _ => id⟩
  cases jam with
  | true =>
    have stopped : w.faultMarked.FaultSteps w.faultMarked.closeGate.watchDropped := .trans (.closeGate faulted) (.watchDropped _)
    have before : w.AlarmStands w.faultMarked.closeGate.watchDropped :=
      (w.faultMarked_stands.trans (Wall.closeGate_stands faulted)).trans (dropped _)
    have still := stopped.stays faulted
    have lists : w.faultMarked.closeGate.watchDropped.gate.lists = (false, [], [], none, false, w.gate.loss) :=
      (Wall.closeGate_lists faulted).trans (by rw [gate])
    have empty := Wall.setInternal_watch (p := 12) (by decide) still rfl
    have set := Wall.setInternal_lists (p := 12) (by decide) still
    refine ⟨?_, (stopped.trans (.setInternal (by decide) still)).trans (.post ..), ?_, ?_⟩
    · exact (Wall.post_stands ..).madeActive_after (before.madeActive_before (Wall.setInternal_madeActive (by decide) _))
    · rw [Wall.faultStopped, if_pos rfl, Wall.post_frame]
      exact empty
    · rw [Wall.faultStopped, if_pos rfl, Wall.post_frame]
      simpa using set.trans lists
  | false =>
    have marked : w.faultMarked.FaultSteps (w.faultMarked.modGate fun g => { g with loss := true }) := .modGate _ _
    have lost : w.faultMarked.FaultSteps w.faultMarked.lossSet := marked.trans (.setInternal (by decide) faulted)
    have still := lost.stays faulted
    have active : (w.faultMarked.modGate fun g => { g with loss := true }).madeActive w.faultMarked.lossSet 15 :=
      Wall.setInternal_madeActive (by decide) _
    have lists : w.faultMarked.lossSet.gate.lists = (w.faultMarked.modGate fun g => { g with loss := true }).gate.lists :=
      Wall.setInternal_lists (by decide) faulted
    have loss : w.faultMarked.lossSet.gate.loss = true := by
      simp only [Gate.lists, Prod.mk.injEq] at lists
      obtain ⟨-, -, -, -, -, loss⟩ := lists
      exact loss
    have after := ((Wall.closeGate_stands still).trans (dropped _)).trans (Wall.post_stands .encoderLoss w.faultMarked.lossSet.gate.openPicks.length _)
    refine ⟨?_, ((lost.trans (.closeGate still)).trans (.watchDropped _)).trans (.post ..), ?_, ?_⟩
    · exact after.madeActive_after (w.faultMarked_stands.madeActive_before active)
    · rw [Wall.faultStopped, if_neg (by simp), Wall.post_frame]
      rfl
    · rw [Wall.faultStopped, if_neg (by simp), Wall.post_frame]
      refine (Wall.closeGate_lists still).trans ?_
      simp [loss]

/-! ### The orders of the path end (R98, R105, R108, R113, R115) -/

/-- The end of a DISPENSE leaves the transport (R105). -/
theorem Wall.finishDispenseAt_transport (d : Decision) (n : LaneId) (jammed : Bool) (w : Wall) :
    (w.finishDispenseAt d n jammed).transport = w.transport := by
  rcases Wall.finishDispenseAt_cases d n jammed w with ⟨x, c, t, order, context, tally⟩ | idle
  · obtain ⟨-, -, -, -, -, -, path, -⟩ := Wall.finishDispenseAt_spec d jammed order context tally
    exact path
  · rw [idle]

theorem Wall.LaneEnds.dropRetract (n : LaneId) (e : OrderEnd) (w : Wall) : w.LaneEnds n (w.dropRetract n e) := by
  have dropped : w.LaneEnds n ((w.dropRequest n .retract).modBundle n fun b => { b with phase := .none }) :=
    (Wall.LaneEnds.dropRequest ..).trans (.modBundle ..)
  unfold Wall.dropRetract
  dsimp only
  split
  · exact (dropped.trans (.modTally ..)).trans (.finishDispense ..)
  · split
    · exact dropped.trans (.finishAt ..)
    · exact dropped

theorem Wall.LaneEnds.faultRequest (r : Request) (w : Wall) : w.LaneEnds r.lane (w.faultRequest r) := by
  unfold Wall.faultRequest
  split
  · exact ((Wall.LaneEnds.dropRequest ..).trans (.modTally ..)).trans (.finishDispense ..)
  · exact .dropRetract ..

namespace Wall.FaultMove
variable {u w : Wall}

theorem writeBack (h : u.FaultMove w) : u.FaultMove w.writeBack := by
  unfold Wall.writeBack
  split
  · exact h.of_stores rfl
  · exact h

theorem postForeign {n : LaneId} {k : Nat} (h : u.FaultMove w) : u.FaultMove (w.postForeign n k) := .ite h.post h

theorem reportRetract {n : LaneId} {fault : Bool} (h : u.FaultMove w) : u.FaultMove (w.reportRetract n fault) := by
  unfold Wall.reportRetract
  dsimp only
  split
  · exact ((h.laneEnds (.modTally ..)).modBundle.postForeign).laneEnds (.finishDispenseAt ..)
  · split
    · exact h.modBundle.postForeign.laneEnds (.finishAt ..)
    · exact h

theorem faultRequests {l : List Request} (h : u.FaultMove w) : u.FaultMove (l.foldl (fun w r => w.faultRequest r) w) :=
  foldl (fun w r h => h.laneEnds (.faultRequest r w)) l h

/-- The holder of the join ends, but for a clearance, which readies the port. -/
theorem faultHolder {j : Join} (h : u.FaultMove w) (order : j ≠ .clearance) : u.FaultMove (w.faultHolder j) := by
  cases j with
  | none => exact h
  | dispense n =>
    have cleared : u.FaultMove (w.writeBack.modGate fun g => { g with acceptEnable := false }) := h.writeBack.modGate fun _ => rfl
    exact .ite cleared (cleared.laneEnds (.finishDispense ..))
  | retract n =>
    have rested : u.FaultMove (w.modLane n fun l => { l with drawer := if l.drawer = .jammed then .jammed else l.restState }) :=
      h.modLane ⟨id, rfl⟩
    exact rested.reportRetract
  | clearance => exact absurd rfl order

end Wall.FaultMove

/-- A request that a fault meets leaves the queue (R98, R113). -/
theorem Wall.faultRequest_queue (r : Request) (w : Wall) :
    (w.faultRequest r).transport.queue = w.transport.queue.filter fun q => !(q.lane == r.lane && q.kind == r.kind) := by
  obtain ⟨n, kind⟩ := r
  cases kind with
  | bundle =>
    show (((w.dropRequest n .bundle).modTally n fun t => { t with faulted := true }).finishDispense n false).transport.queue = _
    rw [Wall.finishDispense, Wall.finishDispenseAt_transport]
    rfl
  | retract =>
    show (w.dropRetract n .transportFault).transport.queue = _
    unfold Wall.dropRetract
    dsimp only
    split
    · rw [Wall.finishDispense, Wall.finishDispenseAt_transport]
      rfl
    · split
      · rw [Wall.finish_frame]
        rfl
      · rfl

/-- Once each request of the queue has met the fault the queue is empty. -/
theorem Wall.faultRequests_queue (l : List Request) (w : Wall) (within : ∀ r ∈ w.transport.queue, r ∈ l) :
    (l.foldl (fun w r => w.faultRequest r) w).transport.queue = [] := by
  induction l generalizing w with
  | nil => exact List.eq_nil_iff_forall_not_mem.mpr fun r hr => by simpa using within r hr
  | cons q l ih =>
    refine ih (w.faultRequest q) fun r hr => ?_
    rw [Wall.faultRequest_queue, List.mem_filter] at hr
    obtain ⟨waits, other⟩ := hr
    rcases List.mem_cons.mp (within r waits) with rfl | later
    · simp at other
    · exact later

/-! ### What a fault leaves -/

/-- A fault that reaches a delivery changes the engine, the stacker's content and one drawer alone (R95). -/
theorem Wall.faultDelivery_frame (n : LaneId) (w : Wall) :
    ∃ (c : Counts) (f : Lane → DrawerState), w.faultDelivery n =
      { w with engine := (w.faultDelivery n).engine, transport := { w.transport with composition := c },
               lanes := tabMod w.lanes n fun l => { l with drawer := f l } } := by
  have same : tabMod w.lanes n (fun l => { l with drawer := l.drawer }) = w.lanes := tabMod_same _ _ _ rfl
  unfold Wall.faultDelivery
  split
  · exact ⟨w.transport.composition, fun l => l.drawer, by rw [same]⟩
  · split
    · exact ⟨Counts.zero, fun l => if l.itemSensor then .holding else l.drawer, rfl⟩
    · exact ⟨w.transport.composition, fun l => l.drawer, by rw [same]⟩

/-- What the reaching of a delivery and the parting of the join leave of the stopped path. -/
structure Wall.Parted (v u : Wall) : Prop where
  stands : v.AlarmStands u
  senses : v.SensesKept u
  frame : u = { v with engine := u.engine, transport := u.transport, lanes := u.lanes }
  transport : u.transport = { v.transport with composition := u.transport.composition, dump := u.transport.dump, join := .none }

theorem Wall.faultParted_spec (jam : Bool) (w : Wall) : (w.faultStopped jam).Parted (w.faultParted jam) := by
  have reached : ∃ (e : Engine) (c : Counts) (n : LaneId) (f : Lane → DrawerState), w.faultReached jam =
      { w.faultStopped jam with engine := e, transport := { (w.faultStopped jam).transport with composition := c },
                                lanes := tabMod (w.faultStopped jam).lanes n fun l => { l with drawer := f l } } := by
    unfold Wall.faultReached
    split
    · next n _ =>
      obtain ⟨c, f, e⟩ := (w.faultStopped jam).faultDelivery_frame n
      exact ⟨_, c, n, f, e⟩
    · refine ⟨(w.faultStopped jam).engine, (w.faultStopped jam).transport.composition, 0, fun l => l.drawer, ?_⟩
      rw [tabMod_same (w.faultStopped jam).lanes 0 (fun l => { l with drawer := l.drawer }) rfl]
  obtain ⟨e, c, n, f, reached⟩ := reached
  unfold Wall.faultParted
  rw [reached]
  generalize w.faultStopped jam = v at *
  refine ⟨⟨rfl, rfl, rfl, rfl, fun m => ?_⟩, fun m => ?_, rfl, rfl⟩
  · show ((tabMod v.lanes n _).get m).state = _ → _
    rw [tabMod_get]
    split <;> exact id
  · show ((tabMod v.lanes n _).get m).senses = _
    rw [tabMod_get]
    split <;> rfl

/-- The holder of the join ends on the FAULTED path, which readies the port where it is a clearance (R98, R99). -/
theorem Wall.faultHolder_move (j : Join) {w : Wall} (h : w.transport.state = .faulted) :
    ∃ f : Port → Port, (w.modPort f).FaultMove (w.faultHolder j) ∧ (f w.port).seconds = w.port.seconds := by
  by_cases clearance : j = .clearance
  · subst clearance
    refine ⟨fun p => { p with transportReady := true }, ?_, rfl⟩
    have ready : (w.modPort fun p => { p with transportReady := true }).FaultMove (w.modPort fun p => { p with transportReady := true }) := .refl h
    unfold Wall.faultHolder
    dsimp only
    split
    · refine ready.of_stores ?_
      rw [Wall.finish_frame, Wall.finish, Wall.finishAt_service]
    · exact ready
  · exact ⟨id, .faultHolder (.refl h) clearance, rfl⟩

/-- From the parting of the join to the end of the fault orders end alone. -/
theorem Wall.transportFault_move (jam : Bool) (w : Wall) :
    ∃ f : Port → Port, ((w.faultParted jam).modPort f).FaultMove (w.transportFault jam)
      ∧ (f (w.faultParted jam).port).seconds = (w.faultParted jam).port.seconds := by
  have faulted : (w.faultParted jam).transport.state = .faulted := by
    rw [(w.faultParted_spec jam).transport]
    exact (w.faultStopped_spec jam).steps.stays (by rw [w.faultMarked_frame])
  obtain ⟨f, holder, seconds⟩ := Wall.faultHolder_move w.transport.join faulted
  refine ⟨f, ?_, seconds⟩
  rw [Wall.transportFault_eq]
  exact holder.faultRequests

theorem Wall.transportFault_queue (jam : Bool) (w : Wall) : (w.transportFault jam).transport.queue = [] := by
  rw [Wall.transportFault_eq]
  exact Wall.faultRequests_queue _ _ fun _ => id

/-- After a fault the path holds nothing (R98, R80). -/
theorem Wall.transportFault_clear (jam : Bool) (w : Wall) : (w.transportFault jam).faultedAndClear ∧ (w.transportFault jam).gate.loss = (w.gate.loss || !jam) := by
  obtain ⟨f, move, -⟩ := w.transportFault_move jam
  have stopped := w.faultStopped_spec jam
  have parted := w.faultParted_spec jam
  have lists : (w.transportFault jam).gate.lists = (false, [], [], none, false, w.gate.loss || !jam) := by
    rw [move.lists, Wall.modPort_gate, parted.frame]
    exact stopped.lists
  have watch : (w.transportFault jam).transport.watch = [] := by
    refine move.watch_nil ?_
    rw [Wall.modPort_transport, parted.transport]
    exact stopped.watch
  have join : (w.transportFault jam).transport.join = .none := by
    rw [move.transport, Wall.modPort_transport, parted.transport]
  simp only [Gate.lists, Prod.mk.injEq] at lists
  obtain ⟨inPassage, passages, picks, latch, flap, loss⟩ := lists
  exact ⟨⟨move.stays, join, w.transportFault_queue jam, watch, inPassage, passages, picks, latch, flap⟩, loss⟩

/-- A fault makes its internal point ACTIVE (R141, R144). -/
theorem Wall.transportFault_active (jam : Bool) (w : Wall) : w.madeActive (w.transportFault jam) (faultPoint jam) := by
  obtain ⟨f, move, seconds⟩ := w.transportFault_move jam
  have ported : (w.faultParted jam).AlarmStands ((w.faultParted jam).modPort f) := ⟨rfl, rfl, rfl, seconds, fun _ => id⟩
  exact (((w.faultParted_spec jam).stands.trans ported).trans move.alarmStands).madeActive_after (w.faultStopped_spec jam).active

/-- A fault leaves the conveyor, the profile and the drawers' levels (R6). -/
theorem Wall.transportFault_keeps (jam : Bool) (w : Wall) :
    (w.transportFault jam).conveyor = w.conveyor ∧ (w.transportFault jam).profile = w.profile ∧ w.SensesKept (w.transportFault jam) := by
  obtain ⟨f, move, -⟩ := w.transportFault_move jam
  have parted := w.faultParted_spec jam
  have steps := (w.faultStopped_spec jam).steps
  have marked : w.SensesKept w.faultMarked := .of_lanes (by rw [w.faultMarked_frame])
  refine ⟨?_, ?_, ((marked.trans steps.senses).trans parted.senses).trans move.senses⟩
  · rw [move.frame, parted.frame, steps.frame, w.faultMarked_frame]
    rfl
  · rw [move.frame, parted.frame, steps.frame, w.faultMarked_frame]
    rfl

/-! ### A lane's note orders while the path stops -/

/-- What the steps that stop the path keep, but for the point's going ACTIVE: the gate's changes, its closing, the emptying of the watch and the post. -/
structure Wall.StopKeeps (w : Wall) (P : Wall → Prop) : Prop where
  store : ∀ v v' : Wall, P v → v'.pages = v.pages → v'.lanes = v.lanes → v'.engine = v.engine → v'.cassettes = v.cassettes →
    v'.transport.queue = v.transport.queue → v'.zones = v.zones → v'.profile = v.profile → P v'
  close : ∀ v : Wall, v.transport.state = .faulted → v.transport.join = w.transport.join → v.gate.inPassage = w.gate.inPassage →
    v.gate.passages = w.gate.passages → P v → P v.closeGate

/-- The path stops: what holds of the wall that knows its fault holds up to the point's going ACTIVE, and what that makes of it holds afterwards. -/
theorem Wall.faultStopped_induction {P Q : Wall → Prop} {w : Wall} (jam : Bool) (before : w.StopKeeps P) (after : w.StopKeeps Q) (hw : P w.faultMarked)
    (set : ∀ v : Wall, v.transport.state = .faulted → w.AlarmStands v → P v → Q (v.setInternal (faultPoint jam) true)) :
    Q (w.faultStopped jam) := by
  have faulted : w.faultMarked.transport.state = .faulted := by rw [w.faultMarked_frame]
  have join : w.faultMarked.transport.join = w.transport.join := by rw [w.faultMarked_frame]
  have gate : w.faultMarked.gate = w.gate := by rw [w.faultMarked_frame]
  have posted (v : Wall) (k : News) (d : Nat) (h : Q v) : Q (v.post k d) := by
    rw [Wall.post_frame]
    exact after.store v _ h rfl rfl rfl rfl rfl rfl rfl
  cases jam with
  | true =>
    have closed := before.close _ faulted join (by rw [gate]) (by rw [gate]) hw
    have steps := Wall.FaultSteps.closeGate faulted
    refine posted _ _ _ (set _ (steps.stays faulted) ?_ (before.store _ _ closed rfl rfl rfl rfl rfl rfl rfl))
    obtain ⟨points, zones, alarm, seconds, shut⟩ := w.faultMarked_stands.trans (Wall.closeGate_stands faulted)
    exact ⟨points, zones, alarm, seconds, shut⟩
  | false =>
    have lost : Q w.faultMarked.lossSet := by
      refine set _ faulted ?_ (before.store _ _ hw rfl rfl rfl rfl rfl rfl rfl)
      obtain ⟨points, zones, alarm, seconds, shut⟩ := w.faultMarked_stands
      exact ⟨points, zones, alarm, seconds, shut⟩
    have steps : w.faultMarked.FaultSteps w.faultMarked.lossSet := (Wall.FaultSteps.modGate _ _).trans (.setInternal (by decide) faulted)
    have lists : w.faultMarked.lossSet.gate.lists = (w.faultMarked.modGate fun g => { g with loss := true }).gate.lists :=
      Wall.setInternal_lists (by decide) faulted
    simp only [Gate.lists, Prod.mk.injEq] at lists
    obtain ⟨inPassage, passages, -⟩ := lists
    have closed := after.close _ (steps.stays faulted) (by rw [steps.transport, join]) (by rw [inPassage, ← gate]; rfl)
      (by rw [passages, ← gate]; rfl) lost
    exact posted _ _ _ (after.store _ _ closed rfl rfl rfl rfl rfl rfl rfl)

/-- No settlement at the fault counts against the lane's note orders as far as `f` reads them. -/
def Wall.countsAside {α : Type} (w : Wall) (f : Tally → α) (n : LaneId) : Prop :=
  (w.gate.inPassage = false ∧ w.gate.passages = []) ∨ (w.transport.join ≠ .retract n ∧ w.transport.join ≠ .dispense n)
    ∨ ((∀ t k, f { t with rejected := k } = f t) ∧ w.transport.join ≠ .retract n)

/-- Steps that stop the path leave a lane's note orders as far as `f` reads them. -/
theorem Wall.StopKeeps.notes {α : Type} {f : Tally → α} (hf : Tally.Reads f) {n : LaneId} {u w : Wall} (quiet : w.countsAside f n) :
    w.StopKeeps (u.NotesStand f n) where
  store v v' h pages lanes engine _ queue _ _ := h.trans (.of_aside (.of_stores (fun y => Wall.slot_congr pages _ y) lanes engine queue) hf)
  close v state join inPassage passages h := h.trans (by
    rcases quiet with ⟨idle, empty⟩ | ⟨retract, dispense⟩ | ⟨rejects, other⟩
    · rw [Wall.closeGate_idle (by rw [inPassage, idle]) (by rw [passages, empty])]
      exact .modGate ..
    · exact .of_aside (.closeGate state (by rwa [join]) (by rwa [join])) hf
    · exact .closeGate hf rejects state (by rwa [join]))

/-- What the stopping of the path leaves of a lane's note orders that it ends none of. -/
theorem Wall.faultStopped_notes {α : Type} {f : Tally → α} (hf : Tally.Reads f) {n : LaneId} {jam : Bool} {w : Wall} (quiet : w.countsAside f n)
    (outlasts : w.pointLocks (faultPoint jam) = false ∨ w.faultMarked.outlastsLockdown n) :
    w.faultMarked.NotesStand f n (w.faultStopped jam) := by
  refine Wall.faultStopped_induction jam (.notes hf quiet) (.notes hf quiet) (.refl ..) fun v state stands h => h.trans ?_
  refine .setInternal hf (faultPoint_internal jam) state ?_
  rw [(stands.pointAlarms _).2.1]
  exact outlasts.imp id fun o => h.outlastsLockdown hf o

theorem Wall.faultMarked_notes (n : LaneId) (w : Wall) : w.faultMarked.contextOf n = w.contextOf n ∧ w.faultMarked.orderOf n .dispense = w.orderOf n .dispense := by
  rw [w.faultMarked_frame]
  exact ⟨rfl, rfl⟩

/-- A fault that meets a delivery empties the stacker (R95). -/
theorem Wall.transportFault_composition {n : LaneId} {jam : Bool} {w : Wall} {c : DispenseContext} (join : w.transport.join = .dispense n)
    (context : w.contextOf n = some c) (phase : c.phase = .delivering) : (w.transportFault jam).transport.composition = Counts.zero := by
  obtain ⟨marked, -⟩ := w.faultMarked_notes n
  have outlasts : w.faultMarked.outlastsLockdown n := by
    refine .inr (.inr fun c' context' => ?_)
    rw [marked, context] at context'
    obtain rfl := Option.some.inj context'
    simp [phase]
  have notes := Wall.faultStopped_notes (jam := jam) Tally.reads_faulted (.inr (.inr ⟨fun _ _ => rfl, by simp [join]⟩)) (.inr outlasts)
  have same := notes.context
  rw [marked, context] at same
  obtain ⟨c', context', core⟩ := Option.map_eq_some_iff.mp same
  have phase' : c'.phase = .delivering := (congrArg DispenseContext.phase core).trans phase
  obtain ⟨f, move, -⟩ := w.transportFault_move jam
  have reached : (w.faultReached jam).transport.composition = Counts.zero := by
    simp only [Wall.faultReached, join, Wall.faultDelivery, context', phase', if_true]
    rfl
  rw [move.transport]
  exact reached

/-- A change of a lane that keeps its state. -/
theorem Wall.AlarmStands.modLane (n : LaneId) (f : Lane → Lane) (w : Wall) (hf : ∀ l, (f l).state = l.state) : w.AlarmStands (w.modLane n f) := by
  refine ⟨rfl, rfl, rfl, rfl, fun m opened => ?_⟩
  rw [Wall.modLane_lanes, tabMod_get] at opened
  split at opened
  · next same =>
    subst same
    rwa [hf] at opened
  · exact opened

/-! ### When a fault is declared (R90, R103, R112) -/

theorem Transport.overdue_iff (t : Transport) : t.overdue = true ↔ ∃ e ∈ t.watch, 1200 ≤ e.travel := by simp [Transport.overdue]

theorem Wall.beltStands_eq_false {w : Wall} (run : w.held = false) (seated : ∀ n, w.transport.join = .retract n → (w.lanes.get n).forced = false) :
    w.beltStands = false := by
  refine Bool.eq_false_iff.mpr fun stands => ?_
  rcases w.beltStands_iff.mp stands with held | ⟨n, join, forced⟩
  · simp [run] at held
  · simp [seated n join] at forced

theorem Wall.jamDue_iff (w : Wall) : w.jamDue = true ↔ w.transport.overdue = true ∧ w.held = false
    ∧ ∀ n, w.transport.join = .retract n → (w.lanes.get n).forced = false := by
  have stands := w.beltStands_iff
  rw [Wall.jamDue, Bool.and_eq_true, Bool.not_eq_true', Bool.eq_false_iff, ne_eq, stands]
  simp

theorem Wall.exitEdge_stray {w : Wall} (empty : w.transport.watch = []) (apart : w.transport.state ≠ .clearing) :
    w.exitEdge = if w.beltStands then w else w.transportFault true := by
  simp only [Wall.exitEdge, empty, if_neg apart]

/-- Settles O50. A fault is declared where its condition holds and the belt does not stand; what it leaves is that of `Wall.transportFault_clear`,
`Wall.transportFault_active` and `Wall.transportFault_keeps`. -/
theorem transportFaults : Obligations.TransportFaults := by
  unfold Obligations.TransportFaults
  intro s supply
  have clear (jam : Bool) (w : Wall) := w.transportFault_clear jam
  have active (jam : Bool) (w : Wall) := w.transportFault_active jam
  have keeps (jam : Bool) (w : Wall) := w.transportFault_keeps jam
  refine ⟨s.wall.transport.overdue_iff, s.wall.jamDue_iff, fun overdue run seated => ?_, fun n item delivering run seated => ?_,
    fun empty apart run seated => ?_, fun driven => ?_, fun idle => ?_, fun empty apart stands => ?_, fun still => ?_⟩
  · obtain ⟨conveyor, profile, -⟩ := keeps true s.wall
    refine ⟨_, rfl, ?_, (clear true s.wall).1, active true s.wall, conveyor, profile⟩
    have due : s.wall.jamDue = true := s.wall.jamDue_iff.mpr ⟨overdue, run, seated⟩
    exact State.onWall_eq supply (if_pos due)
  · obtain ⟨join, delivers⟩ := (s.wall.deliveringLane_iff n).mp delivering
    obtain ⟨c, context, phase⟩ := Option.map_eq_some_iff.mp delivers
    have runs := Wall.whenSome_some (fun n w => (w.modLane n fun l => { l with itemSensor := item }).transportFault true) s.wall
      (Wall.runningDelivery_runs delivering run seated)
    have sensed : s.wall.AlarmStands (s.wall.modLane n fun l => { l with itemSensor := item }) := .modLane _ _ _ fun _ => rfl
    have reading : ((s.wall.modLane n fun l => { l with itemSensor := item }).lanes.get n).itemSensor = item := by rw [Wall.modLane_get_same]
    refine ⟨_, rfl, State.onWall_evaluated supply runs, ?_⟩
    have join' : (s.wall.modLane n fun l => { l with itemSensor := item }).transport.join = .dispense n := join
    have context' : (s.wall.modLane n fun l => { l with itemSensor := item }).contextOf n = some c := context
    have same : (s.wall.modLane n fun l => { l with itemSensor := item }).conveyor = s.wall.conveyor
        ∧ (s.wall.modLane n fun l => { l with itemSensor := item }).profile = s.wall.profile := ⟨rfl, rfl⟩
    generalize (s.wall.modLane n fun l => { l with itemSensor := item }) = v at *
    obtain ⟨conveyor, profile, senses⟩ := keeps true v
    have levels := senses n
    simp only [Lane.senses, Prod.mk.injEq] at levels
    obtain ⟨-, -, -, sensor, -⟩ := levels
    exact ⟨(clear true v).1, sensed.madeActive_before (active true v), Wall.transportFault_composition join' context' phase, sensor.trans reading,
      conveyor.trans same.1, profile.trans same.2⟩
  · obtain ⟨conveyor, -, -⟩ := keeps true s.wall
    refine ⟨_, rfl, State.onWall_evaluated supply ?_, (clear true s.wall).1, active true s.wall, conveyor⟩
    rw [Wall.exitEdge_stray empty apart, Wall.beltStands_eq_false run seated]
    rfl
  · obtain ⟨conveyor, -, -⟩ := keeps false s.wall
    obtain ⟨held, loss⟩ := clear false s.wall
    refine ⟨_, rfl, State.onWall_evaluated supply ?_, held, ?_, active false s.wall, conveyor⟩
    · rw [Wall.encoderLost, if_pos driven]
    · rw [loss]
      simp
  · refine State.onWall_idle ?_
    simp [idle]
  · refine State.onWall_evaluated supply ?_
    rw [Wall.exitEdge_stray empty apart, s.wall.beltStands_iff.mpr stands]
    rfl
  · refine State.onWall_evaluated supply ?_
    rw [Wall.encoderLost, still]
    rfl

end Sys2Proof.Machine
end

section
/-! SUPPORT. What each step of a fault leaves aside (R98): the orders of the other lanes, the drawers, the cassettes, the service page and the board. -/

namespace Sys2Proof.Machine

/-! ### While the path stops -/

/-- A lane whose orders neither hold the path nor meet a settlement. -/
def Wall.pathAside (w : Wall) (n : LaneId) : Prop :=
  (w.gate.inPassage = false ∧ w.gate.passages = []) ∨ (w.transport.join ≠ .retract n ∧ w.transport.join ≠ .dispense n)

section
variable {n : LaneId} {jam : Bool} {u w : Wall}

theorem Wall.StopKeeps.aside (quiet : w.pathAside n) : w.StopKeeps (u.Aside n) where
  store v v' h pages lanes engine _ queue _ _ := h.trans (.of_stores (fun y => Wall.slot_congr pages _ y) lanes engine queue)
  close v state join inPassage passages h := h.trans (by
    rcases quiet with ⟨idle, empty⟩ | ⟨retract, dispense⟩
    · rw [Wall.closeGate_idle (by rw [inPassage, idle]) (by rw [passages, empty])]
      exact .modGate ..
    · exact .closeGate state (by rwa [join]) (by rwa [join]))

/-- Where the point's zone enters no lockdown the stopping of the path leaves the lane aside. -/
theorem Wall.faultStopped_aside (quiet : w.pathAside n) (free : w.pointLocks (faultPoint jam) = false) :
    w.faultMarked.Aside n (w.faultStopped jam) := by
  refine Wall.faultStopped_induction jam (.aside quiet) (.aside quiet) (.refl ..) fun v _ stands h => h.trans ?_
  exact .setInternal n (faultPoint_internal jam) (by rw [(stands.pointAlarms _).2.1, free])

theorem Wall.StopKeeps.follows {k : Lane} (quiet : w.pathAside n) : w.StopKeeps fun v => k.Follows (v.lanes.get n) where
  store v v' h _ lanes _ _ _ _ _ := by rwa [lanes]
  close v state join inPassage passages h := by
    have aside := (Wall.StopKeeps.aside (u := v) quiet).close v state join inPassage passages (.refl n v)
    rwa [aside.lane]

/-- The drawer follows while the path stops: it stands, or lockdown closes it from OFFERED or OPENING (R18). -/
theorem Wall.faultStopped_follows (jam : Bool) (quiet : w.pathAside n) : (w.lanes.get n).Follows ((w.faultStopped jam).lanes.get n) := by
  refine Wall.faultStopped_induction jam (.follows quiet) (.follows quiet) ?_ fun v state _ h => h.trans ?_
  · rw [w.faultMarked_frame]
    exact .refl _
  · exact Wall.setInternal_follows n (faultPoint_internal jam) state

/-- With nothing in the gate and no lockdown the stopping of the path leaves the cassettes. -/
theorem Wall.faultStopped_cassettes (idle : w.gate.inPassage = false) (empty : w.gate.passages = [])
    (free : w.pointLocks (faultPoint jam) = false) : (w.faultStopped jam).cassettes = w.cassettes := by
  have keeps : w.StopKeeps fun v => v.cassettes = w.cassettes :=
    ⟨fun v v' h _ _ _ cassettes _ _ _ => cassettes.trans h, fun v _ _ inPassage passages h => by
      rw [Wall.closeGate_idle (by rw [inPassage, idle]) (by rw [passages, empty])]
      exact h⟩
  refine Wall.faultStopped_induction jam keeps keeps ?_ fun v _ stands h => ?_
  · rw [w.faultMarked_frame]
  · rw [Wall.setInternal_active (faultPoint_internal jam), (stands.pointAlarms _).2.1, free, if_neg (by simp), v.pointMet_frame]
    exact h

/-! ### The service page (R99) -/

theorem Wall.LaneSteps.service {v : Wall} (h : w.LaneSteps n v) (x : SlotId) : v.slot servicePage x = w.slot servicePage x := by
  induction h with
  | refl => rfl
  | ends _ e ih => exact (e.page _ x (servicePage_ne_lanePage n)).trans ih
  | accept _ b ih => exact ih
  | lane _ f hf ih => exact ih

theorem Wall.lockdownLanes_service (l : List LaneId) (faulted : w.transport.state = .faulted) (x : SlotId) :
    (l.foldl (fun w m => w.lockdownLane m) w).slot servicePage x = w.slot servicePage x := by
  induction l generalizing w with
  | nil => rfl
  | cons m l ih =>
    have steps := Wall.LaneSteps.lockdownLane m faulted
    exact (ih (steps.move faulted).stays).trans (steps.service x)

theorem Wall.setInternal_service {p : PointId} (hp : 12 ≤ p.val) (faulted : w.transport.state = .faulted) (x : SlotId) :
    (w.setInternal p true).slot servicePage x = w.slot servicePage x := by
  have met : (w.pointMet p).slot servicePage x = w.slot servicePage x := by rw [w.pointMet_frame p]; rfl
  have state : (w.pointMet p).transport.state = .faulted := by rw [w.pointMet_frame p]; exact faulted
  rw [Wall.setInternal_active hp]
  split
  · exact (Wall.lockdownLanes_service laneIds state x).trans met
  · exact met

theorem Wall.settle_service {x : Passage} {m : Measure} {cut : Bool} (route : m.route ≠ .stacker) (faulted : w.transport.state = .faulted) (y : SlotId) :
    (w.settle x m cut).slot servicePage y = w.slot servicePage y := by
  have reported : ((w.modGate (Gate.trace1 x m cut)).reportSettled x m).pages = w.pages := by
    unfold Wall.reportSettled
    split
    · obtain ⟨_, _, _, _, _, _, e⟩ := Wall.creditExit_frame x.source m.estimate m.route
        ((w.modGate (Gate.trace1 x m cut)).modTransport fun t => { t with exitedEarly := t.exitedEarly.filter fun q => q ≠ x.seq })
      rw [e]
      rfl
    · rfl
  have before : (w.settledBefore x m cut).pages = w.pages := by
    unfold Wall.settledBefore
    dsimp only
    split
    · rw [(Wall.Recorded.recordPassage ..).frame]
      exact reported
    · exact reported
  rcases Wall.settle_eq (x := x) route cut w with e | e <;> rw [e]
  · exact Wall.slot_congr before _ y
  · rcases Wall.countReject_steps m (Wall.settledBefore_move x route cut faulted).stays with same | ⟨k, -, steps⟩
    · rw [same]
      exact Wall.slot_congr before _ y
    · exact (steps.service y).trans (Wall.slot_congr before _ y)

/-- The stopping of the path leaves the service orders. -/
theorem Wall.faultStopped_service (jam : Bool) (w : Wall) (x : SlotId) : (w.faultStopped jam).slot servicePage x = w.slot servicePage x := by
  have keeps : w.StopKeeps fun v => v.slot servicePage x = w.slot servicePage x :=
    ⟨fun v v' h pages _ _ _ _ _ _ => (Wall.slot_congr pages _ x).trans h, fun v state _ _ _ h =>
      Wall.closeGate_induction (P := fun v => v.slot servicePage x = w.slot servicePage x) h state (fun _ _ h => h)
        fun v y m cut state _ route h => (Wall.settle_service (by simp [route]) state x).trans h⟩
  refine Wall.faultStopped_induction jam keeps keeps ?_ fun v state _ h => (Wall.setInternal_service (faultPoint_internal jam) state x).trans h
  rw [w.faultMarked_frame]
  rfl

end

/-! ### The board (R98, R149, R154) -/

theorem Wall.SameNews.refl (w : Wall) : w.SameNews w := ⟨rfl, rfl, rfl⟩

theorem Wall.SameNews.trans {u v w : Wall} (h : u.SameNews v) (h' : v.SameNews w) : u.SameNews w :=
  ⟨h.board.trans h'.board, h.lost.trans h'.lost, h.port.trans h'.port⟩

theorem Wall.SameNews.ite {u v w : Wall} {b : Bool} (hv : u.SameNews w) (hw : v.SameNews w) : (if b = true then u else v).SameNews w := by
  split
  · exact hv
  · exact hw

/-- What a point's going ACTIVE posts depends on the alarm unit and the board alone. -/
theorem Wall.SameNews.pointNews {v w : Wall} (h : v.SameNews w) (stands : w.AlarmStands v) (p : PointId) : (v.pointNews p).SameNews (w.pointNews p) := by
  obtain ⟨alarms, locks, -⟩ := stands.pointAlarms p
  have called : (if w.pointAlarms p then v.post (.zoneAlarm (w.points.get p).zone) p.val else v).SameNews
      (if w.pointAlarms p then w.post (.zoneAlarm (w.points.get p).zone) p.val else w) := by
    split
    · exact h.post _ _
    · exact h
  unfold Wall.pointNews
  rw [alarms, locks, stands.points]
  dsimp only
  split
  · exact called.post _ _
  · exact called

theorem Wall.lockdownLanes_news (l : List LaneId) {w : Wall} (faulted : w.transport.state = .faulted) :
    (l.foldl (fun w m => w.lockdownLane m) w).SameNews w := by
  induction l generalizing w with
  | nil => exact .refl w
  | cons m l ih =>
    have steps := Wall.LaneSteps.lockdownLane m faulted
    exact (ih (steps.move faulted).stays).trans steps.news

theorem Wall.setInternal_news {p : PointId} (hp : 12 ≤ p.val) {w : Wall} (faulted : w.transport.state = .faulted) :
    (w.setInternal p true).SameNews (w.pointNews p) := by
  have state : (w.pointMet p).transport.state = .faulted := by rw [w.pointMet_frame p]; exact faulted
  rw [Wall.setInternal_active hp]
  exact .trans (.ite (Wall.lockdownLanes_news laneIds state) (.refl _)) (w.pointMet_news p)

/-- With nothing in the gate the stopping of the path posts what the point's zone posts and the fault. -/
theorem Wall.faultStopped_news (jam : Bool) {w : Wall} (idle : w.gate.inPassage = false) (empty : w.gate.passages = []) :
    (w.faultStopped jam).SameNews (if jam = true then (w.pointNews (faultPoint jam)).post .transportFault w.transport.join.faultCode
      else (w.pointNews (faultPoint jam)).post .encoderLoss w.gate.openPicks.length) := by
  have faulted : w.faultMarked.transport.state = .faulted := by rw [w.faultMarked_frame]
  have gate : w.faultMarked.gate = w.gate := by rw [w.faultMarked_frame]
  have stands := w.faultMarked_stands
  have same : w.faultMarked.SameNews w := by rw [w.faultMarked_frame]; exact ⟨rfl, rfl, rfl⟩
  cases jam with
  | true =>
    have closed : w.faultMarked.closeGate = w.faultMarked.modGate fun g => g.dropped.shut := Wall.closeGate_idle (by rw [gate, idle]) (by rw [gate, empty])
    have set := Wall.setInternal_news (p := 12) (by decide) (w := (w.faultMarked.modGate fun g => g.dropped.shut).watchDropped) faulted
    have before : (w.faultMarked.modGate fun g => g.dropped.shut).watchDropped.SameNews w := ⟨same.board, same.lost, same.port⟩
    have news := set.trans (before.pointNews (stands.trans ⟨rfl, rfl, rfl, rfl, fun _ => id⟩) 12)
    rw [Wall.faultStopped, if_pos rfl, if_pos rfl, closed]
    exact news.post _ _
  | false =>
    have set := Wall.setInternal_news (p := 15) (by decide) (w := w.faultMarked.modGate fun g => { g with loss := true }) faulted
    have before : (w.faultMarked.modGate fun g => { g with loss := true }).SameNews w := ⟨same.board, same.lost, same.port⟩
    have news := set.trans (before.pointNews (stands.trans ⟨rfl, rfl, rfl, rfl, fun _ => id⟩) 15)
    have lists : w.faultMarked.lossSet.gate.lists = (w.faultMarked.modGate fun g => { g with loss := true }).gate.lists :=
      Wall.setInternal_lists (by decide) faulted
    simp only [Gate.lists, Prod.mk.injEq] at lists
    obtain ⟨inPassage, passages, picks, -⟩ := lists
    have count : w.faultMarked.lossSet.gate.openPicks = w.gate.openPicks := by rw [picks, ← gate]; rfl
    have closed : w.faultMarked.lossSet.closeGate = w.faultMarked.lossSet.modGate fun g => g.dropped.shut :=
      Wall.closeGate_idle (by rw [inPassage, ← idle, ← gate]; rfl) (by rw [passages, ← empty, ← gate]; rfl)
    have lost : w.faultMarked.lossSet.SameNews (w.pointNews 15) := news
    rw [Wall.faultStopped, if_neg (by simp), if_neg (by simp), closed, count]
    have dropped : ((w.faultMarked.lossSet.modGate fun g => g.dropped.shut).watchDropped).SameNews (w.pointNews 15) := ⟨lost.board, lost.lost, lost.port⟩
    exact dropped.post _ _

/-! ### The delivery and the join (R95) -/

section
variable {n : LaneId} {jam : Bool} {w : Wall}

theorem Wall.faultMarked_aside (other : w.transport.join ≠ .dispense n) : w.Aside n w.faultMarked := by
  have path : w.Aside n (w.modTransport fun t => { t with state := .faulted, clearPulses := 0 }) := .of_stores (fun _ => rfl) rfl rfl rfl
  unfold Wall.faultMarked
  split
  · next m join => exact path.trans (.of_ends (.modTally ..) fun same => other (by rw [join, same]))
  · exact path

/-- The notes of a delivery that a fault has reached are presented and unresolved (R95). -/
def Tally.cutDelivery (v : Counts) (t : Tally) : Tally :=
  { t with presented := addCounts t.presented v, unresolved := t.unresolved + Counts.total v }

/-- A fault that reaches a delivery (R95). -/
theorem Wall.faultDelivery_delivering {c : DispenseContext} (context : w.contextOf n = some c) (phase : c.phase = .delivering) :
    w.faultDelivery n =
      (((w.modTally n (Tally.cutDelivery w.transport.composition)).modTransport fun t => { t with composition := Counts.zero }).modEngine fun e =>
        { e with deliveryMs := 0 }).modLane n fun l => { l with drawer := if l.itemSensor then .holding else l.drawer } := by
  simp only [Wall.faultDelivery, context, phase, if_true]
  rfl

theorem Wall.faultDelivery_other (h : ∀ c, w.contextOf n = some c → c.phase ≠ .delivering) : w.faultDelivery n = w := by
  unfold Wall.faultDelivery
  split
  · rfl
  · next c context => exact if_neg (h c context)

theorem Wall.faultDelivery_aside {m : LaneId} (other : n ≠ m) : w.Aside n (w.faultDelivery m) := by
  by_cases delivers : ∃ c, w.contextOf m = some c ∧ c.phase = .delivering
  · obtain ⟨c, context, phase⟩ := delivers
    rw [Wall.faultDelivery_delivering context phase]
    refine .trans (.of_ends (.modTally m (Tally.cutDelivery w.transport.composition) w) other) ?_
    exact ⟨fun _ => rfl, Wall.modLane_get_other _ _ other, rfl, rfl, rfl⟩
  · rw [Wall.faultDelivery_other fun c context phase => delivers ⟨c, context, phase⟩]
    exact .refl n w

theorem Wall.faultReached_stopped (h : ∀ m, w.transport.join ≠ .dispense m) : w.faultReached jam = w.faultStopped jam := by
  unfold Wall.faultReached
  split
  · next m join => exact absurd join (h m)
  · rfl

theorem Wall.faultParted_aside (other : w.transport.join ≠ .dispense n) : (w.faultStopped jam).Aside n (w.faultParted jam) := by
  have reached : (w.faultStopped jam).Aside n (w.faultReached jam) := by
    unfold Wall.faultReached
    split
    · next m join => exact Wall.faultDelivery_aside fun same => other (by rw [join, same])
    · exact .refl n _
  exact reached.trans (.of_stores (fun _ => rfl) rfl rfl rfl)

/-! ### The holder of the join and the requests -/

/-- The wall whose granted retract has ended, before its order ends (R114). -/
theorem Wall.reportRetract_aside {m : LaneId} {fault : Bool} (other : n ≠ m) : w.Aside n (w.reportRetract m fault) := by
  have foreign (v : Wall) (k : Nat) : v.Aside n (v.postForeign m k) := by
    unfold Wall.postForeign
    split
    · rw [Wall.post_frame]
      exact .of_stores (fun _ => rfl) rfl rfl rfl
    · exact .refl n v
  unfold Wall.reportRetract
  dsimp only
  split
  · exact (((Wall.Aside.of_ends (.modTally ..) other).trans (.of_ends (.modBundle ..) other)).trans (foreign _ _)).trans
      (.of_ends (.finishDispenseAt ..) other)
  · split
    · exact ((Wall.Aside.of_ends (.modBundle ..) other).trans (foreign _ _)).trans (.of_ends (.finishAt ..) other)
    · exact .refl n w

theorem Wall.writeBack_aside (unloaded : w.loadedIn n = none) : w.Aside n w.writeBack := by
  cases loaded : w.engine.loaded with
  | none =>
    have same : w.writeBack = w := by simp only [Wall.writeBack, loaded]
    rw [same]
    exact .refl n w
  | some l =>
    refine .of_ends (.writeBack (n := l.lane) (by rw [loaded]; rfl)) fun same => ?_
    rw [Wall.loadedIn_eq_none, loaded] at unloaded
    exact unloaded (congrArg some same.symm)

theorem Wall.faultHolder_aside {j : Join} (retract : j ≠ .retract n) (dispense : j ≠ .dispense n)
    (unloaded : w.loadedIn n = none ∨ ∀ m, j ≠ .dispense m) :
    w.Aside n (w.faultHolder j) := by
  cases j with
  | none => exact .refl n w
  | dispense m =>
    have other : n ≠ m := fun same => dispense (by rw [same])
    have written : w.Aside n (w.writeBack.modGate fun g => { g with acceptEnable := false }) := 
      (Wall.writeBack_aside (unloaded.resolve_right fun apart => apart m rfl)).trans (.modGate ..)
    unfold Wall.faultHolder
    dsimp only
    split
    · exact written
    · exact written.trans (.of_ends (.finishDispense ..) other)
  | retract m =>
    have other : n ≠ m := fun same => retract (by rw [same])
    exact .trans (.modLane _ w other) (Wall.reportRetract_aside other)
  | clearance =>
    have ready : w.Aside n (w.modPort fun p => { p with transportReady := true }) := .of_stores (fun _ => rfl) rfl rfl rfl
    unfold Wall.faultHolder
    dsimp only
    split
    · refine ready.trans (.of_stores (fun y => ?_) ?_ ?_ ?_)
      · exact Wall.finishAt_other _ _ _ _ fun here => servicePage_ne_lanePage n (Prod.mk.inj here).1.symm
      · rw [Wall.finish, Wall.finishAt_service]
      · rw [Wall.finish_frame]
      · rw [Wall.finish_frame]
    · exact ready

theorem Wall.faultRequests_aside {l : List Request} (others : ∀ r ∈ l, r.lane ≠ n) : w.Aside n (l.foldl (fun w r => w.faultRequest r) w) := by
  induction l generalizing w with
  | nil => exact .refl n w
  | cons r l ih =>
    have other : n ≠ r.lane := (others r List.mem_cons_self).symm
    exact (Wall.Aside.of_ends (.faultRequest r w) other).trans (ih fun q hq => others q (List.mem_cons_of_mem r hq))

end

end Sys2Proof.Machine
end

section
/-! SUPPORT. An order that a fault ends stays as its end has left it (R25, R98), and how each request and a granted retract ends its order (R105, R108, R113 to R115). -/

namespace Sys2Proof.Machine

/-- A RETRACT request has left the queue, and the lane's retract with it (R108, R113). -/
def Wall.retractDropped (n : LaneId) (w : Wall) : Wall := (w.dropRequest n .retract).modBundle n fun b => { b with phase := .none }

theorem Wall.dropRetract_eq (n : LaneId) (e : OrderEnd) (w : Wall) :
    w.dropRetract n e =
      match (w.retractDropped n).orderOf n .dispense with
      | some _ =>
        ((w.retractDropped n).modTally n fun t =>
          { t with unresolved := t.unresolved + (((w.retractDropped n).contextOf n).map DispenseContext.inDrawer).getD 0, faulted := true }).finishDispense n false
      | none =>
        match (w.retractDropped n).orderOf n .retract with
        | some s => (w.retractDropped n).finish (lanePage n) s e (retractFields BundleRecord.reset)
        | none => w.retractDropped n := rfl

/-- An order of the lane is over: its slot is FINISHED with its result, and it does not own the drawer (R12, R25). -/
structure Wall.Over (n : LaneId) (x : SlotId) (words : List Word) (w : Wall) : Prop where
  state : (w.slot (lanePage n) x).state = .finished
  result : (w.slot (lanePage n) x).result = words
  owner : (w.lanes.get n).owner ≠ some x

namespace Wall.Over
variable {n : LaneId} {x : SlotId} {words : List Word} {v w : Wall}

theorem of_aside (h : w.Over n x words) (a : w.Aside n v) : v.Over n x words :=
  ⟨by rw [a.slot]; exact h.state, by rw [a.slot]; exact h.result, by rw [a.lane]; exact h.owner⟩

/-- An order that is over is not in progress. -/
theorem orderOf (h : w.Over n x words) (k : Kind) : w.orderOf n k ≠ some x := fun order => by
  have progress := (Wall.orderOf_some order).1
  rw [h.state] at progress
  cases progress

theorem of_kept (h : w.Over n x words) (slot : w.SlotKept n x v) (owner : (v.lanes.get n).owner ≠ some x) : v.Over n x words :=
  ⟨slot.state.trans h.state, slot.result.trans h.result, owner⟩

theorem finishDispenseAt (h : w.Over n x words) (d : Decision) (jammed : Bool) : (w.finishDispenseAt d n jammed).Over n x words := by
  refine h.of_kept (Wall.finishDispenseAt_kept d jammed (h.orderOf .dispense)) ?_
  rcases Wall.finishDispenseAt_cases d n jammed w with ⟨y, c, t, order, context, tally⟩ | idle
  · obtain ⟨-, -, -, lanes, -⟩ := Wall.finishDispenseAt_spec d jammed order context tally
    rw [lanes, tabMod_get_same]
    show (if (w.lanes.get n).owner = some y then none else (w.lanes.get n).owner) ≠ some x
    split
    · simp
    · exact h.owner
  · rw [idle]
    exact h.owner

theorem finishAt (h : w.Over n x words) {y : SlotId} (other : x ≠ y) (t : DWord) (e : OrderEnd) (fields : List Word) :
    (w.finishAt t (lanePage n) y e fields).Over n x words := by
  refine h.of_kept (Wall.finishAt_kept t e fields w other) ?_
  rw [Wall.finishAt_lanes, tabMod_get_same]
  show (if (w.lanes.get n).owner = some y then none else (w.lanes.get n).owner) ≠ some x
  split
  · simp
  · exact h.owner

theorem modBundle (h : w.Over n x words) (f : BundleRecord → BundleRecord) : (w.modBundle n f).Over n x words := by
  refine h.of_kept (.of_eq rfl) ?_
  rw [Wall.modBundle, Wall.modLane_get_same]
  exact h.owner

theorem modTally (h : w.Over n x words) (f : Tally → Tally) : (w.modTally n f).Over n x words := ⟨h.state, h.result, h.owner⟩

theorem dropRequest (h : w.Over n x words) (k : RequestKind) : (w.dropRequest n k).Over n x words := ⟨h.state, h.result, h.owner⟩

theorem faultRequest (h : w.Over n x words) (r : Request) : (w.faultRequest r).Over n x words := by
  by_cases same : n = r.lane
  · subst same
    unfold Wall.faultRequest
    split
    · have dropped := (h.dropRequest .bundle).modTally fun t => { t with faulted := true }
      exact dropped.finishDispenseAt _ false
    · have dropped : (w.retractDropped r.lane).Over r.lane x words := (h.dropRequest .retract).modBundle _
      rw [Wall.dropRetract_eq]
      split
      · exact (dropped.modTally _).finishDispenseAt _ false
      · split
        · next y order => exact dropped.finishAt (fun same => dropped.orderOf .retract (same ▸ order)) _ _ _
        · exact dropped
  · exact h.of_aside (.of_ends (.faultRequest r w) same)

theorem faultRequests (h : w.Over n x words) (l : List Request) : (l.foldl (fun w r => w.faultRequest r) w).Over n x words := by
  induction l generalizing w with
  | nil => exact h
  | cons r l ih => exact ih (h.faultRequest r)

end Wall.Over

/-! ### A lane without a tally -/

theorem Wall.finishDispenseAt_tally_none {n : LaneId} {w : Wall} (h : w.tallyOf n = none) (d : Decision) (jammed : Bool) :
    w.finishDispenseAt d n jammed = w := Wall.finishDispenseAt_none d jammed (.inr (.inr h))

theorem Wall.modTally_tally_none {n : LaneId} {w : Wall} (h : w.tallyOf n = none) (f : Tally → Tally) : (w.modTally n f).tallyOf n = none := by
  show (tabMod w.engine.tallies n (Option.map f)).get n = none
  rw [tabMod_get_same]
  exact Option.map_eq_none_iff.mpr h

/-- A lane that has no tally has none after a request has met the fault, and the cassettes stand where the request was the lane's. -/
theorem Wall.faultRequest_tally_none {n : LaneId} {w : Wall} (h : w.tallyOf n = none) (r : Request) : (w.faultRequest r).tallyOf n = none
    ∧ (r.lane = n → (w.faultRequest r).cassettes = w.cassettes) := by
  by_cases same : r.lane = n
  · subst same
    unfold Wall.faultRequest
    split
    · have dropped : (w.dropRequest r.lane .bundle).tallyOf r.lane = none := h
      have none := Wall.modTally_tally_none dropped fun t => { t with faulted := true }
      rw [Wall.finishDispense, Wall.finishDispenseAt_tally_none none]
      exact ⟨none, fun _ => rfl⟩
    · have dropped : (w.retractDropped r.lane).tallyOf r.lane = none := h
      have cassettes : (w.retractDropped r.lane).cassettes = w.cassettes := rfl
      rw [Wall.dropRetract_eq]
      generalize w.retractDropped r.lane = v at *
      split
      · have none := Wall.modTally_tally_none dropped fun t =>
          { t with unresolved := t.unresolved + ((v.contextOf r.lane).map DispenseContext.inDrawer).getD 0, faulted := true }
        rw [Wall.finishDispense, Wall.finishDispenseAt_tally_none none]
        exact ⟨none, fun _ => cassettes⟩
      · split
        · rw [Wall.finish_frame]
          exact ⟨dropped, fun _ => cassettes⟩
        · exact ⟨dropped, fun _ => cassettes⟩
  · exact ⟨(Wall.Aside.of_ends (.faultRequest r w) (Ne.symm same)).tally_none h, fun lane => absurd lane same⟩

theorem Wall.faultRequests_tally_none {n : LaneId} (l : List Request) {w : Wall} (h : w.tallyOf n = none) :
    (l.foldl (fun w r => w.faultRequest r) w).tallyOf n = none
      ∧ ((∀ r ∈ l, r.lane = n) → (l.foldl (fun w r => w.faultRequest r) w).cassettes = w.cassettes) := by
  induction l generalizing w with
  | nil => exact ⟨h, fun _ => rfl⟩
  | cons r l ih =>
    obtain ⟨none, cassettes⟩ := Wall.faultRequest_tally_none h r
    obtain ⟨later, same⟩ := ih none
    exact ⟨later, fun own => (same fun q hq => own q (List.mem_cons_of_mem r hq)).trans (cassettes (own r List.mem_cons_self))⟩

/-! ### The ends of the orders (R105, R108, R113, R115) -/

section
variable {n : LaneId} {x : SlotId} {c : DispenseContext} {t : Tally} {w : Wall}

/-- A DISPENSE that a fault has reached finishes TRANSPORT FAULT (R105). -/
theorem Wall.Dispensing.faultedEnd (h : w.Dispensing n x c t) (faulted : t.faulted = true) (d : Decision) (jammed : Bool) :
    (w.finishDispenseAt d n jammed).Over n x
        (resultWords .transportFault (w.slot (lanePage n) x).tooLate d.seconds (tallyWords c t (w.valueOf t.presented) d.duress))
      ∧ (w.finishDispenseAt d n jammed).tallyOf n = none
      ∧ ∀ k, ((w.finishDispenseAt d n jammed).cassettes.get k).reserved = (w.cassettes.get k).reserved - c.outstanding.get k := by
  obtain ⟨state, result, -, lanes, tally, reserved, -, -, -⟩ := Wall.finishDispenseAt_spec d jammed h.order h.context h.tally
  have outcome : dispenseOutcome jammed c t = .transportFault := by simp [dispenseOutcome, faulted]
  refine ⟨⟨state, by rw [result, outcome], ?_⟩, tally, reserved⟩
  rw [lanes, tabMod_get_same]
  show (if (w.lanes.get n).owner = some x then none else (w.lanes.get n).owner) ≠ some x
  split
  · simp
  · next other => exact other

/-- The result of a DISPENSE that a fault has reached and that ends now (R25, R105). -/
def Wall.faultWords (w : Wall) (n : LaneId) (x : SlotId) (c : DispenseContext) (t : Tally) : List Word :=
  resultWords .transportFault (w.slot (lanePage n) x).tooLate w.port.seconds (tallyWords c t (w.valueOf t.presented) w.duressAlarm)

/-- Such a DISPENSE finishes now. -/
theorem Wall.Dispensing.faultedFinish (h : w.Dispensing n x c t) (faulted : t.faulted = true) :
    (w.finishDispense n false).Over n x (w.faultWords n x c t) ∧ (w.finishDispense n false).tallyOf n = none
      ∧ ∀ k, ((w.finishDispense n false).cassettes.get k).reserved = (w.cassettes.get k).reserved - c.outstanding.get k :=
  h.faultedEnd faulted w.decision false

/-- A change of the tally alone. -/
theorem Wall.Dispensing.modTally (h : w.Dispensing n x c t) (f : Tally → Tally) : (w.modTally n f).Dispensing n x c (f t) where
  order := h.order
  context := h.context
  tally := by
    show (tabMod w.engine.tallies n (Option.map f)).get n = some (f t)
    rw [tabMod_get_same]
    exact (congrArg (Option.map f) h.tally).trans rfl

/-- The result does not tell the fault's mark, and depends on the slot, the second, the profile and the zones. -/
theorem Wall.faultWords_congr {v : Wall} {tooLate : Bool} (slot : (v.slot (lanePage n) x).tooLate = tooLate) (seconds : v.port.seconds = w.port.seconds)
    (profile : v.profile = w.profile) : v.faultWords n x c { t with faulted := true } =
      resultWords .transportFault tooLate w.port.seconds (tallyWords c t (w.valueOf t.presented) v.duressAlarm) := by
  simp only [Wall.faultWords, tallyWords, slot, seconds, Wall.valueOf, Wall.denomination, Wall.setting, profile]

/-- A BUNDLE request at a fault ends its order (R98). -/
theorem Wall.Dispensing.faultBundle (h : w.Dispensing n x c t) :
    (w.faultRequest { lane := n, kind := .bundle }).Over n x (w.faultWords n x c { t with faulted := true })
      ∧ (w.faultRequest { lane := n, kind := .bundle }).tallyOf n = none
      ∧ ∀ k, ((w.faultRequest { lane := n, kind := .bundle }).cassettes.get k).reserved = (w.cassettes.get k).reserved - c.outstanding.get k := by
  have dropped : (w.dropRequest n .bundle).Dispensing n x c t := ⟨h.order, h.context, h.tally⟩
  exact (dropped.modTally fun t => { t with faulted := true }).faultedFinish rfl

/-- A RETRACT request at a fault ends the DISPENSE whose bundle is in the drawer: what is there is unresolved (R108, R113). -/
theorem Wall.Dispensing.faultRetract (h : w.Dispensing n x c t) :
    (w.faultRequest { lane := n, kind := .retract }).Over n x
        (w.faultWords n x c { t with unresolved := t.unresolved + c.inDrawer, faulted := true })
      ∧ (w.faultRequest { lane := n, kind := .retract }).tallyOf n = none := by
  have dropped : (w.retractDropped n).Dispensing n x c t := ⟨h.order, h.context, h.tally⟩
  obtain ⟨ended, gone, -⟩ := (dropped.modTally fun t => { t with unresolved := t.unresolved + c.inDrawer, faulted := true }).faultedFinish rfl
  show (w.dropRetract n .transportFault).Over n x _ ∧ (w.dropRetract n .transportFault).tallyOf n = none
  rw [Wall.dropRetract_eq]
  simp only [dropped.order, dropped.context, Option.map_some, Option.getD_some]
  exact ⟨ended, gone⟩

/-- The end of an order that is no DISPENSE (R12, R32). -/
theorem Wall.finishAt_over (t : DWord) (n : LaneId) (x : SlotId) (e : OrderEnd) (fields : List Word) (w : Wall) :
    (w.finishAt t (lanePage n) x e fields).Over n x (resultWords e (w.slot (lanePage n) x).tooLate t fields) := by
  refine ⟨by rw [Wall.finishAt_slot], by rw [Wall.finishAt_slot], ?_⟩
  rw [Wall.finishAt_lanes, tabMod_get_same]
  show (if (w.lanes.get n).owner = some x then none else (w.lanes.get n).owner) ≠ some x
  split
  · simp
  · next other => exact other

/-- A RETRACT request at a fault ends a RETRACT order that was never granted (R113; log 68). -/
theorem Wall.faultRetract_order (orderless : w.orderOf n .dispense = none) (order : w.orderOf n .retract = some x) :
    (w.faultRequest { lane := n, kind := .retract }).Over n x
      (resultWords .transportFault (w.slot (lanePage n) x).tooLate w.port.seconds [0#16, 0#16, 0#16, 0#16, 0#16]) := by
  have orderless' : (w.retractDropped n).orderOf n .dispense = none := orderless
  have order' : (w.retractDropped n).orderOf n .retract = some x := order
  show (w.dropRetract n .transportFault).Over n x _
  rw [Wall.dropRetract_eq]
  simp only [orderless', order']
  exact Wall.finishAt_over w.port.seconds n x .transportFault (retractFields BundleRecord.reset) (w.retractDropped n)

end

end Sys2Proof.Machine
end

section
/-! SUPPORT. How the orders on and about the path end at a fault (R98, R105, R108, R113 to R115): the granted retract, and the requests of the queue. -/

namespace Sys2Proof.Machine

/-! ### The marks that no result tells -/

theorem tallyWords_unmarked {c : DispenseContext} {s t : Tally} (h : s.unmarked = t.unmarked) (amount : Nat) (duress : Bool) :
    tallyWords c s amount duress = tallyWords c t amount duress := by
  have same : ∀ r : Tally, tallyWords c r amount duress = tallyWords c r.unmarked amount duress := fun _ => rfl
  rw [same, h, ← same]

theorem tallyWords_core {c d : DispenseContext} (h : c.core = d.core) (t : Tally) (amount : Nat) (duress : Bool) :
    tallyWords c t amount duress = tallyWords d t amount duress := by
  have same : ∀ e : DispenseContext, tallyWords e t amount duress = tallyWords e.core t amount duress := fun _ => rfl
  rw [same, h, ← same]

section
variable {n : LaneId} {x : SlotId} {c : DispenseContext} {t : Tally} {w : Wall}

/-! ### The granted retract (R113, R114, R115) -/

/-- The words of a RETRACT order that a fault ends (R115). -/
def BundleRecord.faultFields (b : BundleRecord) : List Word :=
  [word b.pieces, word b.pieces, word b.dest.code, word b.toRetract, word b.toReject]

theorem Wall.postForeign_frame (n : LaneId) (k : Nat) (w : Wall) :
    w.postForeign n k = { w with board := (w.postForeign n k).board, lost := (w.postForeign n k).lost } := by
  unfold Wall.postForeign
  split
  · rw [Wall.post_frame]
  · rfl

theorem Wall.SameNews.postForeign {v w : Wall} (h : v.SameNews w) (n : LaneId) (k : Nat) : (v.postForeign n k).SameNews (w.postForeign n k) := by
  unfold Wall.postForeign
  split
  · exact h.post _ _
  · exact h

/-- A granted retract that a fault ends finishes its RETRACT order, and posts the foreign pieces where there were any. -/
theorem Wall.reportRetract_order (orderless : w.orderOf n .dispense = none) (order : w.orderOf n .retract = some x) :
    (w.reportRetract n true).Over n x
        (resultWords (if (w.lanes.get n).bundle.stalled.isSome then .drawerJammed else .transportFault) (w.slot (lanePage n) x).tooLate
          (((w.lanes.get n).bundle.stalled.map Decision.seconds).getD w.port.seconds) (w.lanes.get n).bundle.faultFields)
      ∧ (w.reportRetract n true).SameNews (w.postForeign n (w.lanes.get n).bundle.pieces) := by
  have seconds : ((w.lanes.get n).bundle.stalled.getD w.decision).seconds
      = ((w.lanes.get n).bundle.stalled.map Decision.seconds).getD w.port.seconds := by
    cases (w.lanes.get n).bundle.stalled <;> rfl
  have same : (w.modBundle n fun b => { b with retracted := 0, foreign := b.pieces, phase := .none }).SameNews w := ⟨rfl, rfl, rfl⟩
  have news := same.postForeign n (w.lanes.get n).bundle.pieces
  have fields : retractFields ((w.modBundle n fun b => { b with retracted := 0, foreign := b.pieces, phase := .none }).lanes.get n).bundle
      = (w.lanes.get n).bundle.faultFields := by
    rw [Wall.modBundle, Wall.modLane_get_same]
    rfl
  have slot : (w.modBundle n fun b => { b with retracted := 0, foreign := b.pieces, phase := .none }).slot (lanePage n) x = w.slot (lanePage n) x := rfl
  unfold Wall.reportRetract
  simp only [orderless, order, fields, seconds, if_true]
  generalize (w.modBundle n fun b => { b with retracted := 0, foreign := b.pieces, phase := .none }) = v at *
  have told : (v.postForeign n (w.lanes.get n).bundle.pieces).slot (lanePage n) x = w.slot (lanePage n) x := by
    rw [Wall.postForeign_frame]
    exact slot
  rw [← told]
  refine ⟨Wall.finishAt_over _ _ _ _ _ _, .trans ?_ news⟩
  exact ⟨by rw [Wall.finishAt_frame], by rw [Wall.finishAt_frame], by rw [Wall.finishAt_frame]⟩

/-- The tally of a DISPENSE whose granted retract a fault ends (R113, R114). -/
def Tally.cutRetract (pieces notes : Nat) (t : Tally) : Tally :=
  { t with retracted := t.retracted + min pieces notes, foreign := t.foreign + (pieces - min pieces notes),
           unresolved := t.unresolved + (notes - min pieces notes) }

/-- A granted retract that a fault ends finishes its DISPENSE, with the rest of its bundle unresolved. -/
theorem Wall.Dispensing.reportRetract (h : w.Dispensing n x c t) :
    (w.reportRetract n true).Over n x
        (w.faultWords n x c { t.cutRetract (w.lanes.get n).bundle.pieces c.inDrawer with faulted := true })
      ∧ (w.reportRetract n true).tallyOf n = none := by
  have counted := h.modTally fun t => { t.cutRetract (w.lanes.get n).bundle.pieces c.inDrawer with faulted := true }
  have context := h.context
  have order := h.order
  unfold Wall.reportRetract
  simp only [order, context, Option.map_some, Option.getD_some, if_true, Bool.true_or, Bool.or_true]
  generalize cut : (((w.modTally n _).modBundle n _).postForeign n _) = v
  have path : v.Dispensing n x c { t.cutRetract (w.lanes.get n).bundle.pieces c.inDrawer with faulted := true }
      ∧ v.slot (lanePage n) x = w.slot (lanePage n) x ∧ v.profile = w.profile := by
    rw [← cut, Wall.postForeign_frame]
    exact ⟨⟨counted.order, counted.context, counted.tally⟩, rfl, rfl⟩
  obtain ⟨dispensing, slot, profile⟩ := path
  obtain ⟨ended, gone, -⟩ := dispensing.faultedEnd rfl w.decision (w.lanes.get n).bundle.stalled.isSome
  refine ⟨?_, gone⟩
  have value (k : Counts) : v.valueOf k = w.valueOf k := by simp only [Wall.valueOf, Wall.denomination, Wall.setting, profile]
  rw [slot, value] at ended
  exact ended

end

end Sys2Proof.Machine
end

section
/-! SUPPORT. From the wall before a fault to the one at which its orders end (R98): the notes of a lane, its drawer, the second, the profile and the duress alarm. -/

namespace Sys2Proof.Machine

section
variable {n : LaneId} {x : SlotId} {c : DispenseContext} {t : Tally} {jam : Bool} {v w : Wall}

/-! ### A DISPENSE carried to its end -/

/-- A DISPENSE reads the same but for the marks that no result tells. -/
structure Wall.Carried (w v : Wall) (n : LaneId) (x : SlotId) (c : DispenseContext) (t : Tally) (c' : DispenseContext) (t' : Tally) : Prop where
  dispensing : v.Dispensing n x c' t'
  core : c'.core = c.core
  tally : t'.unmarked = t.unmarked
  slot : (v.slot (lanePage n) x).tooLate = (w.slot (lanePage n) x).tooLate

theorem Wall.NotesStand.tooLate (h : w.NotesStand f n v) {k : Kind} (note : k.track = .note) (order : w.orderOf n k = some x) :
    (v.slot (lanePage n) x).tooLate = (w.slot (lanePage n) x).tooLate := by
  rw [h.note x (by rw [(Wall.orderOf_some order).2, Option.map_some, note])]

theorem Wall.Dispensing.carried (d : w.Dispensing n x c t) (h : w.NotesStand Tally.unmarked n v) : ∃ c' t', w.Carried v n x c t c' t' := by
  have context := h.context
  have tally := h.tally
  rw [d.context] at context
  rw [d.tally] at tally
  obtain ⟨c', context', core⟩ := Option.map_eq_some_iff.mp context
  obtain ⟨t', tally', marks⟩ := Option.map_eq_some_iff.mp tally
  exact ⟨c', t', ⟨(h.orderOf rfl).trans d.order, context', tally'⟩, core, marks, h.tooLate rfl d.order⟩

theorem Wall.Dispensing.outlastsLockdown (d : w.Dispensing n x c t) (phase : c.phase ≠ .drawerWait ∧ c.phase ≠ .bundleWait) : w.outlastsLockdown n :=
  .inr (.inr fun c' context => by
    rw [d.context] at context
    obtain rfl := Option.some.inj context
    exact phase)

/-- What a fault at such a wall tells of the DISPENSE, with a change of its tally that passes the marks by. -/
theorem Wall.Carried.words {c' : DispenseContext} {t' : Tally} (h : w.Carried v n x c t c' t') (seconds : v.port.seconds = w.port.seconds)
    (profile : v.profile = w.profile) (f : Tally → Tally) (passes : ∀ s, (f s).unmarked = f s.unmarked) (presented : ∀ s, (f s).presented = s.presented) :
    v.faultWords n x c' { f t' with faulted := true } =
      resultWords .transportFault (w.slot (lanePage n) x).tooLate w.port.seconds (tallyWords c (f t) (w.valueOf t.presented) v.duressAlarm) := by
  have counts : t'.presented = t.presented := (congrArg Tally.presented h.tally :)
  have same : (f t').unmarked = (f t).unmarked := by rw [passes, h.tally, ← passes]
  rw [Wall.faultWords_congr h.slot seconds profile, presented, counts, tallyWords_unmarked same, tallyWords_core h.core]

/-! ### The second, the profile and the duress alarm -/

theorem Wall.faultParted_kept (jam : Bool) (w : Wall) : (w.faultParted jam).transport.state = .faulted
    ∧ (w.faultParted jam).port.seconds = w.port.seconds ∧ (w.faultParted jam).profile = w.profile := by
  have parted := w.faultParted_spec jam
  have steps := (w.faultStopped_spec jam).steps
  refine ⟨?_, ?_, ?_⟩
  · rw [parted.transport]
    exact steps.stays (by rw [w.faultMarked_frame])
  · rw [parted.frame, steps.frame, w.faultMarked_frame]
  · rw [parted.frame, steps.frame, w.faultMarked_frame]

/-- The holder's end keeps the second, the profile and the zones, and so do the requests after it. -/
theorem Wall.faultEnded_kept (jam : Bool) (w : Wall) : (w.faultEnded jam).transport.state = .faulted
    ∧ (w.faultEnded jam).port.seconds = w.port.seconds ∧ (w.faultEnded jam).profile = w.profile
    ∧ (w.faultEnded jam).duressAlarm = (w.faultParted jam).duressAlarm ∧ ∀ r ∈ (w.faultEnded jam).transport.queue, r ∈ w.transport.queue := by
  obtain ⟨faulted, seconds, profile⟩ := w.faultParted_kept jam
  obtain ⟨f, move, port⟩ := Wall.faultHolder_move w.transport.join faulted
  have alarm := move.alarmStands
  have steps := (w.faultStopped_spec jam).steps
  have queue : ∀ r ∈ (w.faultParted jam).transport.queue, r ∈ w.transport.queue := by
    rw [(w.faultParted_spec jam).transport]
    refine fun r hr => ?_
    have waits := steps.queue r hr
    rwa [w.faultMarked_frame] at waits
  refine ⟨move.stays, alarm.seconds.trans (port.trans seconds), ?_, alarm.duressAlarm, fun r hr => queue r (move.queue r hr)⟩
  have same : (w.faultEnded jam).profile = ((w.faultParted jam).modPort f).profile := by
    unfold Wall.faultEnded
    rw [move.frame]
  exact same.trans profile

theorem Wall.faultRequests_move (l : List Request) (faulted : w.transport.state = .faulted) : w.FaultMove (l.foldl (fun w r => w.faultRequest r) w) :=
  (Wall.FaultMove.refl faulted).faultRequests

theorem Wall.faultEnded_duress (jam : Bool) (w : Wall) : (w.faultEnded jam).duressAlarm = (w.transportFault jam).duressAlarm := by
  obtain ⟨faulted, -⟩ := w.faultEnded_kept jam
  rw [Wall.transportFault_eq]
  exact (Wall.faultRequests_move _ faulted).alarmStands.duressAlarm.symm

/-! ### The drawer -/

theorem Wall.EndsInLane.drawer (h : w.EndsInLane n v) (m : LaneId) : (v.lanes.get m).drawer = (w.lanes.get m).drawer := by
  by_cases same : m = n
  · subst same
    rw [h.lane]
  · rw [h.otherLane m same]

theorem Wall.faultRequests_drawer (l : List Request) (m : LaneId) (w : Wall) :
    ((l.foldl (fun w r => w.faultRequest r) w).lanes.get m).drawer = (w.lanes.get m).drawer := by
  induction l generalizing w with
  | nil => rfl
  | cons r l ih => exact (ih _).trans ((Wall.LaneEnds.faultRequest r w).ends.drawer m)

theorem Wall.reportRetract_drawer (n m : LaneId) (fault : Bool) (w : Wall) : ((w.reportRetract n fault).lanes.get m).drawer = (w.lanes.get m).drawer := by
  have bundle (f : BundleRecord → BundleRecord) (k : Nat) (v : Wall) (h : v.lanes = w.lanes) :
      (((v.modBundle n f).postForeign n k).lanes.get m).drawer = (w.lanes.get m).drawer := by
    rw [Wall.postForeign_frame]
    exact ((Wall.LaneEnds.modBundle n f v).ends.drawer m).trans (by rw [h])
  unfold Wall.reportRetract
  dsimp only
  split
  · exact ((Wall.LaneEnds.finishDispenseAt ..).ends.drawer m).trans (bundle _ _ _ rfl)
  · split
    · exact ((Wall.LaneEnds.finishAt ..).ends.drawer m).trans (bundle _ _ _ rfl)
    · rfl

/-- The end of another holder of the join leaves the drawer. -/
theorem Wall.faultHolder_drawer {j : Join} (retract : j ≠ .retract n) (w : Wall) : ((w.faultHolder j).lanes.get n).drawer = (w.lanes.get n).drawer := by
  cases j with
  | none => rfl
  | dispense m =>
    have written : (w.writeBack.modGate fun g => { g with acceptEnable := false }).lanes = w.lanes := by
      unfold Wall.writeBack
      split <;> rfl
    unfold Wall.faultHolder
    dsimp only
    split
    · rw [written]
    · exact ((Wall.finishDispenseAt_ends _ m false _).drawer n).trans (by rw [written])
  | retract m =>
    have other : n ≠ m := fun same => retract (by rw [same])
    exact (Wall.reportRetract_drawer m n true _).trans (by rw [Wall.modLane_get_other _ _ other])
  | clearance =>
    unfold Wall.faultHolder
    dsimp only
    split
    · rw [Wall.finish, Wall.finishAt_service]
      rfl
    · rfl

/-! ### The notes of a lane up to the fault's parting -/

theorem Wall.faultParted_notes (quiet : w.pathAside n) (dispense : w.transport.join ≠ .dispense n)
    (outlasts : w.pointLocks (faultPoint jam) = false ∨ w.outlastsLockdown n) : w.NotesStand Tally.unmarked n (w.faultParted jam) := by
  have marked : w.Aside n w.faultMarked := Wall.faultMarked_aside dispense
  have stopped : w.faultMarked.NotesStand Tally.unmarked n (w.faultStopped jam) :=
    Wall.faultStopped_notes Tally.reads_unmarked (quiet.imp id .inl) (outlasts.imp id marked.outlastsLockdown)
  exact ((Wall.NotesStand.of_aside marked Tally.reads_unmarked).trans stopped).trans (.of_aside (Wall.faultParted_aside dispense) Tally.reads_unmarked)

theorem Wall.faultParted_follows (jam : Bool) (quiet : w.pathAside n) (dispense : w.transport.join ≠ .dispense n) :
    (w.lanes.get n).Follows ((w.faultParted jam).lanes.get n) := by
  rw [(Wall.faultParted_aside (jam := jam) dispense).lane]
  exact Wall.faultStopped_follows jam quiet

end

end Sys2Proof.Machine
end

section
/-! SUPPORT. The orders of a granted retract and of a clearance at a fault, and what the requests of the queue leave (R98, R99, R113 to R115). -/

namespace Sys2Proof.Machine

section
variable {n : LaneId} {x : SlotId} {jam : Bool} {w : Wall}

/-- The other lanes' requests leave a lane aside, from the holder's end to the fault's. -/
theorem Wall.faultEnded_aside (others : ∀ r ∈ w.transport.queue, r.lane ≠ n) : (w.faultEnded jam).Aside n (w.transportFault jam) := by
  obtain ⟨-, -, -, -, queue⟩ := w.faultEnded_kept jam
  rw [Wall.transportFault_eq]
  exact Wall.faultRequests_aside fun r hr => others r (queue r hr)

/-- The drawer of a granted retract at a fault: it rests, but where it is jammed (R113). -/
def Lane.retractRest (l : Lane) : Lane := { l with drawer := if l.drawer = .jammed then .jammed else l.restState }

theorem Wall.faultEnded_retract (join : w.transport.join = .retract n) :
    w.faultEnded jam = ((w.faultParted jam).modLane n Lane.retractRest).reportRetract n true := by
  rw [Wall.faultEnded, join]
  rfl

theorem Lane.Follows.retractRest {l k : Lane} (h : l.Follows k) :
    k.retractRest.drawer = if l.drawer = .jammed then .jammed else if l.itemSensor then .holding else .stowed := by
  have senses := h.senses
  simp only [Lane.senses, Prod.mk.injEq] at senses
  obtain ⟨-, -, -, sensor, -⟩ := senses
  have jammed : k.drawer = .jammed ↔ l.drawer = .jammed := by
    rcases h.drawer with same | ⟨was, closes⟩
    · rw [same]
    · rcases was with was | was <;> rw [was, closes] <;> simp
  simp only [Lane.retractRest, Lane.restState, jammed, sensor]

section
variable (join : w.transport.join = .retract n) (idle : w.gate.inPassage = false) (empty : w.gate.passages = [])
include join idle empty

theorem Wall.transportFault_retract_drawer (jam : Bool) :
    ((w.transportFault jam).lanes.get n).drawer =
      if (w.lanes.get n).drawer = .jammed then .jammed else if (w.lanes.get n).itemSensor then .holding else .stowed := by
  have follows := Wall.faultParted_follows (n := n) jam (.inl ⟨idle, empty⟩) (by simp [join])
  rw [Wall.transportFault_eq, Wall.faultRequests_drawer, Wall.faultEnded_retract join, Wall.reportRetract_drawer, Wall.modLane_get_same]
  exact follows.retractRest

/-- The granted retract of a RETRACT order ends, and the board hears of its foreign pieces. -/
theorem Wall.faultEnded_retract_order (orderless : w.orderOf n .dispense = none) (order : w.orderOf n .retract = some x) :
    (w.faultEnded jam).Over n x
        (resultWords (if (w.lanes.get n).bundle.stalled.isSome then .drawerJammed else .transportFault) (w.slot (lanePage n) x).tooLate
          (((w.lanes.get n).bundle.stalled.map Decision.seconds).getD w.port.seconds) (w.lanes.get n).bundle.faultFields)
      ∧ (w.faultEnded jam).SameNews ((w.faultParted jam).postForeign n (w.lanes.get n).bundle.pieces) := by
  have notes := Wall.faultParted_notes (jam := jam) (.inl ⟨idle, empty⟩) (by simp [join]) (.inr (.inl orderless))
  obtain ⟨-, seconds, -⟩ := w.faultParted_kept jam
  have orderless' := (notes.orderOf (k := .dispense) rfl).trans orderless
  have order' := (notes.orderOf (k := .retract) rfl).trans order
  have late := notes.tooLate (k := .retract) rfl order
  have bundle := notes.bundle
  rw [Wall.faultEnded_retract join]
  have same : ((w.faultParted jam).modLane n Lane.retractRest).SameNews (w.faultParted jam) := ⟨rfl, rfl, rfl⟩
  generalize w.faultParted jam = p at *
  have rested : ((p.modLane n Lane.retractRest).lanes.get n).bundle = (w.lanes.get n).bundle := by
    rw [Wall.modLane_get_same]
    exact bundle
  obtain ⟨ended, news⟩ := Wall.reportRetract_order (w := p.modLane n Lane.retractRest) orderless' order'
  rw [rested] at ended news
  refine ⟨?_, news.trans (same.postForeign _ _)⟩
  rw [← late, ← seconds]
  exact ended

/-- The granted retract of a DISPENSE ends (R113, R114). -/
theorem Wall.faultEnded_retract_dispense {c : DispenseContext} {t : Tally} (h : w.Dispensing n x c t)
    (outlasts : w.pointLocks (faultPoint jam) = false ∨ c.phase = .retracting) :
    (w.faultEnded jam).Over n x
        (resultWords .transportFault (w.slot (lanePage n) x).tooLate w.port.seconds
          (tallyWords c (t.cutRetract (w.lanes.get n).bundle.pieces c.inDrawer) (w.valueOf t.presented) (w.faultEnded jam).duressAlarm))
      ∧ (w.faultEnded jam).tallyOf n = none := by
  have notes := Wall.faultParted_notes (jam := jam) (.inl ⟨idle, empty⟩) (by simp [join]) (outlasts.imp id fun phase => h.outlastsLockdown (by simp [phase]))
  obtain ⟨-, seconds, profile⟩ := w.faultParted_kept jam
  obtain ⟨-, -, -, duress, -⟩ := w.faultEnded_kept jam
  obtain ⟨c', t', carried⟩ := h.carried notes
  have bundle := notes.bundle
  have held : c'.inDrawer = c.inDrawer := (congrArg DispenseContext.inDrawer carried.core :)
  have words := carried.words seconds profile (Tally.cutRetract (w.lanes.get n).bundle.pieces c.inDrawer) (fun _ => rfl) fun _ => rfl
  rw [duress, ← words, Wall.faultEnded_retract join]
  generalize w.faultParted jam = p at *
  have rested : ((p.modLane n Lane.retractRest).lanes.get n).bundle = (w.lanes.get n).bundle := by
    rw [Wall.modLane_get_same]
    exact bundle
  have dispensing : (p.modLane n Lane.retractRest).Dispensing n x c' t' := ⟨carried.dispensing.order, carried.dispensing.context, carried.dispensing.tally⟩
  have ended := dispensing.reportRetract
  rw [rested, held] at ended
  exact ended

end

/-! ### The clearance (R99, R100) -/

theorem Wall.faultRequests_service (l : List Request) (w : Wall) (x : SlotId) :
    (l.foldl (fun w r => w.faultRequest r) w).slot servicePage x = w.slot servicePage x := by
  induction l generalizing w with
  | nil => rfl
  | cons r l ih => exact (ih _).trans ((Wall.LaneEnds.faultRequest r w).page _ x (servicePage_ne_lanePage r.lane))

/-- The parting of the join leaves the service page, the port and what a clearance has seen. -/
theorem Wall.faultParted_clearance (jam : Bool) (join : w.transport.join = .clearance) :
    (∀ y, (w.faultParted jam).slot servicePage y = w.slot servicePage y) ∧ (w.faultParted jam).transport.seen = w.transport.seen
      ∧ (w.transportFault jam).transport.unaccounted = (w.faultParted jam).transport.unaccounted := by
  obtain ⟨f, move, -⟩ := w.transportFault_move jam
  have parted := w.faultParted_spec jam
  have steps := (w.faultStopped_spec jam).steps
  refine ⟨fun y => ?_, ?_, ?_⟩
  · have reached := Wall.faultReached_stopped (jam := jam) (w := w) (by simp [join])
    exact (congrArg (fun v => Wall.slot v servicePage y) reached).trans (w.faultStopped_service jam y)
  · rw [parted.transport, steps.transport, w.faultMarked_frame]
  · rw [move.transport]
    rfl

/-- A fault in a clearance readies the transport for taking and finishes its PATH RESET. -/
theorem Wall.transportFault_clearance (join : w.transport.join = .clearance) :
    (w.transportFault jam).port.transportReady = true ∧ ∀ y, w.pathReset 0 = some y →
      w.finishedWith (w.transportFault jam) servicePage y .transportFault
        [word w.transport.seen, word (w.transportFault jam).transport.unaccounted, 0#16] := by
  obtain ⟨faulted, -⟩ := w.faultEnded_kept jam
  obtain ⟨-, seconds, -⟩ := w.faultParted_kept jam
  obtain ⟨page, seen, unaccounted⟩ := Wall.faultParted_clearance jam join
  have port : (w.transportFault jam).port = (w.faultEnded jam).port := by
    have move := Wall.faultRequests_move (w.faultEnded jam).transport.queue faulted
    rw [Wall.transportFault_eq, move.frame]
  have slot (y : SlotId) : (w.transportFault jam).slot servicePage y = (w.faultEnded jam).slot servicePage y := by
    rw [Wall.transportFault_eq, Wall.faultRequests_service]
  have reset := Wall.pathReset_congr (m := 0) page
  have ended : w.faultEnded jam = (w.faultParted jam).faultHolder .clearance := by rw [Wall.faultEnded, join]
  unfold Wall.finishedWith
  simp only [port, slot, ended, unaccounted]
  generalize w.faultParted jam = p at *
  unfold Wall.faultHolder
  dsimp only
  have ready (y : SlotId) : (p.modPort fun q => { q with transportReady := true }).slot servicePage y = w.slot servicePage y := page y
  have reset' : (p.modPort fun q => { q with transportReady := true }).pathReset 0 = w.pathReset 0 := reset
  rw [reset']
  refine ⟨?_, fun y order => ?_⟩
  · split
    · rw [Wall.finish_frame]
      rfl
    · rfl
  · rw [order]
    dsimp only
    rw [Wall.finish, Wall.finishAt_slot, ready]
    refine ⟨rfl, ?_⟩
    simp only [Wall.clearanceFields, ← seen, ← seconds]
    rfl

end

end Sys2Proof.Machine
end

section
/-! SUPPORT. What a fault posts (R98, R79, R114). -/

namespace Sys2Proof.Machine

section
variable {n : LaneId} {x : SlotId} {jam : Bool} {w : Wall}

/-- What the point's zone posts as a fault makes it ACTIVE, and then the fault's own news (R98, R79; log 74). -/
def Wall.faultNews (jam : Bool) (w : Wall) : Wall :=
  if jam = true then (w.pointNews (faultPoint jam)).post .transportFault w.transport.join.faultCode
  else (w.pointNews (faultPoint jam)).post .encoderLoss w.gate.openPicks.length

theorem Wall.faultRequests_board (l : List Request) (w : Wall) :
    (l.foldl (fun w r => w.faultRequest r) w).board = w.board ∧ (l.foldl (fun w r => w.faultRequest r) w).lost = w.lost := by
  induction l generalizing w with
  | nil => exact ⟨rfl, rfl⟩
  | cons r l ih =>
    obtain ⟨board, lost⟩ := ih (w.faultRequest r)
    have ends := (Wall.LaneEnds.faultRequest r w).ends
    exact ⟨board.trans ends.board, lost.trans ends.lost⟩

/-- The end of a holder that is no retract posts nothing. -/
theorem Wall.faultHolder_board {j : Join} (other : ∀ n, j ≠ .retract n) : (w.faultHolder j).board = w.board ∧ (w.faultHolder j).lost = w.lost := by
  cases j with
  | none => exact ⟨rfl, rfl⟩
  | dispense m =>
    have written : (w.writeBack.modGate fun g => { g with acceptEnable := false }).board = w.board
        ∧ (w.writeBack.modGate fun g => { g with acceptEnable := false }).lost = w.lost := by
      unfold Wall.writeBack
      split <;> exact ⟨rfl, rfl⟩
    obtain ⟨board, lost⟩ := written
    unfold Wall.faultHolder
    dsimp only
    split
    · exact ⟨board, lost⟩
    · have ends := Wall.finishDispenseAt_ends (w.writeBack.modGate fun g => { g with acceptEnable := false }).decision m false
        (w.writeBack.modGate fun g => { g with acceptEnable := false })
      exact ⟨ends.board.trans board, ends.lost.trans lost⟩
  | retract m => exact absurd rfl (other m)
  | clearance =>
    unfold Wall.faultHolder
    dsimp only
    split
    · rw [Wall.finish_frame]
      exact ⟨rfl, rfl⟩
    · exact ⟨rfl, rfl⟩

section
variable (idle : w.gate.inPassage = false) (empty : w.gate.passages = [])
include idle empty

theorem Wall.faultParted_news (jam : Bool) : (w.faultParted jam).SameNews (w.faultNews jam) := by
  have stopped := Wall.faultStopped_news jam idle empty
  have parted : (w.faultParted jam).SameNews (w.faultStopped jam) := by
    rw [(w.faultParted_spec jam).frame]
    exact ⟨rfl, rfl, rfl⟩
  exact parted.trans stopped

theorem Wall.transportFault_news (jam : Bool) (other : ∀ n, w.transport.join ≠ .retract n) :
    (w.transportFault jam).board = (w.faultNews jam).board ∧ (w.transportFault jam).lost = (w.faultNews jam).lost := by
  have news := Wall.faultParted_news idle empty jam
  obtain ⟨board, lost⟩ := Wall.faultHolder_board (w := w.faultParted jam) other
  obtain ⟨board', lost'⟩ := Wall.faultRequests_board (w.faultEnded jam).transport.queue (w.faultEnded jam)
  rw [Wall.transportFault_eq]
  exact ⟨(board'.trans board).trans news.board, (lost'.trans lost).trans news.lost⟩

theorem Wall.transportFault_foreign (jam : Bool) (join : w.transport.join = .retract n) (orderless : w.orderOf n .dispense = none)
    (order : w.orderOf n .retract = some x) :
    (w.transportFault jam).board = ((w.faultNews jam).postForeign n (w.lanes.get n).bundle.pieces).board
      ∧ (w.transportFault jam).lost = ((w.faultNews jam).postForeign n (w.lanes.get n).bundle.pieces).lost := by
  obtain ⟨-, foreign⟩ := Wall.faultEnded_retract_order (jam := jam) join idle empty orderless order
  have news := foreign.trans ((Wall.faultParted_news idle empty jam).postForeign n (w.lanes.get n).bundle.pieces)
  obtain ⟨board, lost⟩ := Wall.faultRequests_board (w.faultEnded jam).transport.queue (w.faultEnded jam)
  rw [Wall.transportFault_eq]
  exact ⟨board.trans news.board, lost.trans news.lost⟩

end

end

end Sys2Proof.Machine
end

section
/-! SUPPORT. A DISPENSE that waits for the path as a fault's zone enters lockdown ends LOCKDOWN, before the fault ends what waits (R102; log 74). -/

namespace Sys2Proof.Machine

/-! ### An order that is over, in lockdown -/

section
variable {n : LaneId} {x : SlotId} {words : List Word} {w : Wall}

theorem Wall.Over.modLane (h : w.Over n x words) (f : Lane → Lane) (keeps : ∀ l : Lane, (f l).owner = l.owner) : (w.modLane n f).Over n x words := by
  refine h.of_kept (.of_eq rfl) ?_
  rw [Wall.modLane_get_same, keeps]
  exact h.owner

theorem Wall.Over.lockdownDeposit (h : w.Over n x words) : (w.lockdownDeposit n).Over n x words := by
  unfold Wall.lockdownDeposit
  split
  · exact h
  · next y order =>
    have other : x ≠ y := fun same => h.orderOf .deposit (same ▸ order)
    dsimp only
    split
    · exact h.of_kept (.of_eq (Wall.modSlot_slot_other _ _ fun here => other (Prod.mk.inj here).2)) h.owner
    · exact h.finishAt other _ _ _

theorem Wall.Over.closeByLockdown (h : w.Over n x words) : (w.closeByLockdown n).Over n x words := by
  have closed : (w.startClose n .lockdown).Over n x words := h.modLane _ fun _ => rfl
  rcases Wall.closeByLockdown_cases n w with ⟨-, -, e⟩ | ⟨-, e⟩ | e <;> rw [e]
  · rcases Wall.closeByOwner_cases n .lockdown w with ⟨-, e⟩ | ⟨-, e⟩ | ⟨-, e⟩ <;> rw [e]
    · exact closed.modLane _ fun _ => rfl
    · exact h.modLane _ fun _ => rfl
    · exact h
  · exact closed
  · exact h

theorem Wall.lockdownDeposit_tallies (n : LaneId) (w : Wall) : (w.lockdownDeposit n).engine.tallies = w.engine.tallies := by
  unfold Wall.lockdownDeposit
  split
  · rfl
  · dsimp only
    split
    · rfl
    · rw [Wall.finish_frame]

theorem Wall.closeByLockdown_tallies (n : LaneId) (w : Wall) : (w.closeByLockdown n).engine.tallies = w.engine.tallies := by
  rcases Wall.closeByLockdown_cases n w with ⟨-, -, e⟩ | ⟨-, e⟩ | e <;> rw [e]
  · rcases Wall.closeByOwner_cases n .lockdown w with ⟨-, e⟩ | ⟨-, e⟩ | ⟨-, e⟩ <;> rw [e] <;> rfl
  · rfl

end

section
variable {n : LaneId} {x : SlotId} {c : DispenseContext} {t : Tally} {jam : Bool} {v w : Wall}

/-- The result of a DISPENSE that lockdown ends, by the duress alarm's state (R102, R105). -/
def Wall.lockdownWords (w : Wall) (n : LaneId) (x : SlotId) (c : DispenseContext) (t : Tally) (duress : Bool) : List Word :=
  resultWords .lockdown (w.slot (lanePage n) x).tooLate w.port.seconds (tallyWords c t (w.valueOf t.presented) duress)

theorem dispenseOutcome_lockdown (sound : t.faulted = false) :
    dispenseOutcome false { c with endCause := .lockdown } { t with remixWait := false } = .lockdown := by
  simp [dispenseOutcome, sound]

/-- Lockdown ends a DISPENSE that waits for the path (R102). -/
theorem Wall.Dispensing.lockdownBundle (h : w.Dispensing n x c t) (faulted : w.transport.state = .faulted) (phase : c.phase = .bundleWait)
    (fresh : c.endCause = .none) (sound : t.faulted = false) :
    (w.lockdownDispense n).Over n x (w.lockdownWords n x c t w.duressAlarm) ∧ (w.lockdownDispense n).tallyOf n = none := by
  obtain ⟨b, begun⟩ := Wall.beginEnd_faulted n .lockdown faulted
  have open_end : w.endBegun n = false := by
    rw [h.endBegun, fresh, sound]
    rfl
  have marked := h.marked .lockdown
  have frame := Wall.markEnd_frame n .lockdown w
  have slot := Wall.markEnd_slot n .lockdown w (lanePage n) x
  have same : w.lockdownDispense n = (((w.markEnd n .lockdown).modGate fun g => { g with acceptEnable := b }).dropRequest n .bundle).finishDispense n false := by
    simp only [Wall.lockdownDispense, h.context, open_end, phase, begun]
    rfl
  rw [same]
  generalize w.markEnd n .lockdown = u at *
  have dropped : ((u.modGate fun g => { g with acceptEnable := b }).dropRequest n .bundle).Dispensing n x { c with endCause := .lockdown }
      { t with remixWait := false } := ⟨marked.order, marked.context, marked.tally⟩
  have decision : ((u.modGate fun g => { g with acceptEnable := b }).dropRequest n .bundle).decision = w.decision := by
    rw [frame]
    rfl
  have value (k : Counts) : ((u.modGate fun g => { g with acceptEnable := b }).dropRequest n .bundle).valueOf k = w.valueOf k := by
    rw [frame]
    rfl
  have late : (((u.modGate fun g => { g with acceptEnable := b }).dropRequest n .bundle).slot (lanePage n) x).tooLate = (w.slot (lanePage n) x).tooLate := by
    show (u.slot (lanePage n) x).tooLate = _
    rw [slot]
  rw [Wall.finishDispense, decision]
  generalize (u.modGate fun g => { g with acceptEnable := b }).dropRequest n .bundle = z at *
  obtain ⟨state, result, -, lanes, tally, -⟩ := Wall.finishDispenseAt_spec w.decision false dropped.order dropped.context dropped.tally
  refine ⟨⟨state, ?_, ?_⟩, tally⟩
  · rw [result, dispenseOutcome_lockdown sound, late, value]
    rfl
  · rw [lanes, tabMod_get_same]
    show (if (z.lanes.get n).owner = some x then none else (z.lanes.get n).owner) ≠ some x
    split
    · simp
    · next other => exact other

theorem Wall.Dispensing.lockdownLane (h : w.Dispensing n x c t) (faulted : w.transport.state = .faulted) (phase : c.phase = .bundleWait)
    (fresh : c.endCause = .none) (sound : t.faulted = false) :
    (w.lockdownLane n).Over n x (w.lockdownWords n x c t w.duressAlarm) ∧ (w.lockdownLane n).tallyOf n = none := by
  have shut : (w.laneShut n).Dispensing n x c t := ⟨h.order, h.context, h.tally⟩
  obtain ⟨ended, gone⟩ := shut.lockdownBundle faulted phase fresh sound
  rw [Wall.lockdownLane_eq]
  refine ⟨ended.lockdownDeposit.closeByLockdown, ?_⟩
  rw [Wall.tallyOf, Wall.closeByLockdown_tallies, Wall.lockdownDeposit_tallies]
  exact gone

/-- What lockdown tells of a DISPENSE is the same at a wall that leaves the lane aside. -/
theorem Wall.lockdownWords_congr {t' : Tally} (tally : t'.unmarked = t.unmarked) (slot : v.slot (lanePage n) x = w.slot (lanePage n) x)
    (seconds : v.port.seconds = w.port.seconds) (profile : v.profile = w.profile) (b : Bool) : v.lockdownWords n x c t' b = w.lockdownWords n x c t b := by
  have counts : t'.presented = t.presented := (congrArg Tally.presented tally :)
  simp only [Wall.lockdownWords, slot, seconds, Wall.valueOf, Wall.denomination, Wall.setting, profile, counts, tallyWords_unmarked tally]

/-- The point of a fault goes ACTIVE and its zone enters lockdown, which ends a DISPENSE that waits for the path. -/
theorem Wall.Dispensing.setInternal (h : w.Dispensing n x c t) {p : PointId} (hp : 12 ≤ p.val) (locks : w.pointLocks p = true)
    (faulted : w.transport.state = .faulted) (phase : c.phase = .bundleWait) (fresh : c.endCause = .none) (sound : t.faulted = false) :
    (w.setInternal p true).Over n x (w.lockdownWords n x c t (w.setInternal p true).duressAlarm) ∧ (w.setInternal p true).tallyOf n = none := by
  have met := Wall.Aside.pointMet n p w
  have frame := w.pointMet_frame p
  have state : (w.pointMet p).transport.state = .faulted := by rw [frame]; exact faulted
  obtain ⟨u, before, move, after, move'⟩ := Wall.eachLockdown_at n state
  have aside := met.trans before
  have seconds : u.port.seconds = w.port.seconds := by rw [move.frame, frame]
  have profile : u.profile = w.profile := by rw [move.frame, frame]
  obtain ⟨t', tally, marks⟩ := aside.tally_some h.tally
  have dispensing : u.Dispensing n x c t' := ⟨(aside.orderOf _).trans h.order, aside.contextOf.trans h.context, tally⟩
  have sound' : t'.faulted = false := (congrArg Tally.faulted marks :).trans sound
  obtain ⟨ended, gone⟩ := dispensing.lockdownLane move.stays phase fresh sound'
  have own := (Wall.LaneSteps.lockdownLane n move.stays).move move.stays
  have duress : (w.setInternal p true).duressAlarm = u.duressAlarm := by
    rw [Wall.setInternal_active hp, if_pos locks]
    exact move'.alarmStands.duressAlarm.trans own.alarmStands.duressAlarm
  rw [duress, Wall.setInternal_active hp, if_pos locks, ← Wall.lockdownWords_congr marks (aside.slot x) seconds profile]
  exact ⟨ended.of_aside after, after.tally_none gone⟩

end

end Sys2Proof.Machine
end

section
/-! SUPPORT. The orders whose requests wait in the queue as a fault comes (R98, R102, R108, R113; logs 68, 74). -/

namespace Sys2Proof.Machine

section
variable {n : LaneId} {x : SlotId} {c : DispenseContext} {t : Tally} {jam : Bool} {w : Wall}

/-! ### The bundle that lockdown has ended first (R102) -/

/-- A DISPENSE has ended by lockdown, with what the duress alarm then was (R102, R105). -/
def Wall.LockedOut (w : Wall) (n : LaneId) (x : SlotId) (c : DispenseContext) (t : Tally) (v : Wall) : Prop :=
  v.Over n x (w.lockdownWords n x c t v.duressAlarm) ∧ v.tallyOf n = none

theorem Wall.LockedOut.of_aside {u v : Wall} (h : w.LockedOut n x c t u) (aside : u.Aside n v) (zones : v.duressAlarm = u.duressAlarm) :
    w.LockedOut n x c t v := by
  obtain ⟨ended, gone⟩ := h
  refine ⟨?_, aside.tally_none gone⟩
  rw [zones]
  exact ended.of_aside aside

theorem Wall.StopKeeps.lockedOut (quiet : w.pathAside n) : w.StopKeeps (w.LockedOut n x c t) where
  store v v' h pages lanes engine _ queue zones _ :=
    h.of_aside (.of_stores (fun y => Wall.slot_congr pages _ y) lanes engine queue) (by simp only [Wall.duressAlarm, zones])
  close v state join inPassage passages h := by
    have aside := (Wall.StopKeeps.aside (u := v) quiet).close v state join inPassage passages (.refl n v)
    exact h.of_aside aside (Wall.closeGate_stands state).duressAlarm

/-- The zone of the fault's point takes the wall into lockdown, which ends a DISPENSE that waits for the path. -/
theorem Wall.Dispensing.faultStopped_locked (h : w.Dispensing n x c t) (quiet : w.pathAside n) (dispense : w.transport.join ≠ .dispense n)
    (locks : w.pointLocks (faultPoint jam) = true) (phase : c.phase = .bundleWait) (fresh : c.endCause = .none) (sound : t.faulted = false) :
    w.LockedOut n x c t (w.faultStopped jam) := by
  have aside : w.StopKeeps (w.Aside n) := .aside quiet
  have before : w.StopKeeps fun v => w.Aside n v ∧ v.profile = w.profile :=
    ⟨fun v v' hv pages lanes engine cassettes queue zones profile =>
        ⟨aside.store v v' hv.1 pages lanes engine cassettes queue zones profile, profile.trans hv.2⟩,
      fun v state join inPassage passages hv => by
        obtain ⟨f, move, -⟩ := Wall.closeGate_move state
        refine ⟨aside.close v state join inPassage passages hv.1, ?_⟩
        rw [move.frame]
        exact hv.2⟩
  refine Wall.faultStopped_induction jam before (.lockedOut quiet) ⟨Wall.faultMarked_aside dispense, by rw [w.faultMarked_frame]⟩ ?_
  rintro v state stands ⟨aside, profile⟩
  obtain ⟨t', tally, marks⟩ := aside.tally_some h.tally
  have dispensing : v.Dispensing n x c t' := ⟨(aside.orderOf _).trans h.order, aside.contextOf.trans h.context, tally⟩
  obtain ⟨ended, gone⟩ := dispensing.setInternal (faultPoint_internal jam) ((stands.pointAlarms _).2.1.trans locks) state phase fresh
    ((congrArg Tally.faulted marks :).trans sound)
  rw [Wall.lockdownWords_congr marks (aside.slot x) stands.seconds profile] at ended
  exact ⟨ended, gone⟩

theorem Wall.writeBack_keeps {words : List Word} (w : Wall) :
    (w.Over n x words → w.writeBack.Over n x words) ∧ w.writeBack.engine.tallies = w.engine.tallies := by
  cases loaded : w.engine.loaded with
  | none =>
    have same : w.writeBack = w := by simp only [Wall.writeBack, loaded]
    rw [same]
    exact ⟨id, rfl⟩
  | some l =>
    have moves := Wall.writeBack_moves (w := w) (n := l.lane) (by rw [loaded]; rfl)
    refine ⟨fun h => h.of_kept (moves.slot _ x) ?_, ?_⟩
    · rw [moves.frame]
      exact h.owner
    · simp only [Wall.writeBack, loaded]
      rfl

/-- An order that is over stays so as another holder of the join ends. -/
theorem Wall.Over.faultHolder {words : List Word} {j : Join} (h : w.Over n x words) (gone : w.tallyOf n = none) (retract : j ≠ .retract n)
    (dispense : j ≠ .dispense n) : (w.faultHolder j).Over n x words ∧ (w.faultHolder j).tallyOf n = none := by
  by_cases held : ∃ m, j = .dispense m
  · obtain ⟨m, rfl⟩ := held
    have other : n ≠ m := fun same => dispense (by rw [same])
    obtain ⟨written, tallies⟩ := w.writeBack_keeps (n := n) (x := x) (words := words)
    have cleared : (w.writeBack.modGate fun g => { g with acceptEnable := false }).Over n x words := (written h).of_aside (.modGate ..)
    have tally : (w.writeBack.modGate fun g => { g with acceptEnable := false }).tallyOf n = none := by
      show w.writeBack.engine.tallies.get n = none
      rw [tallies]
      exact gone
    unfold Wall.faultHolder
    dsimp only
    split
    · exact ⟨cleared, tally⟩
    · have aside := Wall.Aside.of_ends (.finishDispense m false (w.writeBack.modGate fun g => { g with acceptEnable := false })) other
      exact ⟨cleared.of_aside aside, aside.tally_none tally⟩
  · have aside := Wall.faultHolder_aside (w := w) retract dispense (.inr fun m same => held ⟨m, same⟩)
    exact ⟨h.of_aside aside, aside.tally_none gone⟩

/-- What lockdown has ended before the fault ends what waits stays as lockdown has left it (log 74). -/
theorem Wall.Dispensing.transportFault_locked (h : w.Dispensing n x c t) (dispense : w.transport.join ≠ .dispense n)
    (retract : w.transport.join ≠ .retract n) (locks : w.pointLocks (faultPoint jam) = true)
    (phase : c.phase = .bundleWait) (fresh : c.endCause = .none) (sound : t.faulted = false) :
    (w.transportFault jam).Over n x (w.lockdownWords n x c t (w.transportFault jam).duressAlarm) ∧ (w.transportFault jam).tallyOf n = none := by
  obtain ⟨ended, gone⟩ := h.faultStopped_locked (.inr ⟨retract, dispense⟩) dispense locks phase fresh sound
  have duress : (w.faultStopped jam).duressAlarm = (w.transportFault jam).duressAlarm := by
    obtain ⟨-, -, -, same, -⟩ := w.faultEnded_kept jam
    rw [← Wall.faultEnded_duress, same]
    exact (w.faultParted_spec jam).stands.duressAlarm.symm
  have parted := Wall.faultParted_aside (jam := jam) (w := w) dispense
  obtain ⟨ended, gone⟩ := (ended.of_aside parted).faultHolder (parted.tally_none gone) retract dispense
  rw [Wall.transportFault_eq] at duress ⊢
  rw [← duress]
  exact ⟨ended.faultRequests _, (Wall.faultRequests_tally_none _ gone).1⟩

end

end Sys2Proof.Machine
end

section
/-! SUPPORT. A request that waits as a fault comes ends its order (R98, R105, R108, R113; log 68). -/

namespace Sys2Proof.Machine

section
variable {n : LaneId} {x : SlotId} {c : DispenseContext} {t : Tally} {k : RequestKind} {jam : Bool} {w : Wall}

/-- The requests before the lane's first have met the fault; `rest` are those that have not, after it. -/
structure Wall.Reached (w u : Wall) (jam : Bool) (n : LaneId) (k : RequestKind) (rest : List Request) : Prop where
  aside : (w.faultEnded jam).Aside n u
  fault : w.transportFault jam = rest.foldl (fun w r => w.faultRequest r) (u.faultRequest { lane := n, kind := k })
  seconds : u.port.seconds = w.port.seconds
  profile : u.profile = w.profile
  duress : u.duressAlarm = (w.transportFault jam).duressAlarm
  rest : ∀ r ∈ rest, r ∈ w.transport.queue
  first : (∀ r ∈ w.transport.queue, r.lane = n) → u = w.faultEnded jam

/-- A request of the queue meets the fault once the other lanes' requests before it have. -/
theorem Wall.transportFault_reached (waits : { lane := n, kind := k } ∈ (w.faultEnded jam).transport.queue)
    (own : ∀ r ∈ w.transport.queue, r.lane = n → r.kind = k) : ∃ u rest, w.Reached u jam n k rest := by
  obtain ⟨faulted, seconds, profile, -, queue⟩ := w.faultEnded_kept jam
  obtain ⟨before, rest, split, fresh⟩ := List.eq_append_cons_of_mem waits
  have others : ∀ r ∈ before, r.lane ≠ n := fun r hr same => fresh (by
    have kind := own r (queue r (by rw [split]; exact List.mem_append_left _ hr)) same
    obtain ⟨lane, kind'⟩ := r
    obtain rfl : lane = n := same
    obtain rfl : kind' = k := kind
    exact hr)
  have move := Wall.faultRequests_move before faulted
  have alarm := move.alarmStands
  refine ⟨before.foldl (fun w r => w.faultRequest r) (w.faultEnded jam), rest, Wall.faultRequests_aside others, ?_, alarm.seconds.trans seconds, ?_,
    alarm.duressAlarm.trans (Wall.faultEnded_duress jam w), fun r hr => queue r ?_, fun same => ?_⟩
  · rw [Wall.transportFault_eq, split, List.foldl_append, List.foldl_cons]
  · rw [move.frame]
    exact profile
  · rw [split]
    exact List.mem_append_right _ (List.mem_cons_of_mem _ hr)
  · have none : before = [] := List.eq_nil_iff_forall_not_mem.mpr fun r hr =>
      others r hr (same r (queue r (by rw [split]; exact List.mem_append_left _ hr)))
    rw [none]
    rfl

/-- The order of a reached request has ended, and stays so to the end of the fault. -/
theorem Wall.Reached.over {u : Wall} {rest : List Request} (h : w.Reached u jam n k rest) {words : List Word}
    (ended : (u.faultRequest { lane := n, kind := k }).Over n x words) : (w.transportFault jam).Over n x words := by
  rw [h.fault]
  exact ended.faultRequests rest

theorem Wall.Reached.tally_none {u : Wall} {rest : List Request} (h : w.Reached u jam n k rest)
    (gone : (u.faultRequest { lane := n, kind := k }).tallyOf n = none) : (w.transportFault jam).tallyOf n = none := by
  rw [h.fault]
  exact (Wall.faultRequests_tally_none rest gone).1

/-! ### What waits, where no order of the lane holds the path -/

section
variable (retract : w.transport.join ≠ .retract n) (dispense : w.transport.join ≠ .dispense n)
include retract dispense

/-- Where the zone enters no lockdown a fault leaves the lane aside up to the requests. -/
theorem Wall.faultEnded_aside_free (unloaded : w.loadedIn n = none) (free : w.pointLocks (faultPoint jam) = false) : w.Aside n (w.faultEnded jam) := by
  have marked : w.Aside n w.faultMarked := Wall.faultMarked_aside dispense
  have parted := (marked.trans (Wall.faultStopped_aside (.inr ⟨retract, dispense⟩) free)).trans (Wall.faultParted_aside dispense)
  exact parted.trans (Wall.faultHolder_aside retract dispense (.inl (by rw [parted.loaded, unloaded])))

/-- What stands of the lane's notes up to the requests. -/
theorem Wall.faultEnded_notes (unloaded : w.loadedIn n = none) (outlasts : w.pointLocks (faultPoint jam) = false ∨ w.outlastsLockdown n) :
    w.NotesStand Tally.unmarked n (w.faultEnded jam) := by
  have parted := Wall.faultParted_notes (jam := jam) (.inr ⟨retract, dispense⟩) dispense outlasts
  have loaded := parted.loaded
  rw [unloaded] at loaded
  exact parted.trans (.of_aside (Wall.faultHolder_aside retract dispense (.inl (Option.map_eq_none_iff.mp loaded))) Tally.reads_unmarked)

/-- A queued BUNDLE's order ends (R98, R102). -/
theorem Wall.Dispensing.transportFault_bundle (h : w.Dispensing n x c t) (waits : { lane := n, kind := .bundle } ∈ w.transport.queue)
    (own : ∀ r ∈ w.transport.queue, r.lane = n → r.kind = .bundle) (unloaded : w.loadedIn n = none) (free : w.pointLocks (faultPoint jam) = false) :
    (w.transportFault jam).Over n x
        (resultWords .transportFault (w.slot (lanePage n) x).tooLate w.port.seconds
          (tallyWords c t (w.valueOf t.presented) (w.transportFault jam).duressAlarm))
      ∧ (w.transportFault jam).tallyOf n = none
      ∧ ((∀ r ∈ w.transport.queue, r.lane = n) →
        ∀ k, ((w.transportFault jam).cassettes.get k).reserved = ((w.faultEnded jam).cassettes.get k).reserved - c.outstanding.get k) := by
  have aside := Wall.faultEnded_aside_free retract dispense unloaded free
  have waits' : { lane := n, kind := .bundle } ∈ (w.faultEnded jam).transport.queue :=
    (Wall.mem_requestsOf.mp (aside.requests ▸ Wall.mem_requestsOf.mpr ⟨waits, rfl⟩)).1
  obtain ⟨u, rest, reached⟩ := Wall.transportFault_reached waits' own
  obtain ⟨c', t', carried⟩ := h.carried (.of_aside (aside.trans reached.aside) Tally.reads_unmarked)
  obtain ⟨ended, gone, released⟩ := carried.dispensing.faultBundle
  have words := carried.words reached.seconds reached.profile id (fun _ => rfl) fun _ => rfl
  rw [reached.duress] at words
  refine ⟨reached.over (words ▸ ended), reached.tally_none gone, fun same k => ?_⟩
  have outstanding : c'.outstanding = c.outstanding := (congrArg DispenseContext.outstanding carried.core :)
  rw [reached.fault, (Wall.faultRequests_tally_none rest gone).2 fun r hr => same r (reached.rest r hr), released, reached.first same, outstanding]

section
variable (waits : { lane := n, kind := .retract } ∈ w.transport.queue) (own : ∀ r ∈ w.transport.queue, r.lane = n → r.kind = .retract)
include waits own

omit retract dispense in
theorem Wall.NotesStand.retractReached (notes : w.NotesStand Tally.unmarked n (w.faultEnded jam)) :
    ∃ u rest, w.Reached u jam n .retract rest ∧ w.NotesStand Tally.unmarked n u := by
  have waits' := (Wall.mem_requestsOf.mp (notes.requests _ (Wall.mem_requestsOf.mpr ⟨waits, rfl⟩) rfl)).1
  obtain ⟨u, rest, reached⟩ := Wall.transportFault_reached waits' own
  exact ⟨u, rest, reached, notes.trans (.of_aside reached.aside Tally.reads_unmarked)⟩

/-- A queued RETRACT that was never granted ends its RETRACT order (R113; log 68). -/
theorem Wall.transportFault_retract_order (unloaded : w.loadedIn n = none) (orderless : w.orderOf n .dispense = none)
    (order : w.orderOf n .retract = some x) :
    (w.transportFault jam).Over n x
      (resultWords .transportFault (w.slot (lanePage n) x).tooLate w.port.seconds [0#16, 0#16, 0#16, 0#16, 0#16]) := by
  obtain ⟨u, rest, reached, notes⟩ := (Wall.faultEnded_notes (jam := jam) retract dispense unloaded (.inr (.inl orderless))).retractReached waits own
  have ended := Wall.faultRetract_order ((notes.orderOf (k := .dispense) rfl).trans orderless) ((notes.orderOf (k := .retract) rfl).trans order)
  rw [notes.tooLate (k := .retract) rfl order, reached.seconds] at ended
  exact reached.over ended

/-- A queued RETRACT ends the DISPENSE whose bundle is in the drawer (R108, R113). -/
theorem Wall.Dispensing.transportFault_retract (h : w.Dispensing n x c t) (unloaded : w.loadedIn n = none)
    (outlasts : w.pointLocks (faultPoint jam) = false ∨ c.phase = .retracting) :
    (w.transportFault jam).Over n x
        (resultWords .transportFault (w.slot (lanePage n) x).tooLate w.port.seconds
          (tallyWords c { t with unresolved := t.unresolved + c.inDrawer } (w.valueOf t.presented) (w.transportFault jam).duressAlarm))
      ∧ (w.transportFault jam).tallyOf n = none := by
  have notes := Wall.faultEnded_notes (jam := jam) retract dispense unloaded (outlasts.imp id fun phase => h.outlastsLockdown (by simp [phase]))
  obtain ⟨u, rest, reached, notes⟩ := notes.retractReached waits own
  obtain ⟨c', t', carried⟩ := h.carried notes
  obtain ⟨ended, gone⟩ := carried.dispensing.faultRetract
  have held : c'.inDrawer = c.inDrawer := (congrArg DispenseContext.inDrawer carried.core :)
  have words := carried.words reached.seconds reached.profile (fun s => { s with unresolved := s.unresolved + c.inDrawer }) (fun _ => rfl) fun _ => rfl
  rw [reached.duress] at words
  rw [held] at ended
  exact ⟨reached.over (words ▸ ended), reached.tally_none gone⟩

end

/-- The drawer of such a lane stands where lockdown does not close it. -/
theorem Wall.transportFault_drawer
    (still : w.pointLocks (faultPoint jam) = false ∨ ((w.lanes.get n).drawer ≠ .offered ∧ (w.lanes.get n).drawer ≠ .opening)) :
    ((w.transportFault jam).lanes.get n).drawer = (w.lanes.get n).drawer := by
  rw [Wall.transportFault_eq, Wall.faultRequests_drawer, Wall.faultEnded, Wall.faultHolder_drawer retract, (Wall.faultParted_aside dispense).lane]
  rcases still with free | ⟨offered, opening'⟩
  · have aside := (Wall.faultMarked_aside dispense).trans (Wall.faultStopped_aside (.inr ⟨retract, dispense⟩) free)
    rw [aside.lane]
  · rcases (Wall.faultStopped_follows jam (.inr ⟨retract, dispense⟩)).drawer with same | ⟨was, -⟩
    · exact same
    · simp [offered, opening'] at was

end

end

end Sys2Proof.Machine
end

section
/-! SUPPORT. The DISPENSE that holds the path as a fault comes (R95, R98, R105; logs 17, 28). -/

namespace Sys2Proof.Machine

theorem Counts.eq_zero_of_total {v : Counts} (h : Counts.total v = 0) : v = Counts.zero := by
  refine tab_ext fun i => ?_
  have none : v.get i = 0 := by
    unfold Counts.total at h
    fin_cases i <;> simp only [Fin.zero_eta, Fin.mk_one, Fin.reduceFinMk] <;> omega
  rw [none]
  fin_cases i <;> rfl

/-! ### The dump at a fault (R97, R98) -/

theorem dumpAtFault_empty {t : Transport} (holder : Option LaneId) (h : t.stackerCount = 0) : dumpAtFault holder t = none := if_pos h

theorem dumpAtFault_zero {t : Transport} (holder : Option LaneId) (h : t.composition = Counts.zero) : dumpAtFault holder t = none :=
  dumpAtFault_empty holder (by rw [Transport.stackerCount, h]; rfl)

theorem dumpAtFault_congr {s t : Transport} (holder : Option LaneId) (composition : s.composition = t.composition) (dump : s.dump = t.dump) :
    dumpAtFault holder s = dumpAtFault holder t := by
  unfold dumpAtFault
  rw [Transport.stackerCount, composition, dump]
  rfl

theorem dumpAtFault_notes {t : Transport} (holder : Option LaneId) (h : 0 < t.stackerCount) (tenure : ∀ d, t.dump = some d → d.purpose = .tenure) :
    dumpAtFault holder t = some { purpose := .fault holder, leftMs := (t.dump.map Dump.leftMs).getD 1500 } := by
  rw [dumpAtFault, if_neg (by omega)]
  cases dump : t.dump with
  | none => rfl
  | some d =>
    dsimp only
    rw [tenure d dump]
    rfl

section
variable {n : LaneId} {x : SlotId} {c : DispenseContext} {t : Tally} {jam : Bool} {u v w : Wall}

/-! ### The loaded context is written back, and the order ends or waits for the dump -/

/-- A DISPENSE that a fault has reached holds the path: its context is the loaded one. -/
structure Wall.HoldsPath (w : Wall) (n : LaneId) (x : SlotId) (c : DispenseContext) (t : Tally) : Prop where
  dispensing : w.Dispensing n x c t
  faulted : t.faulted = true
  loaded : (w.loadedIn n).map Loaded.slot = some x

/-- The holder of the path is out of the engine (R91). -/
def Wall.holderWritten (w : Wall) : Wall := w.writeBack.modGate fun g => { g with acceptEnable := false }

theorem Wall.holderWritten_frame (w : Wall) : w.holderWritten =
    { w with pages := w.holderWritten.pages, engine := { w.engine with loaded := none }, gate := { w.gate with acceptEnable := false } } := by
  unfold Wall.holderWritten Wall.writeBack
  split
  · rfl
  · next loaded => rw [← loaded]; rfl

theorem Wall.holderWritten_kept (n : LaneId) (x : SlotId) (w : Wall) : w.SlotKept n x w.holderWritten := w.endTenure_slot (lanePage n) x

theorem Wall.HoldsPath.written (h : w.HoldsPath n x c t) : w.holderWritten.Dispensing n x c t := by
  obtain ⟨l, own, slot⟩ := Option.map_eq_some_iff.mp h.loaded
  obtain ⟨loaded, lane⟩ := Option.filter_eq_some_iff.mp own
  have ended := h.dispensing.endTenure loaded (by simpa using lane) slot
  exact ⟨ended.order, ended.context, ended.tally⟩

theorem Wall.faultHolder_dispense (n : LaneId) (w : Wall) :
    w.faultHolder (.dispense n) =
      if (w.transport.dump.map Dump.purpose) = some (.fault (some n)) then w.holderWritten else w.holderWritten.finishDispense n false := by
  have transport : w.holderWritten.transport = w.transport := by rw [w.holderWritten_frame]
  rw [← transport]
  rfl

/-- Whether its order ends or waits for the dump, the holder of the path is out of the engine, accept enable is off and the drawer stands. -/
theorem Wall.faultHolder_released (n : LaneId) (w : Wall) :
    (w.faultHolder (.dispense n)).engine.loaded = none ∧ (w.faultHolder (.dispense n)).gate.acceptEnable = false
      ∧ ((w.faultHolder (.dispense n)).lanes.get n).drawer = (w.lanes.get n).drawer := by
  have written : w.holderWritten.engine.loaded = none ∧ w.holderWritten.gate.acceptEnable = false ∧ w.holderWritten.lanes = w.lanes := by
    rw [w.holderWritten_frame]
    exact ⟨rfl, rfl, rfl⟩
  obtain ⟨loaded, accept, lanes⟩ := written
  rw [Wall.faultHolder_dispense]
  split
  · exact ⟨loaded, accept, by rw [lanes]⟩
  · have ends := Wall.finishDispenseAt_ends w.holderWritten.decision n false w.holderWritten
    refine ⟨(Wall.finishDispenseAt_loaded _ false (by simp [loaded])).trans loaded, ?_, (ends.drawer n).trans (by rw [lanes])⟩
    rw [Wall.finishDispense, ends.frame]
    exact accept

/-- With no dump for it the order ends at the fault (R98, R105). -/
theorem Wall.HoldsPath.faultHolder (h : w.HoldsPath n x c t) (empty : w.transport.dump = none) :
    (w.faultHolder (.dispense n)).Over n x (w.faultWords n x c t) ∧ (w.faultHolder (.dispense n)).tallyOf n = none
      ∧ ∀ k, ((w.faultHolder (.dispense n)).cassettes.get k).reserved = (w.cassettes.get k).reserved - c.outstanding.get k := by
  have ended := h.written.faultedFinish h.faulted
  have frame := w.holderWritten_frame
  have slot := w.holderWritten_kept n x
  rw [Wall.faultHolder_dispense, if_neg (by simp [empty])]
  have words : w.holderWritten.faultWords n x c t = w.faultWords n x c t := by
    have late : (w.holderWritten.slot (lanePage n) x).tooLate = (w.slot (lanePage n) x).tooLate := by rw [slot]
    unfold Wall.faultWords
    rw [late, frame]
    rfl
  have cassettes : w.holderWritten.cassettes = w.cassettes := by rw [frame]
  rwa [words, cassettes] at ended

/-- With a dump for it the order waits for the dump's end (R98). -/
theorem Wall.HoldsPath.faultHolder_waits (h : w.HoldsPath n x c t) (dump : w.transport.dump.map Dump.purpose = some (.fault (some n))) :
    (w.faultHolder (.dispense n)).Dispensing n x c t ∧ w.SlotKept n x (w.faultHolder (.dispense n)) := by
  rw [Wall.faultHolder_dispense, if_pos dump]
  exact ⟨h.written, w.holderWritten_kept n x⟩

/-! ### Up to the fault's parting -/

theorem Wall.faultMarked_tally (join : w.transport.join = .dispense n) :
    w.faultMarked.tallyOf n = (w.tallyOf n).map fun t => { t with faulted := true, remixWait := false } := by
  unfold Wall.faultMarked
  simp only [join]
  exact tabMod_get_same ..

/-- The DISPENSE that holds the path as a fault comes. -/
structure Wall.Held (w : Wall) (n : LaneId) (x : SlotId) (c : DispenseContext) (t : Tally) : Prop where
  join : w.transport.join = .dispense n
  dispensing : w.Dispensing n x c t
  loaded : (w.loadedIn n).map Loaded.slot = some x

/-- It still holds the path as the path has stopped, its tally but for the rejects counted with nothing in the gate. -/
structure Wall.StillHeld (w v : Wall) (n : LaneId) (x : SlotId) (c : DispenseContext) (t : Tally) (c' : DispenseContext) (t' : Tally) : Prop where
  holds : v.HoldsPath n x c' t'
  core : c'.core = c.core
  kept : w.SlotKept n x v
  tally : w.gate.inPassage = false → w.gate.passages = [] → t'.unmarked = { t.unmarked with faulted := true }

theorem Wall.Held.faultStopped (h : w.Held n x c t) (jam : Bool) : ∃ c' t', w.StillHeld (w.faultStopped jam) n x c t c' t' := by
  have marked := w.faultMarked_frame
  have tally : w.faultMarked.tallyOf n = some { t with faulted := true, remixWait := false } := by
    rw [Wall.faultMarked_tally h.join, h.dispensing.tally]
    rfl
  have order : w.faultMarked.orderOf n .dispense = some x := by rw [(w.faultMarked_notes n).2, h.dispensing.order]
  have context : w.faultMarked.contextOf n = some c := by rw [(w.faultMarked_notes n).1, h.dispensing.context]
  have loaded : (w.faultMarked.loadedIn n).map Loaded.slot = some x := by
    rw [← h.loaded, marked]
    rfl
  have outlasts : w.faultMarked.outlastsLockdown n := .inr (.inl (by rw [tally]; rfl))
  have slot : w.SlotKept n x w.faultMarked := .of_eq (by rw [marked]; rfl)
  have notes := Wall.faultStopped_notes (jam := jam) Tally.reads_faulted (.inr (.inr ⟨fun _ _ => rfl, by simp [h.join]⟩)) (.inr outlasts)
  have context' := notes.context
  have tally' := notes.tally
  rw [context] at context'
  rw [tally] at tally'
  obtain ⟨c', context', core⟩ := Option.map_eq_some_iff.mp context'
  obtain ⟨t', tally', faulted⟩ := Option.map_eq_some_iff.mp tally'
  refine ⟨c', t', ⟨⟨(notes.orderOf rfl).trans order, context', tally'⟩, faulted, notes.loaded.trans loaded⟩, core,
    slot.trans (notes.note x (by rw [(Wall.orderOf_some order).2]; rfl)), fun idle empty => ?_⟩
  have same := (Wall.faultStopped_notes (jam := jam) Tally.reads_unmarked (.inl ⟨idle, empty⟩) (.inr outlasts)).tally
  rw [tally, tally'] at same
  exact Option.some.inj same

end

end Sys2Proof.Machine
end

section
/-! SUPPORT. What a fault leaves of the DISPENSE that holds the path: it ends at once, or waits for the stacker's dump (R95, R98, R105; logs 17, 28). -/

namespace Sys2Proof.Machine

section
variable {n : LaneId} {x : SlotId} {c c' : DispenseContext} {t t' : Tally} {jam : Bool} {v w : Wall}

/-! ### The delivery that the fault has reached (R95) -/

/-- The tally as the parting of the join finds it: a delivery's notes are presented and unresolved. -/
def Wall.partedTally (v : Wall) (c : DispenseContext) (t : Tally) : Tally :=
  if c.phase = .delivering then t.cutDelivery v.transport.composition else t

/-- The parting of the join leaves the order at the path. -/
structure Wall.PartedHeld (w v p : Wall) (n : LaneId) (x : SlotId) (c : DispenseContext) (t : Tally) : Prop where
  holds : p.HoldsPath n x c (v.partedTally c t)
  slot : p.slot (lanePage n) x = v.slot (lanePage n) x
  composition : p.transport.composition = if c.phase = .delivering then Counts.zero else w.transport.composition
  dump : p.transport.dump = if c.phase = .delivering then none else dumpAtFault (some n) w.transport
  cassettes : p.cassettes = v.cassettes
  drawer : (p.lanes.get n).drawer =
    if c.phase = .delivering then (if (v.lanes.get n).itemSensor then .holding else (v.lanes.get n).drawer) else (v.lanes.get n).drawer

theorem Wall.StillHeld.parted (h : w.StillHeld (w.faultStopped jam) n x c t c' t') (join : w.transport.join = .dispense n) :
    w.PartedHeld (w.faultStopped jam) (w.faultParted jam) n x c' t' := by
  have steps := (w.faultStopped_spec jam).steps
  have path : (w.faultStopped jam).transport.composition = w.transport.composition ∧ (w.faultStopped jam).transport.dump = w.transport.dump := by
    rw [steps.transport, w.faultMarked_frame]
    exact ⟨rfl, rfl⟩
  obtain ⟨composition, dump⟩ := path
  have holds := h.holds
  have dispensing := holds.dispensing
  have reached : w.faultReached jam = (w.faultStopped jam).faultDelivery n := by simp only [Wall.faultReached, join]
  have lane : w.transport.join.dispenseLane = some n := by rw [join]; rfl
  unfold Wall.faultParted
  rw [reached, lane]
  generalize w.faultStopped jam = v at *
  by_cases phase : c'.phase = .delivering
  · rw [Wall.faultDelivery_delivering dispensing.context phase]
    have cut := dispensing.modTally (Tally.cutDelivery v.transport.composition)
    have tally : v.partedTally c' t' = t'.cutDelivery v.transport.composition := if_pos phase
    refine ⟨?_, rfl, (if_pos phase).symm, ?_, rfl, ?_⟩
    · rw [tally]
      exact ⟨⟨cut.order, cut.context, cut.tally⟩, holds.faulted, holds.loaded⟩
    · rw [if_pos phase]
      exact dumpAtFault_zero (t := { v.transport with composition := Counts.zero }) (some n) rfl
    · show ((tabMod v.lanes n _).get n).drawer = _
      rw [tabMod_get_same, if_pos phase]
  · have other : v.faultDelivery n = v := Wall.faultDelivery_other fun d context => by
      rw [dispensing.context] at context
      obtain rfl := Option.some.inj context
      exact phase
    rw [other]
    have tally : v.partedTally c' t' = t' := if_neg phase
    refine ⟨?_, rfl, ?_, ?_, rfl, (if_neg phase).symm⟩
    · rw [tally]
      exact ⟨⟨dispensing.order, dispensing.context, dispensing.tally⟩, holds.faulted, holds.loaded⟩
    · rw [if_neg phase]
      exact composition
    · rw [if_neg phase]
      exact dumpAtFault_congr (some n) composition dump

/-! ### To the end of the fault -/

theorem Wall.faultRequests_unloaded (l : List Request) {w : Wall} (h : w.engine.loaded = none) :
    (l.foldl (fun w r => w.faultRequest r) w).engine.loaded = none := by
  induction l generalizing w with
  | nil => exact h
  | cons r l ih =>
    have finished (v : Wall) (hv : v.engine.loaded = none) : (v.finishDispense r.lane false).engine.loaded = none :=
      (Wall.finishDispenseAt_loaded _ false (by simp [hv])).trans hv
    have requested : (w.faultRequest r).engine.loaded = none := by
      unfold Wall.faultRequest
      split
      · exact finished _ h
      · rw [Wall.dropRetract_eq]
        split
        · exact finished _ h
        · split
          · rw [Wall.finish_frame]
            exact h
          · exact h
    exact ih requested

theorem Wall.faultRequests_gate (l : List Request) (w : Wall) : (l.foldl (fun w r => w.faultRequest r) w).gate = w.gate := by
  induction l generalizing w with
  | nil => rfl
  | cons r l ih =>
    rw [List.foldl_cons, ih, (Wall.LaneEnds.faultRequest r w).ends.frame]

/-- After a fault the order that held the path is out of the engine, and accept enable is off. -/
theorem Wall.transportFault_released (join : w.transport.join = .dispense n) :
    (w.transportFault jam).gate.acceptEnable = false ∧ (w.transportFault jam).engine.loaded = none := by
  obtain ⟨loaded, accept, -⟩ := Wall.faultHolder_released n (w.faultParted jam)
  rw [Wall.transportFault_eq, Wall.faultRequests_gate, Wall.faultEnded, join]
  exact ⟨accept, Wall.faultRequests_unloaded _ loaded⟩

theorem Wall.transportFault_dump (jam : Bool) (w : Wall) : (w.transportFault jam).transport.dump = (w.faultParted jam).transport.dump
    ∧ (w.transportFault jam).transport.composition = (w.faultParted jam).transport.composition := by
  obtain ⟨f, move, -⟩ := w.transportFault_move jam
  rw [move.transport]
  exact ⟨rfl, rfl⟩

/-- With an empty stacker, or in a delivery, the order ends at the fault. -/
theorem Wall.PartedHeld.empties (h : w.PartedHeld v (w.faultParted jam) n x c t) (empty : w.transport.stackerCount = 0 ∨ c.phase = .delivering) :
    (w.faultParted jam).transport.dump = none ∧ (w.faultParted jam).transport.composition = Counts.zero := by
  have composition : (w.faultParted jam).transport.composition = Counts.zero := by
    rw [h.composition]
    split
    · rfl
    · next other => exact Counts.eq_zero_of_total (empty.resolve_right other)
  refine ⟨?_, composition⟩
  rw [h.dump]
  split
  · rfl
  · next other => exact dumpAtFault_empty _ (empty.resolve_right other)

/-- With notes in the stacker and no delivery, the order waits for the stacker's dump. -/
theorem Wall.PartedHeld.dumps (h : w.PartedHeld v (w.faultParted jam) n x c t) (notes : 0 < w.transport.stackerCount) (other : c.phase ≠ .delivering)
    (tenure : ∀ d, w.transport.dump = some d → d.purpose = .tenure) :
    (w.faultParted jam).transport.dump = some { purpose := .fault (some n), leftMs := (w.transport.dump.map Dump.leftMs).getD 1500 }
      ∧ (w.faultParted jam).transport.composition = w.transport.composition := by
  have composition : (w.faultParted jam).transport.composition = w.transport.composition := by rw [h.composition, if_neg other]
  refine ⟨?_, composition⟩
  rw [h.dump, if_neg other]
  exact dumpAtFault_notes _ notes tenure

end

end Sys2Proof.Machine
end

section
/-! SUPPORT. The end of the DISPENSE that holds the path as a fault comes, as the wall after the fault shows it (R95, R98, R105). -/

namespace Sys2Proof.Machine

section
variable {n : LaneId} {x : SlotId} {c c' : DispenseContext} {t t' : Tally} {jam : Bool} {v w : Wall}

/-- What the fault tells of the order that held the path, by its own context and tally. -/
theorem Wall.faultWords_held (core : c'.core = c.core) (tally : t'.unmarked = { t.unmarked with faulted := true })
    (late : (v.slot (lanePage n) x).tooLate = (w.slot (lanePage n) x).tooLate) (seconds : v.port.seconds = w.port.seconds)
    (profile : v.profile = w.profile) : v.faultWords n x c' t' =
      resultWords .transportFault (w.slot (lanePage n) x).tooLate w.port.seconds (tallyWords c t (w.valueOf t.presented) v.duressAlarm) := by
  have counts : t'.presented = t.presented := (congrArg Tally.presented tally :)
  have same : t'.unmarked = ({ t with faulted := true } : Tally).unmarked := tally
  simp only [Wall.faultWords, late, seconds, Wall.valueOf, Wall.denomination, Wall.setting, profile, counts, tallyWords_unmarked same,
    tallyWords_core core]
  rfl

theorem Wall.faultParted_duress (jam : Bool) (w : Wall) : (w.faultParted jam).duressAlarm = (w.transportFault jam).duressAlarm := by
  obtain ⟨-, -, -, same, -⟩ := w.faultEnded_kept jam
  rw [← Wall.faultEnded_duress, same]

namespace Wall.StillHeld

theorem late (h : w.StillHeld (w.faultStopped jam) n x c t c' t') (join : w.transport.join = .dispense n) :
    ((w.faultParted jam).slot (lanePage n) x).tooLate = (w.slot (lanePage n) x).tooLate := by
  rw [(h.parted join).slot, h.kept]

/-- With an empty stacker, or in a delivery, the order is over after the fault. -/
theorem ended (h : w.StillHeld (w.faultStopped jam) n x c t c' t') (join : w.transport.join = .dispense n)
    (others : ∀ r ∈ w.transport.queue, r.lane ≠ n) (empty : w.transport.stackerCount = 0 ∨ c'.phase = .delivering) :
    (w.transportFault jam).Over n x ((w.faultParted jam).faultWords n x c' ((w.faultStopped jam).partedTally c' t'))
      ∧ (w.transportFault jam).tallyOf n = none
      ∧ (w.transport.queue = [] → ∀ k, ((w.transportFault jam).cassettes.get k).reserved =
        ((w.faultStopped jam).cassettes.get k).reserved - c'.outstanding.get k) := by
  have parted := h.parted join
  obtain ⟨dump, -⟩ := parted.empties empty
  obtain ⟨ended, gone, released⟩ := parted.holds.faultHolder dump
  have aside := Wall.faultEnded_aside (jam := jam) others
  obtain ⟨-, -, -, -, queue⟩ := w.faultEnded_kept jam
  have held : w.faultEnded jam = (w.faultParted jam).faultHolder (.dispense n) := by rw [Wall.faultEnded, join]
  rw [← held] at ended gone released
  refine ⟨ended.of_aside aside, aside.tally_none gone, fun idle k => ?_⟩
  have nothing : (w.faultEnded jam).transport.queue = [] :=
    List.eq_nil_iff_forall_not_mem.mpr fun r hr => by simpa [idle] using queue r hr
  rw [Wall.transportFault_eq, nothing, ← parted.cassettes]
  exact released k

/-- With notes in the stacker and no delivery, the order stands, and its tally knows the fault. -/
theorem stands (h : w.StillHeld (w.faultStopped jam) n x c t c' t') (join : w.transport.join = .dispense n)
    (others : ∀ r ∈ w.transport.queue, r.lane ≠ n) (dump : (w.faultParted jam).transport.dump.map Dump.purpose = some (.fault (some n))) :
    ((w.transportFault jam).slot (lanePage n) x).state = (w.slot (lanePage n) x).state
      ∧ ((w.transportFault jam).tallyOf n).map Tally.faulted = some true := by
  have parted := h.parted join
  obtain ⟨waits, kept⟩ := parted.holds.faultHolder_waits dump
  have aside := Wall.faultEnded_aside (jam := jam) others
  have held : w.faultEnded jam = (w.faultParted jam).faultHolder (.dispense n) := by rw [Wall.faultEnded, join]
  rw [← held] at waits kept
  obtain ⟨s, tally, marks⟩ := aside.tally_some waits.tally
  have faulted : s.faulted = true := (congrArg Tally.faulted marks :).trans parted.holds.faulted
  refine ⟨?_, by rw [tally, Option.map_some, faulted]⟩
  rw [aside.slot, kept.state, parted.slot, h.kept.state]

/-- After a fault in a delivery with nothing in the gate the drawer is HOLDING where it shows an item (R95). -/
theorem drawer (h : w.StillHeld (w.faultStopped jam) n x c t c' t') (join : w.transport.join = .dispense n) (phase : c'.phase = .delivering)
    (quiet : w.pathAside n)
    (still : w.pointLocks (faultPoint jam) = false ∨ ((w.lanes.get n).drawer ≠ .offered ∧ (w.lanes.get n).drawer ≠ .opening)) :
    ((w.transportFault jam).lanes.get n).drawer = if (w.lanes.get n).itemSensor then .holding else (w.lanes.get n).drawer := by
  have follows := Wall.faultStopped_follows (n := n) jam quiet
  have senses := follows.senses
  simp only [Lane.senses, Prod.mk.injEq] at senses
  obtain ⟨-, -, -, sensor, -⟩ := senses
  have same : ((w.faultStopped jam).lanes.get n).drawer = (w.lanes.get n).drawer := by
    rcases still with free | ⟨offered, opening'⟩
    · rw [(Wall.faultStopped_aside quiet free).lane, w.faultMarked_frame]
    · rcases follows.drawer with same | ⟨was, -⟩
      · exact same
      · simp [offered, opening'] at was
  obtain ⟨-, -, held⟩ := Wall.faultHolder_released n (w.faultParted jam)
  rw [Wall.transportFault_eq, Wall.faultRequests_drawer, Wall.faultEnded, join, held, (h.parted join).drawer, if_pos phase, sensor, same]

end Wall.StillHeld

end

end Sys2Proof.Machine
end

section
/-! SUPPORT. What a fault takes into the unaccounted count: the estimates of the exit watch, as the closing of the gate has settled them (R80, R98). -/

namespace Sys2Proof.Machine

/-! ### The watch entries that the closing of the gate settles -/

/-- A watch entry as the settlement of a piece with this sequence number and this estimate leaves it. -/
def WatchEntry.settledBy (p : Nat × Nat) (e : WatchEntry) : WatchEntry := if e.seq = p.1 then { e with settled := some (p.2, .reject) } else e

/-- The sequence number of a piece and the estimate that the gate settles it with as a fault cuts it (R80). -/
def Passage.cut (x : Passage) : Nat × Nat := (x.seq, (x.measure.map Measure.estimate).getD 1)

/-- The measure that a fault settles a piece in flight with (R80). -/
def Passage.cutMeasure (x : Passage) : Measure :=
  { x.measure.getD { length := 0, thickness := 0, cls := .unmeasured, estimate := 1, route := .reject } with route := .reject }

theorem Passage.cutMeasure_estimate (x : Passage) : x.cutMeasure.estimate = (x.measure.map Measure.estimate).getD 1 := by
  unfold cutMeasure
  cases x.measure <;> rfl

theorem WatchEntry.settledBy_seq (p : Nat × Nat) (e : WatchEntry) : (e.settledBy p).seq = e.seq := by
  unfold settledBy
  split <;> rfl

theorem WatchEntry.settledBy_other {p : Nat × Nat} {e : WatchEntry} (other : p.1 ≠ e.seq) : e.settledBy p = e := if_neg other.symm

/-- A piece that none of the settlements names keeps its entry. -/
theorem settledBy_foldl_other (l : List (Nat × Nat)) (e : WatchEntry) (others : ∀ p ∈ l, p.1 ≠ e.seq) :
    l.foldl (fun e p => e.settledBy p) e = e := by
  induction l with
  | nil => rfl
  | cons p l ih =>
    rw [List.foldl_cons, WatchEntry.settledBy_other (others p List.mem_cons_self)]
    exact ih fun q hq => others q (List.mem_cons_of_mem p hq)

/-- Of settlements with different numbers the one that names a piece gives its estimate. -/
theorem settledBy_foldl_mem {l : List (Nat × Nat)} (nodup : (l.map Prod.fst).Nodup) {e : WatchEntry} {k : Nat} (h : (e.seq, k) ∈ l) :
    (l.foldl (fun e p => e.settledBy p) e).settled = some (k, .reject) := by
  induction l with
  | nil => simp at h
  | cons p l ih =>
    rw [List.map_cons, List.nodup_cons] at nodup
    obtain ⟨fresh, nodup⟩ := nodup
    rw [List.foldl_cons]
    rcases List.mem_cons.mp h with rfl | later
    · have settled : e.settledBy (e.seq, k) = { e with settled := some (k, .reject) } := if_pos rfl
      rw [settled, settledBy_foldl_other l { e with settled := some (k, .reject) } fun q hq same => fresh (List.mem_map.mpr ⟨q, hq, same⟩)]
    · rw [WatchEntry.settledBy_other fun same => fresh (List.mem_map.mpr ⟨_, later, same.symm⟩)]
      exact ih nodup later

/-- The estimate that a fault takes of a watch entry: the gate's for a piece that is still in it or in flight (R80). -/
theorem settledBy_estimate {l : List Passage} {cuts : List (Nat × Nat)} (perm : cuts.Perm (l.map Passage.cut)) (nodup : (l.map Passage.seq).Nodup)
    (e : WatchEntry) : ((cuts.foldl (fun e p => e.settledBy p) e).settled.map Prod.fst).getD 0 =
      match l.find? fun x => x.seq == e.seq with
      | some x => (x.measure.map Measure.estimate).getD 1
      | none => (e.settled.map Prod.fst).getD 0 := by
  have numbers : (cuts.map Prod.fst).Nodup := by
    have same := perm.map Prod.fst
    rw [List.map_map] at same
    exact same.nodup_iff.mpr nodup
  cases found : l.find? fun x => x.seq == e.seq with
  | some x =>
    have seq : x.seq = e.seq := by simpa using List.find?_some found
    have named : (e.seq, (x.measure.map Measure.estimate).getD 1) ∈ cuts := by
      rw [perm.mem_iff, ← seq]
      exact List.mem_map.mpr ⟨x, List.mem_of_find?_eq_some found, rfl⟩
    rw [settledBy_foldl_mem numbers named]
    rfl
  | none =>
    rw [settledBy_foldl_other cuts e fun p hp same => ?_]
    obtain ⟨x, hx, rfl⟩ := List.mem_map.mp (perm.mem_iff.mp hp)
    have other := List.find?_eq_none.mp found x hx
    exact other (beq_iff_eq.mpr same)

/-! ### The settlements -/

/-- No piece that the watch expects has left by an exit. -/
def Wall.Unexited (w : Wall) : Prop := ∀ e ∈ w.transport.watch, e.seq ∉ w.transport.exitedEarly

section
variable {n : LaneId} {u v w : Wall} {x : Passage} {m : Measure}

/-- Orders of a lane that end change the queue of the transport alone. -/
theorem Wall.LaneSteps.path (h : w.LaneSteps n v) : v.transport = { w.transport with queue := v.transport.queue } := by
  induction h with
  | refl => rfl
  | ends _ e ih => rw [e.transport, ih]
  | accept _ b ih => exact ih
  | lane _ f hf ih => exact ih

/-- Between two walls the settlement of these pieces has reached the watch. -/
structure Wall.Settles (w v : Wall) (cuts : List (Nat × Nat)) : Prop where
  watch : v.transport.watch = w.transport.watch.map fun e => cuts.foldl (fun e p => e.settledBy p) e
  early : ∀ q ∈ v.transport.exitedEarly, q ∈ w.transport.exitedEarly

theorem Wall.Settles.refl (w : Wall) : w.Settles w [] := ⟨(List.map_id' _).symm, fun _ => id⟩

theorem Wall.Settles.trans {a b : List (Nat × Nat)} (h : u.Settles v a) (h' : v.Settles w b) : u.Settles w (a ++ b) where
  watch := by
    rw [h'.watch, h.watch, List.map_map]
    exact List.map_congr_left fun e _ => (List.foldl_append ..).symm
  early q hq := h.early q (h'.early q hq)

theorem Wall.Settles.of_path {cuts : List (Nat × Nat)} (h : u.Settles v cuts)
    (path : w.transport.watch = v.transport.watch ∧ w.transport.exitedEarly = v.transport.exitedEarly) : u.Settles w cuts :=
  ⟨path.1.trans h.watch, by rw [path.2]; exact h.early⟩

theorem settledBy_foldl_seq (cuts : List (Nat × Nat)) (e : WatchEntry) : (cuts.foldl (fun e p => e.settledBy p) e).seq = e.seq := by
  induction cuts generalizing e with
  | nil => rfl
  | cons p l ih => exact (ih _).trans (e.settledBy_seq p)

theorem Wall.Settles.unexited {cuts : List (Nat × Nat)} (h : w.Settles v cuts) (hw : w.Unexited) : v.Unexited := by
  intro e he exited
  rw [h.watch] at he
  obtain ⟨f, hf, rfl⟩ := List.mem_map.mp he
  rw [settledBy_foldl_seq] at exited
  exact hw f hf (h.early _ exited)

/-- The report of a settled piece reaches the watch (R76, R90). -/
theorem Wall.Settles.reportSettled (route : m.route = .reject) (hw : w.Unexited) : w.Settles (w.reportSettled x m) [(x.seq, m.estimate)] := by
  unfold Wall.reportSettled
  split
  · next exited =>
    obtain ⟨_, _, _, _, _, _, e⟩ := Wall.creditExit_frame x.source m.estimate m.route
      (w.modTransport fun t => { t with exitedEarly := t.exitedEarly.filter fun q => q ≠ x.seq })
    rw [e]
    refine ⟨?_, fun q hq => (List.mem_filter.mp hq).1⟩
    refine ((List.map_congr_left fun e he => ?_).trans (List.map_id' _)).symm
    refine WatchEntry.settledBy_other fun same => hw e he ?_
    rw [← same]
    simpa using exited
  · refine ⟨List.map_congr_left fun e _ => ?_, fun _ => id⟩
    rw [route]
    rfl

/-- A piece settles on the FAULTED path (R76). -/
theorem Wall.Settles.settle (route : m.route = .reject) (cut : Bool) (faulted : w.transport.state = .faulted) (hw : w.Unexited) :
    w.Settles (w.settle x m cut) [(x.seq, m.estimate)] := by
  have other : m.route ≠ .stacker := by simp [route]
  obtain ⟨watch, early⟩ := Wall.Settles.reportSettled (w := w.modGate (Gate.trace1 x m cut)) (x := x) route hw
  have reported : w.Settles ((w.modGate (Gate.trace1 x m cut)).reportSettled x m) [(x.seq, m.estimate)] := ⟨watch, early⟩
  have before : w.Settles (w.settledBefore x m cut) [(x.seq, m.estimate)] := by
    unfold Wall.settledBefore
    dsimp only
    split
    · refine reported.of_path ?_
      rw [(Wall.Recorded.recordPassage ..).frame]
      exact ⟨rfl, rfl⟩
    · exact reported
  rcases Wall.settle_eq (x := x) other cut w with e | e <;> rw [e]
  · exact before
  · rcases Wall.countReject_steps m (Wall.settledBefore_move x other cut faulted).stays with same | ⟨k, -, steps⟩
    · rwa [same]
    · refine before.of_path ?_
      rw [steps.path]
      exact ⟨rfl, rfl⟩

theorem Wall.Settles.settleCut (l : List Passage) (faulted : w.transport.state = .faulted) (hw : w.Unexited) :
    w.Settles (settleCut l w) (l.map Passage.cut) := by
  induction l generalizing w with
  | nil => exact .refl w
  | cons x l ih =>
    have settled := Wall.Settles.settle (x := x) (m := x.cutMeasure) rfl true faulted hw
    have move := (Wall.FaultMove.refl faulted).settle (x := x) (m := x.cutMeasure) (cut := true) (by simp [Passage.cutMeasure])
    have both := settled.trans (ih move.stays (settled.unexited hw))
    rw [x.cutMeasure_estimate] at both
    exact both

end

end Sys2Proof.Machine
end

section
/-! SUPPORT. The closing of the gate settles each piece in it and in flight once, and the unaccounted count takes what the watch then tells (R80, R98). -/

namespace Sys2Proof.Machine

theorem splitAtFirst_some {α : Type} {f : α → Bool} {l older younger : List α} {x : α} (h : splitAtFirst f l = some (older, x, younger)) :
    l = older ++ x :: younger ∧ f x = true := by
  induction l generalizing older with
  | nil => cases h
  | cons y l ih =>
    rw [splitAtFirst] at h
    split at h
    · next found =>
      obtain ⟨rfl, rfl, rfl⟩ := h
      exact ⟨rfl, found⟩
    · obtain ⟨⟨a, z, b⟩, later, e⟩ := Option.map_eq_some_iff.mp h
      obtain ⟨rfl, rfl, rfl⟩ := e
      obtain ⟨split, found⟩ := ih later
      exact ⟨congrArg (y :: ·) split, found⟩

theorem splitAtFirst_none {α : Type} {f : α → Bool} {l : List α} (h : splitAtFirst f l = none) : ∀ x ∈ l, f x = false := by
  induction l with
  | nil => simp
  | cons y l ih =>
    rw [splitAtFirst] at h
    split at h
    · cases h
    · next other =>
      intro x hx
      rcases List.mem_cons.mp hx with rfl | later
      · exact Bool.eq_false_iff.mpr other
      · exact ih (Option.map_eq_none_iff.mp h) x later

/-- The pieces have numbers of their own, one that is measured has not reached the diverter, and one that is not is the piece in the gate. -/
structure Gate.Orderly (g : Gate) : Prop where
  numbers : (g.passages.map Passage.seq).Nodup
  measured : ∀ x ∈ g.passages, x.measure ≠ none → x.reached = false
  inside : ∀ x ∈ g.passages, x.measure = none → g.inPassage = true ∧ ∀ y ∈ g.passages, y.measure = none → y = x

theorem Gate.inFlight_all {g : Gate} (h : ∀ x ∈ g.passages, x.reached = false) : g.inFlight = g.passages := by
  refine List.filter_eq_self.mpr fun x hx => ?_
  rw [h x hx]
  rfl

section
variable {jam : Bool} {w : Wall}

/-- Once the gate has done with the piece in it, every piece of the list is in flight, and each piece has been or will be settled once. -/
theorem Wall.Settles.closePassage (orderly : w.gate.Orderly) (faulted : w.transport.state = .faulted) (hw : w.Unexited) :
    ∃ cuts, w.Settles (w.closePassage true false) cuts ∧ (w.closePassage true false).transport.state = .faulted
      ∧ (cuts ++ (w.closePassage true false).gate.inFlight.map Passage.cut).Perm (w.gate.passages.map Passage.cut) := by
  obtain ⟨numbers, measured, inside⟩ := orderly
  rcases w.closePassage_fault with ⟨idle, e⟩ | ⟨older, x, younger, m, current, route, estimate, e⟩
  · have flying : ∀ y ∈ w.gate.passages, y.reached = false := fun y hy => by
      refine measured y hy fun none => ?_
      obtain ⟨passing, -⟩ := inside y hy none
      rw [Gate.current, if_pos passing] at idle
      simpa [none] using splitAtFirst_none idle y hy
    refine ⟨[], ?_, ?_, ?_⟩ <;> rw [e]
    · exact .refl w
    · exact faulted
    · rw [Gate.inFlight_all flying]
      exact .refl _
  · have split : w.gate.passages = older ++ x :: younger ∧ x.measure = none := by
      unfold Gate.current at current
      split at current
      · obtain ⟨split, none⟩ := splitAtFirst_some current
        exact ⟨split, Option.isNone_iff_eq_none.mp none⟩
      · cases current
    obtain ⟨split, unmeasured⟩ := split
    rw [split] at numbers measured inside ⊢
    have own : x.cut = (x.seq, m.estimate) := by rw [Passage.cut, unmeasured, estimate]; rfl
    have flying : ∀ y ∈ older ++ younger, y.reached = false := fun y hy => by
      have listed : y ∈ older ++ x :: younger := by
        rcases List.mem_append.mp hy with h | h
        · exact List.mem_append_left _ h
        · exact List.mem_append_right _ (List.mem_cons_of_mem _ h)
      refine measured y listed fun none => ?_
      obtain ⟨-, only⟩ := inside x (List.mem_append_right _ List.mem_cons_self) unmeasured
      have perm : ((older ++ x :: younger).map Passage.seq).Perm ((x :: (older ++ younger)).map Passage.seq) := List.perm_middle.map _
      have fresh := perm.nodup_iff.mp numbers
      rw [List.map_cons, List.nodup_cons] at fresh
      exact fresh.1 (List.mem_map.mpr ⟨y, hy, by rw [only y listed none]⟩)
    rcases e with ⟨-, e⟩ | ⟨reached, e⟩
    · have settled := Wall.Settles.settle (w := w.modGate fun g => { g with inPassage := false, passages := older ++ younger }) (x := x) route false faulted hw
      have move := (Wall.FaultMove.refl (w := w.modGate fun g => { g with inPassage := false, passages := older ++ younger }) faulted).settle
        (x := x) (m := m) (cut := false) (by simp [route])
      have lists := move.lists
      simp only [Gate.lists, Prod.mk.injEq] at lists
      obtain ⟨-, passages, -⟩ := lists
      refine ⟨[(x.seq, m.estimate)], ?_, ?_, ?_⟩ <;> rw [e]
      · exact ⟨settled.watch, settled.early⟩
      · exact move.stays
      · rw [Gate.inFlight_all (by rw [passages]; exact flying), passages, ← own]
        exact (List.perm_middle.map Passage.cut).symm
    · have flying' : ∀ y ∈ older ++ { x with measure := some m } :: younger, y.reached = false := fun y hy => by
        rcases List.mem_append.mp hy with h | h
        · exact flying y (List.mem_append_left _ h)
        · rcases List.mem_cons.mp h with rfl | h
          · exact reached
          · exact flying y (List.mem_append_right _ h)
      refine ⟨[], ?_, ?_, ?_⟩ <;> rw [e]
      · exact ⟨(Wall.Settles.refl w).watch, fun _ => id⟩
      · exact faulted
      · have listed : (w.modGate fun g => { g with inPassage := false, passages := older ++ { x with measure := some m } :: younger }).gate.inFlight
            = older ++ { x with measure := some m } :: younger := Gate.inFlight_all flying'
        rw [listed, List.nil_append, List.map_append, List.map_cons, List.map_append, List.map_cons, own]
        exact .refl _

/-- The gate closes: each piece in it or in flight has settled once (R80). -/
theorem Wall.Settles.closeGate (orderly : w.gate.Orderly) (faulted : w.transport.state = .faulted) (hw : w.Unexited) :
    ∃ cuts, w.Settles w.closeGate cuts ∧ cuts.Perm (w.gate.passages.map Passage.cut) := by
  obtain ⟨cuts, closed, state, perm⟩ := Wall.Settles.closePassage orderly faulted hw
  rw [Wall.closeGate_eq]
  have flying := Wall.Settles.settleCut (w := (w.closePassage true false).modGate Gate.dropped) (w.closePassage true false).gate.inFlight state
    (closed.unexited hw)
  exact ⟨_, (closed.trans ⟨flying.watch, flying.early⟩).of_path ⟨rfl, rfl⟩, perm⟩

/-! ### The unaccounted count (R98) -/

/-- The estimate that a fault takes of a watch entry (R80, R98). -/
def Wall.faultEstimate (w : Wall) (e : WatchEntry) : Nat :=
  match w.gate.passages.find? fun x => x.seq == e.seq with
  | some x => (x.measure.map Measure.estimate).getD 1
  | none => (e.settled.map Prod.fst).getD 0

/-- The gate closes and the watch is emptied. -/
theorem Wall.closeGate_unaccounted (orderly : w.gate.Orderly) (faulted : w.transport.state = .faulted) (hw : w.Unexited) :
    w.closeGate.watchDropped.transport.unaccounted = min 65535 (w.transport.unaccounted + (w.transport.watch.map w.faultEstimate).sum) := by
  obtain ⟨cuts, settles, perm⟩ := Wall.Settles.closeGate orderly faulted hw
  obtain ⟨f, move, -⟩ := Wall.closeGate_move faulted
  have count : w.closeGate.transport.unaccounted = w.transport.unaccounted := by
    rw [move.transport]
    rfl
  have estimates : watchEstimates (fun _ => 0) w.closeGate.transport.watch = (w.transport.watch.map w.faultEstimate).sum := by
    rw [watchEstimates, settles.watch, List.map_map]
    exact congrArg List.sum (List.map_congr_left fun e _ => settledBy_estimate perm orderly.numbers e)
  show satAdd 65535 w.closeGate.transport.unaccounted (watchEstimates (fun _ => 0) w.closeGate.transport.watch) = _
  rw [count, estimates, satAdd]

theorem Wall.lockdownLanes_path (l : List LaneId) {w : Wall} (faulted : w.transport.state = .faulted) :
    (l.foldl (fun w m => w.lockdownLane m) w).transport =
      { w.transport with queue := (l.foldl (fun w m => w.lockdownLane m) w).transport.queue } := by
  induction l generalizing w with
  | nil => rfl
  | cons m l ih =>
    have steps := Wall.LaneSteps.lockdownLane m faulted
    have path := ih (steps.move faulted).stays
    rw [steps.path] at path
    exact path

/-- A fault's point goes ACTIVE: of the transport no more than the queue changes. -/
theorem Wall.setInternal_path {p : PointId} (hp : 12 ≤ p.val) {w : Wall} (faulted : w.transport.state = .faulted) :
    (w.setInternal p true).transport = { w.transport with queue := (w.setInternal p true).transport.queue } := by
  have met : (w.pointMet p).transport = w.transport := by rw [w.pointMet_frame p]
  have state : (w.pointMet p).transport.state = .faulted := by rw [met]; exact faulted
  have each := Wall.lockdownLanes_path laneIds state
  rw [← Wall.eachLane] at each
  rw [Wall.setInternal_active hp]
  generalize w.pointMet p = u at *
  rw [← met]
  split
  · exact each
  · rfl

theorem Wall.transportFault_unaccounted (jam : Bool) (orderly : w.gate.Orderly) (hw : w.Unexited) :
    (w.transportFault jam).transport.unaccounted = min 65535 (w.transport.unaccounted + (w.transport.watch.map w.faultEstimate).sum) := by
  obtain ⟨f, move, -⟩ := w.transportFault_move jam
  have same : (w.transportFault jam).transport.unaccounted = (w.faultStopped jam).transport.unaccounted := by
    rw [move.transport, Wall.modPort_transport, (w.faultParted_spec jam).transport]
  have faulted : w.faultMarked.transport.state = .faulted := by rw [w.faultMarked_frame]
  have gate : w.faultMarked.gate = w.gate := by rw [w.faultMarked_frame]
  have path : w.faultMarked.transport.unaccounted = w.transport.unaccounted ∧ w.faultMarked.transport.watch = w.transport.watch
      ∧ w.faultMarked.transport.exitedEarly = w.transport.exitedEarly := by
    rw [w.faultMarked_frame]
    exact ⟨rfl, rfl, rfl⟩
  rw [same]
  have dropped (v : Wall) (state : v.transport.state = .faulted) (passages : v.gate.passages = w.gate.passages) (inPassage : v.gate.inPassage = w.gate.inPassage)
      (count : v.transport.unaccounted = w.transport.unaccounted) (watch : v.transport.watch = w.transport.watch)
      (early : v.transport.exitedEarly = w.transport.exitedEarly) :
      v.closeGate.watchDropped.transport.unaccounted = min 65535 (w.transport.unaccounted + (w.transport.watch.map w.faultEstimate).sum) := by
    have estimate : v.faultEstimate = w.faultEstimate := by
      funext e
      unfold Wall.faultEstimate
      rw [passages]
    rw [Wall.closeGate_unaccounted ⟨by rw [passages]; exact orderly.numbers, by rw [passages]; exact orderly.measured,
      by rw [passages, inPassage]; exact orderly.inside⟩ state (by unfold Wall.Unexited; rw [watch, early]; exact hw), estimate, count, watch]
  obtain ⟨count, watch, early⟩ := path
  cases jam with
  | true =>
    have stopped := Wall.FaultSteps.closeGate faulted
    have set := Wall.setInternal_path (p := 12) (by decide) (w := w.faultMarked.closeGate.watchDropped) (stopped.stays faulted)
    rw [Wall.faultStopped, if_pos rfl, Wall.post_frame]
    have kept := congrArg Transport.unaccounted set
    exact kept.trans (dropped w.faultMarked faulted (by rw [gate]) (by rw [gate]) count watch early)
  | false =>
    have set := Wall.setInternal_path (p := 15) (by decide) (w := w.faultMarked.modGate fun g => { g with loss := true }) faulted
    have lists : w.faultMarked.lossSet.gate.lists = (w.faultMarked.modGate fun g => { g with loss := true }).gate.lists :=
      Wall.setInternal_lists (by decide) faulted
    simp only [Gate.lists, Prod.mk.injEq] at lists
    obtain ⟨inPassage, passages, -⟩ := lists
    have lost : w.faultMarked.lossSet.transport = { w.faultMarked.transport with queue := w.faultMarked.lossSet.transport.queue } := set
    rw [Wall.faultStopped, if_neg (by simp), Wall.post_frame]
    exact dropped w.faultMarked.lossSet (by rw [lost]; exact faulted) (by rw [passages, ← gate]; rfl) (by rw [inPassage, ← gate]; rfl)
      (by rw [lost]; exact count) (by rw [lost]; exact watch) (by rw [lost]; exact early)

end

end Sys2Proof.Machine
end

section
/-! PROOF. What a transport fault posts, counts and ends (O51): each clause by the lemma about the order, the request or the count that it names. -/

namespace Sys2Proof.Machine

section
variable {n : LaneId} {x : SlotId} {c : DispenseContext} {t : Tally} {jam : Bool} {w : Wall}

/-- With no DISPENSE at the path, nothing in the gate and no lockdown, the cassettes stand until the requests meet the fault. -/
theorem Wall.faultEnded_cassettes (idle : w.gate.inPassage = false) (empty : w.gate.passages = []) (free : w.pointLocks (faultPoint jam) = false)
    (dispense : ∀ m, w.transport.join ≠ .dispense m) (orderless : ∀ m, w.transport.join = .retract m → w.orderOf m .dispense = none) :
    (w.faultEnded jam).cassettes = w.cassettes := by
  have parted : (w.faultParted jam).cassettes = w.cassettes := by
    rw [(w.faultParted_spec jam).frame]
    exact Wall.faultStopped_cassettes idle empty free
  rw [← parted, Wall.faultEnded]
  cases join : w.transport.join with
  | none => rfl
  | dispense m => exact absurd join (dispense m)
  | retract m =>
    have notes := Wall.faultParted_notes (jam := jam) (n := m) (.inl ⟨idle, empty⟩) (by simp [join]) (.inl free)
    have notAny := (notes.orderOf (k := .dispense) rfl).trans (orderless m join)
    have rested : ((w.faultParted jam).modLane m Lane.retractRest).orderOf m .dispense = none := notAny
    show (((w.faultParted jam).modLane m Lane.retractRest).reportRetract m true).cassettes = _
    unfold Wall.reportRetract
    simp only [rested]
    split
    · rw [Wall.finishAt_frame, Wall.postForeign_frame]
      rfl
    · rfl
  | clearance =>
    unfold Wall.faultHolder
    dsimp only
    split
    · rw [Wall.finish_frame]
      rfl
    · rfl

/-- An order that is over with its own result is finished with it. -/
theorem Wall.Over.finishedWith {v : Wall} {e : OrderEnd} {fields : List Word}
    (h : v.Over n x (resultWords e (w.slot (lanePage n) x).tooLate w.port.seconds fields)) : w.finishedWith v (lanePage n) x e fields :=
  ⟨h.state, h.result⟩

/-- The context of an order that is not loaded is that of its progress area. -/
theorem Wall.Dispensing.of_progress (order : w.orderOf n .dispense = some x) (context : (w.slot (lanePage n) x).context = some c)
    (tally : w.tallyOf n = some t) (unloaded : w.engine.loaded.map Loaded.lane ≠ some n) : w.Dispensing n x c t :=
  ⟨order, (Wall.contextOf_progress order unloaded).trans context, tally⟩

/-- The DISPENSE whose tenure holds the path is the loaded one. -/
theorem Wall.Held.of_loaded {l : Loaded} (join : w.transport.join = .dispense n) (order : w.orderOf n .dispense = some x)
    (tally : w.tallyOf n = some t) (loaded : w.engine.loaded = some l) (lane : l.lane = n) (slot : l.slot = x) : w.Held n x l.context t := by
  have own : w.loadedIn n = some l := by simp [Wall.loadedIn, loaded, Option.filter, lane]
  refine ⟨join, ⟨order, ?_, tally⟩, by rw [own, Option.map_some, slot]⟩
  rw [Wall.contextOf_eq, own]
  rfl

/-! ### The DISPENSE that holds the path (R95, R98, R105) -/

section
variable (held : w.Held n x c t) (others : ∀ r ∈ w.transport.queue, r.lane ≠ n)
include held others

/-- With an empty stacker, or in a delivery, it finishes at once. -/
theorem Wall.Held.ends (jam : Bool) (empty : w.transport.stackerCount = 0 ∨ c.phase = .delivering) :
    (w.transportFault jam).transport.dump = none ∧ (w.transportFault jam).transport.composition = Counts.zero
      ∧ ((w.transportFault jam).slot (lanePage n) x).state = .finished ∧ (w.transportFault jam).tallyOf n = none
      ∧ ((w.transportFault jam).lanes.get n).owner ≠ some x
      ∧ ((w.transportFault jam).slot (lanePage n) x).result.take 4 =
        resultWords .transportFault (w.slot (lanePage n) x).tooLate w.port.seconds [] := by
  obtain ⟨c', t', still⟩ := held.faultStopped jam
  have phase : c'.phase = c.phase := (congrArg DispenseContext.phase still.core :)
  rw [← phase] at empty
  obtain ⟨dump, composition⟩ := (still.parted held.join).empties empty
  obtain ⟨sameDump, sameComposition⟩ := w.transportFault_dump jam
  obtain ⟨ended, gone, -⟩ := still.ended held.join others empty
  obtain ⟨-, seconds, -⟩ := w.faultParted_kept jam
  refine ⟨sameDump.trans dump, sameComposition.trans composition, ended.state, gone, ended.owner, ?_⟩
  rw [ended.result, Wall.faultWords, resultWords_take, still.late held.join, seconds]

/-- In a delivery with nothing in the gate its notes are presented and unresolved. -/
theorem Wall.Held.delivery (jam : Bool) (phase : c.phase = .delivering) (idle : w.gate.inPassage = false) (empty : w.gate.passages = []) :
    (w.pointLocks (faultPoint jam) = false ∨ ((w.lanes.get n).drawer ≠ .offered ∧ (w.lanes.get n).drawer ≠ .opening) →
        ((w.transportFault jam).lanes.get n).drawer = if (w.lanes.get n).itemSensor then .holding else (w.lanes.get n).drawer)
      ∧ w.finishedWith (w.transportFault jam) (lanePage n) x .transportFault
        (tallyWords c (t.cutDelivery w.transport.composition) (w.valueOf (addCounts t.presented w.transport.composition)) (w.transportFault jam).duressAlarm)
      ∧ (w.transport.queue = [] → w.pointLocks (faultPoint jam) = false →
        ∀ k, ((w.transportFault jam).cassettes.get k).reserved = (w.cassettes.get k).reserved - c.outstanding.get k) := by
  obtain ⟨c', t', still⟩ := held.faultStopped jam
  have phase' : c'.phase = .delivering := (congrArg DispenseContext.phase still.core :).trans phase
  have outstanding : c'.outstanding = c.outstanding := (congrArg DispenseContext.outstanding still.core :)
  obtain ⟨ended, -, released⟩ := still.ended held.join others (.inr phase')
  obtain ⟨-, seconds, profile⟩ := w.faultParted_kept jam
  have composition : (w.faultStopped jam).transport.composition = w.transport.composition := by
    rw [(w.faultStopped_spec jam).steps.transport, w.faultMarked_frame]
  have cut : ((w.faultStopped jam).partedTally c' t').unmarked = { (t.cutDelivery w.transport.composition).unmarked with faulted := true } := by
    rw [Wall.partedTally, if_pos phase', composition]
    exact congrArg (Tally.cutDelivery w.transport.composition) (still.tally idle empty)
  rw [Wall.faultWords_held still.core cut (still.late held.join) seconds profile, Wall.faultParted_duress] at ended
  refine ⟨still.drawer held.join phase' (.inl ⟨idle, empty⟩), ended.finishedWith, fun nothing free k => ?_⟩
  rw [released nothing k, Wall.faultStopped_cassettes idle empty free, outstanding]

/-- With notes in the stacker and no delivery it waits for the stacker's dump. -/
theorem Wall.Held.waits (jam : Bool) (notes : 0 < w.transport.stackerCount) (phase : c.phase ≠ .delivering)
    (tenure : ∀ d, w.transport.dump = some d → d.purpose = .tenure) :
    (w.transportFault jam).transport.dump = some { purpose := .fault (some n), leftMs := (w.transport.dump.map Dump.leftMs).getD 1500 }
      ∧ (w.transportFault jam).transport.composition = w.transport.composition
      ∧ ((w.transportFault jam).slot (lanePage n) x).state = (w.slot (lanePage n) x).state
      ∧ ((w.transportFault jam).tallyOf n).map Tally.faulted = some true := by
  obtain ⟨c', t', still⟩ := held.faultStopped jam
  have phase' : c'.phase ≠ .delivering := fun same => phase ((congrArg DispenseContext.phase still.core :).symm.trans same)
  obtain ⟨dump, composition⟩ := (still.parted held.join).dumps notes phase' tenure
  obtain ⟨sameDump, sameComposition⟩ := w.transportFault_dump jam
  exact ⟨sameDump.trans dump, sameComposition.trans composition, still.stands held.join others (by rw [dump]; rfl)⟩

end

end

/-- Settles O51. The holder of the path, a granted retract, a clearance and the requests of the queue end in that order (`Wall.transportFault_eq`), each by its own
lemma; what stands of a lane up to its turn is `Wall.faultStopped_notes`, or `Wall.Dispensing.faultStopped_locked` where lockdown comes first. -/
theorem faultEndings : Obligations.FaultEndings := by
  unfold Obligations.FaultEndings
  rintro w jam q rfl
  refine ⟨_, rfl, (w.transportFault_clear jam).1, w.transportFault_active jam, fun idle empty e he => ?_, fun numbers unexited measured inside => ?_,
    fun n x ty join order tally l loaded lane slot others => ?_, fun n join idle empty others => ?_, fun join => w.transportFault_clearance join,
    fun n x ty waits order tally own dispense retract c context unloaded => ?_, fun n waits own dispense retract unloaded still => ?_⟩
  · obtain rfl : e = w.faultNews jam := he.trans (by
      unfold Wall.faultNews
      cases jam
      · rfl
      · cases w.transport.join <;> rfl)
    refine ⟨Wall.transportFault_news idle empty jam, fun n x join orderless order => ?_⟩
    have told := Wall.transportFault_foreign idle empty jam join orderless order
    unfold Wall.postForeign at told
    exact ⟨fun pieces => by rwa [if_pos pieces] at told, fun none => by rwa [if_neg (by omega)] at told⟩
  · exact w.transportFault_unaccounted jam ⟨numbers, measured, inside⟩ unexited
  · have held := Wall.Held.of_loaded join order tally loaded lane slot
    obtain ⟨accept, unloaded⟩ := Wall.transportFault_released (jam := jam) join
    exact ⟨accept, unloaded, held.ends others jam, held.delivery others jam, held.waits others jam⟩
  · have aside := Wall.faultEnded_aside (jam := jam) others
    refine ⟨Wall.transportFault_retract_drawer join idle empty jam, fun x orderless order => ?_, ?_⟩
    · obtain ⟨ended, -⟩ := Wall.faultEnded_retract_order (jam := jam) join idle empty orderless order
      have kept := ended.of_aside aside
      exact ⟨kept.owner, kept.state, kept.result⟩
    · rintro x c ty order context tally outlasts - back rfl
      obtain ⟨ended, gone⟩ := Wall.faultEnded_retract_dispense join idle empty ⟨order, context, tally⟩ outlasts
      rw [Wall.faultEnded_duress] at ended
      have kept := ended.of_aside aside
      exact ⟨kept.owner, aside.tally_none gone, kept.finishedWith⟩
  · have dispensing := Wall.Dispensing.of_progress order context tally unloaded
    refine ⟨fun locks phase fresh sound => ?_, fun free => ?_⟩
    · obtain ⟨ended, gone⟩ := dispensing.transportFault_locked dispense retract locks phase fresh sound
      exact ⟨ended.owner, gone, ended.finishedWith⟩
    · obtain ⟨ended, gone, released⟩ :=
        dispensing.transportFault_bundle retract dispense waits own (Wall.loadedIn_eq_none.mpr unloaded) free
      refine ⟨ended.owner, gone, ended.finishedWith, fun k idle empty none same orderless => ?_⟩
      rw [released same k, Wall.faultEnded_cassettes idle empty free none orderless]
  · have apart := Wall.loadedIn_eq_none.mpr unloaded
    have drawer := Wall.transportFault_drawer (jam := jam) retract dispense (still.imp id fun ⟨offered, opening', _⟩ => ⟨offered, opening'⟩)
    refine ⟨fun x orderless order => ?_, fun x c ty order context tally => ?_⟩
    · have ended := Wall.transportFault_retract_order (jam := jam) retract dispense waits own apart orderless order
      exact ⟨ended.owner, drawer, ended.finishedWith⟩
    · have dispensing := Wall.Dispensing.of_progress order context tally unloaded
      obtain ⟨ended, gone⟩ := dispensing.transportFault_retract retract dispense waits own apart
        (still.imp id fun ⟨_, _, phases⟩ => phases c dispensing.context)
      exact ⟨ended.owner, gone, drawer, ended.finishedWith⟩

end Sys2Proof.Machine
end
